-- ==== Sys2Proof/Word.lean ====
section
/-! DEFINITION. The byte, the one word type of the 2440's two serial lines, and a list-based map over
fixed-length vectors. Every quantity the manual gives a unit (levers, speeds, volumes, tonnes) is an
exact integer, and every identity or count is a natural number: the manual adds and compares them, and
rounds each division as R1 names it; it never shifts or masks them. -/

namespace Sys2Proof

/-- One character of the Bridge Link (R171) or of the Barge Line (R32): 8 data bits. -/
abbrev Byte := BitVec 8

/-- Apply `f` to every entry of a vector. Written over the list so that the kernel evaluates it. -/
def mapVec {α β : Type} {n : Nat} (f : α → β) (v : Vector α n) : Vector β n :=
  ⟨⟨v.toList.map f⟩, by simp⟩

/-- Apply `f` to every entry of two vectors, position by position. -/
def zipVec {α β γ : Type} {n : Nat} (f : α → β → γ) (v : Vector α n) (w : Vector β n) : Vector γ n :=
  ⟨⟨List.zipWith f v.toList w.toList⟩, by simp⟩

end Sys2Proof
end

