-- ==== Sys2Proof/Syntax.lean ====
section
/-! DEFINITION. The commands of the 2440: one constructor for each row of spec/opcode_table.json. The first 35 are
the requests of the Bridge Link (R198), each taken as the handling of that request by its owner (R174, step 3);
the others are events: frames and bytes on the two serial lines, timers and periods that run out, pulses, pins
and supply events. Numbers a request carries are given as its field encodes them (R196, R198), before any range
check; what an event samples (an analog input, a level, a temperature) is an operand of the event. -/

namespace Sys2Proof

/-- A place in the convoy grid (The 2440's conventions): column from port, row from the pushboat. In a request both
fields are half a byte, so values outside column 1..5 and row 1..6 can be carried and are refused (R196). -/
structure Pos where
  col : Nat
  row : Nat
deriving DecidableEq, Repr

/-- An end of a coupling (R7): the pushboat, or a position. -/
inductive CouplingEnd where
  | pushboat
  | barge (p : Pos)
deriving DecidableEq, Repr

/-- The three discrete inputs of an engine channel (R80). -/
inductive EngineInput where
  | running
  | aheadFeedback
  | asternFeedback
deriving DecidableEq, Repr

/-- The part of a POST_ORDER body after the tag (R198): what each order kind carries. `malformed` is an unknown kind, or
a length that does not match the kind. -/
inductive OrderSpec where
  | haul (coupling : Nat)
  | release (coupling castOff : Nat)
  | transfer (source destination litres : Nat)
  | bunker (tank : Nat)
  | malformed
deriving DecidableEq, Repr

/-- One value for each settings section, in the order ENGINE, STEERING, COUPLING, FUEL, BACKUP (R187). -/
structure PerSection (α : Type) where
  engine : α
  steering : α
  coupling : α
  fuel : α
  backup : α
deriving DecidableEq, Repr

/-- What a start finds outside the retained state: the takeover input (R78), how many sections a save in flight had
written when it was cut off (R188), and which stored sections have a worn cell (R193). -/
structure StartInputs where
  takeoverBackup : Bool
  sectionsWritten : Nat
  worn : PerSection Bool
deriving DecidableEq, Repr

/-- The commands, one constructor for each row of spec/opcode_table.json, in the table's order. -/
inductive Instr where
  | echo (body : List Byte)
  | readStatus (length : Nat)
  | fetchReports (count : Nat)
  | restart
  | setLever (lever : Int)
  | setHelm (helm : Int)
  | setSteerMode (mode : Nat)
  | setEngineModes (mask mode1 mode2 mode3 mode4 : Nat)
  | setSync (onOff : Nat)
  | readPropulsion
  | readEngine (engine : Nat)
  | readSteering
  | declareBarge (pos : Pos) (hull light cargo : Nat) (bow : Option Nat)
  | removeBarge (pos : Pos)
  | declareCoupling (number : Nat) (endA endB : CouplingEnd) (serial channel winchEnd cls : Nat)
  | withdrawCoupling (number : Nat)
  | readBarge (pos : Pos)
  | readCoupling (number : Nat)
  | listMakeup
  | readNode (serial : Nat)
  | listNodes (address : Nat)
  | forgetNode (serial : Nat)
  | postOrder (tag : Nat) (spec : OrderSpec)
  | abortOrder (tag : Nat)
  | listOrders (slot : Nat)
  | setSounding (tank litres : Nat)
  | readTank (tank : Nat)
  | readMeters (part : Nat)
  | closeLeg (number : Nat)
  | readLeg (number : Nat)
  | releaseLeg (number : Nat)
  | setVoyageClock (seconds : Nat)
  | writeSetting (sec number index : Nat) (value : Int)
  | readSetting (sec number index : Nat)
  | saveSettings (choices : PerSection Nat)
  /-- R172, R173: bytes arrive on the Bridge Link one after another, each whole and with no gap; the last normally ends a frame
  (log entry 12). -/
  | bridgeFrameReceived (bytes : List Byte)
  | bridgeByteGap
  | replySent
  | powerOn
  | supplyDip
  | resetLineAsserted
  | resetLineReleased
  | start (inputs : StartInputs)
  | saveComplete (readBackDiffers : PerSection Bool)
  | checkpointPeriodExpiry
  | checkpointWriteComplete
  | voyageClockTick
  | controlPeriodExpiry (takeoverBackup : Bool) (rawLever rawHelm : Nat)
  | silenceLimitExpiry
  | holdTimeExpiry
  | syncPeriodExpiry
  | governorPeriodEnd (engine : Fin 4)
  | shaftPulse (engine : Fin 4) (secondPhaseHigh : Bool)
  | shaftWindowExpiry (engine : Fin 4)
  | inputFilterExpiry (engine : Fin 4) (input : EngineInput)
  | engageConfirmExpiry (engine : Fin 4)
  | neutralDwellExpiry (engine : Fin 4)
  | dwellTimeoutExpiry (engine : Fin 4)
  | wrongWayExpiry (engine : Fin 4)
  | followExpiry (engine : Fin 4)
  | steeringControlPeriod (samples : Vector Nat 8)
  | turnaroundExpiry
  | masterFrameSent
  | echoFailure
  | faultRecoveryExpiry
  | downRetryExpiry
  | rejoinTimerExpiry (serial : Nat)
  | replyWindowExpiry
  | bargeFrameReceived (chars : List Byte) (stopBitLost : Bool)
  | bargeFrameSilence
  | haulTimerExpiry (coupling : Nat)
  | releaseTimerExpiry (coupling : Nat)
  | releaseWaitExpiry (tag : Nat)
  | meterPulse (meter : Fin 10)
  | accountingIntervalExpiry (temperatures : Vector (Option Int) 10)
  | logPulse
  | engineInputChange (engine : Fin 4) (input : EngineInput) (level : Bool)
  | bridgeByteFault
  | bargeReplyStart
deriving DecidableEq, Repr

end Sys2Proof
end

