-- ==== Sys2Proof/Decode.lean ====
section
/-! DEFINITION. The command a table word spells. No row of spec/opcode_table.json gives bits, so no word spells a command.
The commands that do arrive as bytes are decoded where the spec gives their bytes: a Bridge Link frame in
Machine/Operands.lean and Machine/BridgeLink.lean (R171 to R174, R197, R198), a Barge Line frame in
Machine/BargeLine.lean (R33, R34, R203). -/

namespace Sys2Proof

/-- The command that `w` spells by the table's bits: none, since no row of the table gives any. -/
def decodeTableWord (_nbits _w : Nat) : Option Instr := none

end Sys2Proof
end

