-- ==== Sys2Proof/Config.lean ====
section
/-! DEFINITION. What the manual fixes for every 2440 (table sizes, R3, R7, R39, R150, R157, R176), and the
free values: figures the manual leaves open after which the part goes on. A free value is an opaque constant,
so no proof can rest on what it is. -/

namespace Sys2Proof.Config

/-- R3: the Makeup Table holds up to 24 barge records. -/
def maxBarges : Nat := 24

/-- R3, R4: at most 2 records of the Makeup Table name a bow node serial. -/
def maxBowUnits : Nat := 2

/-- R39: line addresses run from 1 to 40, and the Node Table holds one record for each at most. -/
def maxAddress : Nat := 40

/-- R150: the Leg Log holds up to 12 closed legs. -/
def maxLegs : Nat := 12

/-- R176: the Report Queue never holds more than 32 reports. -/
def maxReports : Nat := 32

/-- R171, R177: the longest body of a Bridge Link frame, in bytes. -/
def maxBody : Nat := 240

/-- R33, R34: the longest body of a Barge Line frame, in characters. -/
def maxLineBody : Nat := 43

/-- R146, R148: the largest leg number; a leg that carries it is not closed. -/
def maxLegNumber : Nat := 4294967295

/-- R155: the largest value of the voyage clock. -/
def maxClock : Nat := 4294967295

/-- FREE VALUE (log entry 3). The value a 64-bit µL, mm or tonne-mm accumulator holds when the exact sum does not
fit in it. The manual keeps these quantities in signed 64-bit figures and states no result past their ends. The
argument is the exact sum. -/
opaque overflow64 : Int → BitVec 64

/-- FREE VALUE (log entry 4). The bytes sent for a figure too large for its field of R196: field width in bytes, then the
figure. The manual states no encoding for such a figure. -/
opaque unfitField : Nat → Int → Nat

/-- FREE VALUE (log entry 5). The milliseconds left on a running timer, as READ_ENGINE (R97) and LIST_ORDERS (R169) read
it. The model has no passing time between commands. The argument is the model's own counter of such readings. -/
opaque timeLeft : Nat → Nat

end Sys2Proof.Config
end

