-- ==== Sys2Proof/Machine/Operands.lean ====
section
/-! DEFINITION. How figures stand in bytes on the two serial lines (R196), and how a request frame's bytes are read (R171,
R172, R197): big-endian fields, positions, the CRC, and the frame itself. -/

namespace Sys2Proof.Machine

/-- The low `n` bytes of `v`, most significant byte first (R196). -/
def bytesOf : Nat → Nat → List Byte
  | 0, _ => []
  | n + 1, v => bytesOf n (v / 256) ++ [BitVec.ofNat 8 v]

/-- An unsigned field of `n` bytes (R196). A figure too large for the field is sent as a free value (log entry 4). -/
def unsigned (n v : Nat) : List Byte :=
  if v < 256 ^ n then bytesOf n v else bytesOf n (Config.unfitField n v)

/-- A signed two's-complement field of `n` bytes (R196). A figure outside the field is sent as a free value (log entry 4). -/
def signed (n : Nat) (v : Int) : List Byte :=
  if -(2 ^ (8 * n - 1) : Int) ≤ v ∧ v < (2 ^ (8 * n - 1) : Int) then bytesOf n (v % (256 ^ n : Int)).toNat
  else bytesOf n (Config.unfitField n v)

/-- R196: a yes/no byte. -/
def yesNo (b : Bool) : List Byte := [if b then 1 else 0]

/-- R196: an absent optional field is sent as zeros, with a yes/no presence byte before it. -/
def optional {α : Type} (n : Nat) (f : α → List Byte) : Option α → List Byte
  | some x => yesNo true ++ f x
  | none => yesNo false ++ List.replicate n 0

/-- R196: a list of records is their count in one byte, then the records. -/
def counted {α : Type} (f : α → List Byte) (l : List α) : List Byte := unsigned 1 l.length ++ l.flatMap f

/-- The unsigned figure that bytes give, most significant first (R196). -/
def natOf (bs : List Byte) : Nat := bs.foldl (fun a b => a * 256 + b.toNat) 0

/-- The two's-complement figure that bytes give (R196). -/
def intOf (bs : List Byte) : Int :=
  if natOf bs < 2 ^ (8 * bs.length - 1) then natOf bs else (natOf bs : Int) - 256 ^ bs.length

/-- The `n` bytes of a body from byte `i` on. -/
def field (bs : List Byte) (i n : Nat) : List Byte := (bs.drop i).take n

/-- R196: column × 16 + row. -/
def Pos.byte (p : Pos) : List Byte := unsigned 1 (p.col * 16 + p.row)

/-- R196: the column is the high four bits of a position byte, the row the low four. -/
def posOf (b : Nat) : Pos := ⟨b / 16, b % 16⟩

/-- R196: end A is 0 for the pushboat, otherwise a position. -/
def endOf (b : Nat) : CouplingEnd := if b = 0 then .pushboat else .barge (posOf b)

/-- R196: a coupling end as one byte. -/
def endByte : CouplingEnd → List Byte
  | .pushboat => [0]
  | .barge p => Pos.byte p

/-- One byte into the CRC (R171): polynomial 0x1021, most significant bit first. -/
def crcByte (c : BitVec 16) (b : Byte) : BitVec 16 :=
  (List.range 8).foldl (fun c _ => if c.msb then (c <<< 1) ^^^ 0x1021#16 else c <<< 1)
    (c ^^^ ((b.setWidth 16 : BitVec 16) <<< 8))

/-- R33, R171: CRC-16, polynomial 0x1021, initial value 0xFFFF, not inverted. -/
def crc16 (bs : List Byte) : BitVec 16 := bs.foldl crcByte 0xFFFF#16

/-- The two CRC bytes that close a frame over `bs`. -/
def crcBytes (bs : List Byte) : List Byte := bytesOf 2 (crc16 bs).toNat

/-- R173: a good request frame, as the port holds it: kind, mark and body. -/
structure Frame where
  kind : Nat
  mark : Byte
  body : List Byte
deriving DecidableEq, Repr

/-- R171, R172, R197: the request that the bytes of a complete frame carry, or none where the start byte, the length or the
CRC does not check. The CRC covers length, kind, mark and body. -/
def readRequestFrame : List Byte → Option Frame
  | s :: len :: kind :: mark :: rest =>
      let n := len.toNat
      let body := rest.take n
      if s = 0xA5#8 ∧ n ≤ Config.maxBody ∧ rest.length = n + 2 ∧ rest.drop n = crcBytes (len :: kind :: mark :: body)
      then some ⟨kind.toNat, mark, body⟩ else none
  | _ => none

/-- R171, R197: a request kind with its top bit set. A kind that has it keeps it. -/
def replyKind (kind : Nat) : Byte := BitVec.ofNat 8 kind ||| 0x80#8

/-- R171, R197: the bytes of a reply frame. The CRC covers length, kind, mark, status and body. -/
def replyFrame (kind : Nat) (mark : Byte) (status : Nat) (body : List Byte) : List Byte :=
  let inner := unsigned 1 body.length ++ [replyKind kind, mark, BitVec.ofNat 8 status] ++ body
  0xA5#8 :: inner ++ crcBytes inner

end Sys2Proof.Machine
end

