-- ==== Sys2Proof/Machine/Settings.lean ====
section
/-! DEFINITION. The settings of the five sections (R184): their values, their built-in defaults, their ranges and the
constraints among them (R6, R12, R22, R24, R27, R76, R77, R99, R121, R144, R147, R162, R163), and how a setting is
named on the Bridge Link: section, setting number and index (R184, R198). Every value is kept as the signed figure
WRITE_SETTING carries; enumerated settings use the numbers of R198. -/

namespace Sys2Proof.Machine

/-- R184, R198: the five settings sections, ENGINE 1 to BACKUP 5. -/
inductive Sec where
  | engine
  | steering
  | coupling
  | fuel
  | backup
deriving DecidableEq, Repr

/-- R198: the number of a section on the wire. -/
def Sec.ofNat? : Nat → Option Sec
  | 1 => some .engine
  | 2 => some .steering
  | 3 => some .coupling
  | 4 => some .fuel
  | 5 => some .backup
  | _ => none

/-- The entry of a section in a five-part record. -/
def Sec.pick {α : Type} (p : PerSection α) : Sec → α
  | .engine => p.engine
  | .steering => p.steering
  | .coupling => p.coupling
  | .fuel => p.fuel
  | .backup => p.backup

/-- Replace the entry of a section in a five-part record. -/
def Sec.put {α : Type} (p : PerSection α) (v : α) : Sec → PerSection α
  | .engine => { p with engine := v }
  | .steering => { p with steering := v }
  | .coupling => { p with coupling := v }
  | .fuel => { p with fuel := v }
  | .backup => { p with backup := v }

/-- The order in which a save writes the sections (R187) and a start lists them (R195). -/
def Sec.all : List Sec := [.engine, .steering, .coupling, .fuel, .backup]

/-- ENGINE settings, in the order of their setting numbers 1 to 20 (R76, R99, R198). -/
structure EngineSettings where
  present : Vector Int 4
  side : Vector Int 4
  idle : Vector Int 4
  maxSpeed : Vector Int 4
  riseRate : Int
  fallRate : Int
  asternLimit : Int
  syncWindow : Int
  syncBand : Int
  syncStep : Int
  syncLimit : Int
  ppr : Vector Int 4
  engageConfirmS : Int
  neutralDwellMs : Int
  dwellTimeoutS : Int
  shaftStop : Int
  overspeedMargin : Int
  wrongWayMs : Int
  followLimit : Int
  followTimeS : Int
deriving DecidableEq, Repr

/-- STEERING settings, numbers 1 to 13 (R121, R198). Channels S1 to S4 are entries 0 to 3, F1 to F4 entries 4 to 7. -/
structure SteeringSettings where
  steeringCount : Int
  flankingCount : Int
  feedbackMid : Vector Int 8
  countsPer10 : Vector Int 8
  windowLow : Vector Int 8
  windowHigh : Vector Int 8
  maxSteering : Int
  maxFlanking : Int
  deadband : Int
  stallTimeMs : Int
  stallMovement : Int
  diffGain : Int
  bowGain : Int
deriving DecidableEq, Repr

/-- COUPLING settings, numbers 1 to 13 (R6, R12, R22, R24, R27, R162, R163, R198). -/
structure CouplingSettings where
  class2Threshold : Int
  class3Threshold : Int
  slackThreshold : Vector Int 4
  hysteresis : Vector Int 4
  fastTarget : Vector Int 4
  overload : Vector Int 4
  overloadCap : Int
  slackCap : Int
  detachedCap : Int
  haulTimeoutS : Int
  releaseTimeoutS : Int
  releaseLimit : Int
  releaseWaitS : Int
deriving DecidableEq, Repr

/-- FUEL settings, numbers 1 to 14 (R144, R147, R198). -/
structure FuelSettings where
  meterK : Vector Int 10
  alpha : Int
  tankPresent : Vector Int 8
  role : Vector Int 8
  capacityL : Vector Int 8
  lowLevelL : Vector Int 8
  supplyTank : Vector Int 4
  voyageReserveL : Int
  reserveCap : Int
  noFlowS : Int
  coastS : Int
  bunkerEndS : Int
  bunkerWaitS : Int
  logDistanceMm : Int
deriving DecidableEq, Repr

/-- BACKUP settings, numbers 1 to 7 (R77, R198). -/
structure BackupSettings where
  leverMid : Int
  leverSpan : Int
  helmMid : Int
  helmSpan : Int
  deadband : Int
  silenceLimitS : Int
  holdTimeS : Int
deriving DecidableEq, Repr

/-- One value for every setting (R184). -/
structure Settings where
  engine : EngineSettings
  steering : SteeringSettings
  coupling : CouplingSettings
  fuel : FuelSettings
  backup : BackupSettings
deriving DecidableEq, Repr

/-- R76, R99: the built-in defaults of ENGINE. -/
def EngineSettings.defaults : EngineSettings where
  present := #v[1, 1, 1, 1]
  side := #v[1, 1, 3, 3]
  idle := #v[600, 600, 600, 600]
  maxSpeed := #v[1750, 1750, 1750, 1750]
  riseRate := 60
  fallRate := 90
  asternLimit := 700
  syncWindow := 40
  syncBand := 5
  syncStep := 2
  syncLimit := 50
  ppr := #v[60, 60, 60, 60]
  engageConfirmS := 4
  neutralDwellMs := 1500
  dwellTimeoutS := 8
  shaftStop := 60
  overspeedMargin := 10
  wrongWayMs := 2000
  followLimit := 150
  followTimeS := 10

/-- R105, R121: the built-in defaults of STEERING. -/
def SteeringSettings.defaults : SteeringSettings where
  steeringCount := 2
  flankingCount := 2
  feedbackMid := #v[2048, 2048, 2048, 2048, 2048, 2048, 2048, 2048]
  countsPer10 := #v[200, 200, 200, 200, 200, 200, 200, 200]
  windowLow := #v[100, 100, 100, 100, 100, 100, 100, 100]
  windowHigh := #v[3995, 3995, 3995, 3995, 3995, 3995, 3995, 3995]
  maxSteering := 350
  maxFlanking := 450
  deadband := 5
  stallTimeMs := 2000
  stallMovement := 10
  diffGain := 100
  bowGain := 800

/-- R6, R12, R22, R24, R27, R162, R163: the built-in defaults of COUPLING. -/
def CouplingSettings.defaults : CouplingSettings where
  class2Threshold := 20000
  class3Threshold := 60000
  slackThreshold := #v[200, 200, 200, 200]
  hysteresis := #v[50, 50, 50, 50]
  fastTarget := #v[800, 800, 800, 800]
  overload := #v[4000, 4000, 4000, 4000]
  overloadCap := 500
  slackCap := 300
  detachedCap := 150
  haulTimeoutS := 60
  releaseTimeoutS := 30
  releaseLimit := 100
  releaseWaitS := 60

/-- R144, R147: the built-in defaults of FUEL. -/
def FuelSettings.defaults : FuelSettings where
  meterK := #v[10000, 10000, 10000, 10000, 10000, 10000, 10000, 10000, 10000, 10000]
  alpha := 830
  tankPresent := #v[1, 1, 0, 0, 0, 0, 0, 0]
  role := #v[2, 1, 1, 1, 1, 1, 1, 1]
  capacityL := #v[10000, 80000, 80000, 80000, 80000, 80000, 80000, 80000]
  lowLevelL := #v[2000, 10000, 10000, 10000, 10000, 10000, 10000, 10000]
  supplyTank := #v[1, 1, 1, 1]
  voyageReserveL := 20000
  reserveCap := 600
  noFlowS := 30
  coastS := 5
  bunkerEndS := 120
  bunkerWaitS := 600
  logDistanceMm := 1000

/-- R77: the built-in defaults of BACKUP. -/
def BackupSettings.defaults : BackupSettings where
  leverMid := 2048
  leverSpan := 1800
  helmMid := 2048
  helmSpan := 1800
  deadband := 30
  silenceLimitS := 3
  holdTimeS := 10

/-- The built-in defaults of every section. -/
def Settings.defaults : Settings :=
  ⟨.defaults, .defaults, .defaults, .defaults, .defaults⟩

/-- A setting that takes no index is named with index 0 (R184, R198). -/
def plain (x : Int) (idx : Nat) : Option Int := if idx = 0 then some x else none

/-- A setting held for each of `n` things takes its index from 1 to `n` (R198). -/
def nth {n : Nat} (v : Vector Int n) (idx : Nat) : Option Int :=
  if h : 1 ≤ idx ∧ idx ≤ n then some (v[idx - 1]'(by omega)) else none

/-- Replace entry `idx`, counted from 1. -/
def putNth {n : Nat} (v : Vector Int n) (idx : Nat) (x : Int) : Vector Int n :=
  if h : 1 ≤ idx ∧ idx ≤ n then v.set (idx - 1) x (by omega) else v

/-- Entry `idx`, counted from 1, of a setting held for each class, tank or engine. -/
def entry {n : Nat} (v : Vector Int n) (idx : Nat) : Int := (nth v idx).getD 0

/-- The working value a section, setting number and index name (R184), or none where they name no setting. -/
def Settings.get (t : Settings) : Sec → Nat → Nat → Option Int
  | .engine, 1, i => nth t.engine.present i
  | .engine, 2, i => nth t.engine.side i
  | .engine, 3, i => nth t.engine.idle i
  | .engine, 4, i => nth t.engine.maxSpeed i
  | .engine, 5, i => plain t.engine.riseRate i
  | .engine, 6, i => plain t.engine.fallRate i
  | .engine, 7, i => plain t.engine.asternLimit i
  | .engine, 8, i => plain t.engine.syncWindow i
  | .engine, 9, i => plain t.engine.syncBand i
  | .engine, 10, i => plain t.engine.syncStep i
  | .engine, 11, i => plain t.engine.syncLimit i
  | .engine, 12, i => nth t.engine.ppr i
  | .engine, 13, i => plain t.engine.engageConfirmS i
  | .engine, 14, i => plain t.engine.neutralDwellMs i
  | .engine, 15, i => plain t.engine.dwellTimeoutS i
  | .engine, 16, i => plain t.engine.shaftStop i
  | .engine, 17, i => plain t.engine.overspeedMargin i
  | .engine, 18, i => plain t.engine.wrongWayMs i
  | .engine, 19, i => plain t.engine.followLimit i
  | .engine, 20, i => plain t.engine.followTimeS i
  | .steering, 1, i => plain t.steering.steeringCount i
  | .steering, 2, i => plain t.steering.flankingCount i
  | .steering, 3, i => nth t.steering.feedbackMid i
  | .steering, 4, i => nth t.steering.countsPer10 i
  | .steering, 5, i => nth t.steering.windowLow i
  | .steering, 6, i => nth t.steering.windowHigh i
  | .steering, 7, i => plain t.steering.maxSteering i
  | .steering, 8, i => plain t.steering.maxFlanking i
  | .steering, 9, i => plain t.steering.deadband i
  | .steering, 10, i => plain t.steering.stallTimeMs i
  | .steering, 11, i => plain t.steering.stallMovement i
  | .steering, 12, i => plain t.steering.diffGain i
  | .steering, 13, i => plain t.steering.bowGain i
  | .coupling, 1, i => plain t.coupling.class2Threshold i
  | .coupling, 2, i => plain t.coupling.class3Threshold i
  | .coupling, 3, i => nth t.coupling.slackThreshold i
  | .coupling, 4, i => nth t.coupling.hysteresis i
  | .coupling, 5, i => nth t.coupling.fastTarget i
  | .coupling, 6, i => nth t.coupling.overload i
  | .coupling, 7, i => plain t.coupling.overloadCap i
  | .coupling, 8, i => plain t.coupling.slackCap i
  | .coupling, 9, i => plain t.coupling.detachedCap i
  | .coupling, 10, i => plain t.coupling.haulTimeoutS i
  | .coupling, 11, i => plain t.coupling.releaseTimeoutS i
  | .coupling, 12, i => plain t.coupling.releaseLimit i
  | .coupling, 13, i => plain t.coupling.releaseWaitS i
  | .fuel, 1, i => nth t.fuel.meterK i
  | .fuel, 2, i => plain t.fuel.alpha i
  | .fuel, 3, i => nth t.fuel.tankPresent i
  | .fuel, 4, i => nth t.fuel.role i
  | .fuel, 5, i => nth t.fuel.capacityL i
  | .fuel, 6, i => nth t.fuel.lowLevelL i
  | .fuel, 7, i => nth t.fuel.supplyTank i
  | .fuel, 8, i => plain t.fuel.voyageReserveL i
  | .fuel, 9, i => plain t.fuel.reserveCap i
  | .fuel, 10, i => plain t.fuel.noFlowS i
  | .fuel, 11, i => plain t.fuel.coastS i
  | .fuel, 12, i => plain t.fuel.bunkerEndS i
  | .fuel, 13, i => plain t.fuel.bunkerWaitS i
  | .fuel, 14, i => plain t.fuel.logDistanceMm i
  | .backup, 1, i => plain t.backup.leverMid i
  | .backup, 2, i => plain t.backup.leverSpan i
  | .backup, 3, i => plain t.backup.helmMid i
  | .backup, 4, i => plain t.backup.helmSpan i
  | .backup, 5, i => plain t.backup.deadband i
  | .backup, 6, i => plain t.backup.silenceLimitS i
  | .backup, 7, i => plain t.backup.holdTimeS i
  | _, _, _ => none

/-- ENGINE with one setting replaced. -/
def EngineSettings.put (t : EngineSettings) (num idx : Nat) (x : Int) : EngineSettings :=
  match num with
  | 1 => { t with present := putNth t.present idx x }
  | 2 => { t with side := putNth t.side idx x }
  | 3 => { t with idle := putNth t.idle idx x }
  | 4 => { t with maxSpeed := putNth t.maxSpeed idx x }
  | 5 => { t with riseRate := x }
  | 6 => { t with fallRate := x }
  | 7 => { t with asternLimit := x }
  | 8 => { t with syncWindow := x }
  | 9 => { t with syncBand := x }
  | 10 => { t with syncStep := x }
  | 11 => { t with syncLimit := x }
  | 12 => { t with ppr := putNth t.ppr idx x }
  | 13 => { t with engageConfirmS := x }
  | 14 => { t with neutralDwellMs := x }
  | 15 => { t with dwellTimeoutS := x }
  | 16 => { t with shaftStop := x }
  | 17 => { t with overspeedMargin := x }
  | 18 => { t with wrongWayMs := x }
  | 19 => { t with followLimit := x }
  | 20 => { t with followTimeS := x }
  | _ => t

/-- STEERING with one setting replaced. -/
def SteeringSettings.put (t : SteeringSettings) (num idx : Nat) (x : Int) : SteeringSettings :=
  match num with
  | 1 => { t with steeringCount := x }
  | 2 => { t with flankingCount := x }
  | 3 => { t with feedbackMid := putNth t.feedbackMid idx x }
  | 4 => { t with countsPer10 := putNth t.countsPer10 idx x }
  | 5 => { t with windowLow := putNth t.windowLow idx x }
  | 6 => { t with windowHigh := putNth t.windowHigh idx x }
  | 7 => { t with maxSteering := x }
  | 8 => { t with maxFlanking := x }
  | 9 => { t with deadband := x }
  | 10 => { t with stallTimeMs := x }
  | 11 => { t with stallMovement := x }
  | 12 => { t with diffGain := x }
  | 13 => { t with bowGain := x }
  | _ => t

/-- COUPLING with one setting replaced. -/
def CouplingSettings.put (t : CouplingSettings) (num idx : Nat) (x : Int) : CouplingSettings :=
  match num with
  | 1 => { t with class2Threshold := x }
  | 2 => { t with class3Threshold := x }
  | 3 => { t with slackThreshold := putNth t.slackThreshold idx x }
  | 4 => { t with hysteresis := putNth t.hysteresis idx x }
  | 5 => { t with fastTarget := putNth t.fastTarget idx x }
  | 6 => { t with overload := putNth t.overload idx x }
  | 7 => { t with overloadCap := x }
  | 8 => { t with slackCap := x }
  | 9 => { t with detachedCap := x }
  | 10 => { t with haulTimeoutS := x }
  | 11 => { t with releaseTimeoutS := x }
  | 12 => { t with releaseLimit := x }
  | 13 => { t with releaseWaitS := x }
  | _ => t

/-- FUEL with one setting replaced. -/
def FuelSettings.put (t : FuelSettings) (num idx : Nat) (x : Int) : FuelSettings :=
  match num with
  | 1 => { t with meterK := putNth t.meterK idx x }
  | 2 => { t with alpha := x }
  | 3 => { t with tankPresent := putNth t.tankPresent idx x }
  | 4 => { t with role := putNth t.role idx x }
  | 5 => { t with capacityL := putNth t.capacityL idx x }
  | 6 => { t with lowLevelL := putNth t.lowLevelL idx x }
  | 7 => { t with supplyTank := putNth t.supplyTank idx x }
  | 8 => { t with voyageReserveL := x }
  | 9 => { t with reserveCap := x }
  | 10 => { t with noFlowS := x }
  | 11 => { t with coastS := x }
  | 12 => { t with bunkerEndS := x }
  | 13 => { t with bunkerWaitS := x }
  | 14 => { t with logDistanceMm := x }
  | _ => t

/-- BACKUP with one setting replaced. -/
def BackupSettings.put (t : BackupSettings) (num _idx : Nat) (x : Int) : BackupSettings :=
  match num with
  | 1 => { t with leverMid := x }
  | 2 => { t with leverSpan := x }
  | 3 => { t with helmMid := x }
  | 4 => { t with helmSpan := x }
  | 5 => { t with deadband := x }
  | 6 => { t with silenceLimitS := x }
  | 7 => { t with holdTimeS := x }
  | _ => t

/-- The settings with the one that a section, number and index name replaced (R185). -/
def Settings.put (t : Settings) (sec : Sec) (num idx : Nat) (x : Int) : Settings :=
  match sec with
  | .engine => { t with engine := t.engine.put num idx x }
  | .steering => { t with steering := t.steering.put num idx x }
  | .coupling => { t with coupling := t.coupling.put num idx x }
  | .fuel => { t with fuel := t.fuel.put num idx x }
  | .backup => { t with backup := t.backup.put num idx x }

/-- The lowest and highest value of a setting's own range (R76, R77, R99, R121, R144, R147, R6, R12, R22, R24, R27,
R162, R163). Enumerated settings run over their numbers (R198). -/
def settingRange : Sec → Nat → Int × Int
  | .engine, 1 => (0, 1)
  | .engine, 2 => (1, 3)
  | .engine, 3 => (300, 1500)
  | .engine, 4 => (500, 3000)
  | .engine, 5 => (1, 1000)
  | .engine, 6 => (1, 1000)
  | .engine, 7 => (0, 1000)
  | .engine, 8 => (0, 300)
  | .engine, 9 => (0, 100)
  | .engine, 10 => (1, 50)
  | .engine, 11 => (0, 300)
  | .engine, 12 => (1, 1000)
  | .engine, 13 => (1, 30)
  | .engine, 14 => (0, 10000)
  | .engine, 15 => (1, 60)
  | .engine, 16 => (0, 500)
  | .engine, 17 => (0, 50)
  | .engine, 18 => (500, 10000)
  | .engine, 19 => (10, 1000)
  | .engine, 20 => (1, 120)
  | .steering, 1 => (1, 4)
  | .steering, 2 => (0, 4)
  | .steering, 3 => (0, 4095)
  | .steering, 4 => (10, 2000)
  | .steering, 5 => (0, 4095)
  | .steering, 6 => (0, 4095)
  | .steering, 7 => (50, 700)
  | .steering, 8 => (0, 700)
  | .steering, 9 => (1, 50)
  | .steering, 10 => (500, 10000)
  | .steering, 11 => (1, 100)
  | .steering, 12 => (0, 200)
  | .steering, 13 => (0, 1000)
  | .coupling, 1 => (1000, 200000)
  | .coupling, 2 => (1000, 200000)
  | .coupling, 3 => (0, 20000)
  | .coupling, 4 => (0, 20000)
  | .coupling, 5 => (0, 20000)
  | .coupling, 6 => (0, 20000)
  | .coupling, 7 => (0, 1000)
  | .coupling, 8 => (0, 1000)
  | .coupling, 9 => (0, 1000)
  | .coupling, 10 => (10, 600)
  | .coupling, 11 => (5, 300)
  | .coupling, 12 => (0, 1000)
  | .coupling, 13 => (10, 600)
  | .fuel, 1 => (100, 100000)
  | .fuel, 2 => (0, 2000)
  | .fuel, 3 => (0, 1)
  | .fuel, 4 => (1, 2)
  | .fuel, 5 => (100, 500000)
  | .fuel, 6 => (0, 500000)
  | .fuel, 7 => (1, 8)
  | .fuel, 8 => (0, 2000000)
  | .fuel, 9 => (0, 1000)
  | .fuel, 10 => (5, 300)
  | .fuel, 11 => (0, 30)
  | .fuel, 12 => (30, 600)
  | .fuel, 13 => (60, 3600)
  | .fuel, 14 => (100, 100000)
  | .backup, 1 => (0, 4095)
  | .backup, 2 => (100, 2047)
  | .backup, 3 => (0, 4095)
  | .backup, 4 => (100, 2047)
  | .backup, 5 => (0, 200)
  | .backup, 6 => (1, 60)
  | .backup, 7 => (0, 300)
  | _, _ => (0, 0)

/-- R185: a value lies in its setting's range; the stall time moves in steps of 100 ms (R121). -/
def inRange (sec : Sec) (num : Nat) (x : Int) : Bool :=
  (settingRange sec num).1 ≤ x && x ≤ (settingRange sec num).2 &&
    !(sec == .steering && num == 10 && x % 100 != 0)

/-- R76 and R99: Ni + 100 ≤ Nmax for each engine, and the dwell timeout is at least the neutral dwell. -/
def EngineSettings.consistent (t : EngineSettings) : Bool :=
  [1, 2, 3, 4].all (fun e => entry t.idle e + 100 ≤ entry t.maxSpeed e) && t.neutralDwellMs ≤ t.dwellTimeoutS * 1000

/-- R121: for each channel, window low below mid and mid below window high. -/
def SteeringSettings.consistent (t : SteeringSettings) : Bool :=
  [1, 2, 3, 4, 5, 6, 7, 8].all fun c =>
    entry t.windowLow c < entry t.feedbackMid c && entry t.feedbackMid c < entry t.windowHigh c

/-- R6, R12, R22: the class-2 threshold is below the class-3 threshold; Ts + H ≤ Tf < To − H in each class; the detached
cap is at most the slack cap, and that at most the overload cap. -/
def CouplingSettings.consistent (t : CouplingSettings) : Bool :=
  t.class2Threshold < t.class3Threshold &&
    [1, 2, 3, 4].all (fun c => entry t.slackThreshold c + entry t.hysteresis c ≤ entry t.fastTarget c &&
      entry t.fastTarget c < entry t.overload c - entry t.hysteresis c) &&
    t.detachedCap ≤ t.slackCap && t.slackCap ≤ t.overloadCap

/-- R144: each tank's low level is at or below its capacity, and each engine's supply tank is a present DAY tank. -/
def FuelSettings.consistent (t : FuelSettings) : Bool :=
  [1, 2, 3, 4, 5, 6, 7, 8].all (fun n => entry t.lowLevelL n ≤ entry t.capacityL n) &&
    [1, 2, 3, 4].all fun e => entry t.tankPresent (entry t.supplyTank e).toNat == 1 &&
      entry t.role (entry t.supplyTank e).toNat == 2

/-- The constraints among a section's settings (R185, R193). BACKUP has none. -/
def Settings.consistent (t : Settings) : Sec → Bool
  | .engine => t.engine.consistent
  | .steering => t.steering.consistent
  | .coupling => t.coupling.consistent
  | .fuel => t.fuel.consistent
  | .backup => true

/-- The number of the last setting of a section (R198). -/
def Sec.lastNumber : Sec → Nat
  | .engine => 20
  | .steering => 13
  | .coupling => 13
  | .fuel => 14
  | .backup => 7

/-- R193: every value of the section is in range and every constraint of the section is met. -/
def Settings.valid (t : Settings) (sec : Sec) : Bool :=
  (List.range (sec.lastNumber + 1)).all (fun n => (List.range 11).all fun i =>
    (t.get sec n i).all (inRange sec n)) && t.consistent sec

/-- The settings with one section taken from another record. -/
def Settings.take (t u : Settings) : Sec → Settings
  | .engine => { t with engine := u.engine }
  | .steering => { t with steering := u.steering }
  | .coupling => { t with coupling := u.coupling }
  | .fuel => { t with fuel := u.fuel }
  | .backup => { t with backup := u.backup }

/-- R76: the engine is set present. -/
def Settings.enginePresent (t : Settings) (e : Fin 4) : Bool := t.engine.present[e] == 1

/-- R105: steering channels S1 up to the steering count and flanking channels F1 up to the flanking count are present. -/
def Settings.rudderPresent (t : Settings) (r : Fin 8) : Bool :=
  if r.val < 4 then r.val < t.steering.steeringCount else (r.val : Int) - 4 < t.steering.flankingCount

/-- R130, R144: the tank is set present. -/
def Settings.tankPresent (t : Settings) (k : Fin 8) : Bool := t.fuel.tankPresent[k] == 1

end Sys2Proof.Machine
end

