-- ==== Sys2Proof/Machine/State.lean ====
section
/-! DEFINITION. Everything the 2440 holds, as plain data, and the state after a power-on start of a new part. Each block of
the manual's block diagram is one record. A figure that two blocks would hold in common is held once, by the block that sets it.
Outputs that follow from held state (clutches, attention line, pump, valve) are functions of it, in Machine/Flags.lean. -/

namespace Sys2Proof.Machine

/-- A timer: stopped, or running with the limit in ms it was started with (R62, R77, R99, R163). -/
abbrev Timer := Option Nat

/-! ### Bridge Link Port -/

/-- The report kinds of R175. ORDER_DONE and CHANGE have one kind each. -/
inductive ReportKind where
  | bridgeSilent | overspeed | gearNoConfirm | shaftWrongWay | follow
  | rudderStalled | rudderFeedbackLost | steeringDegraded
  | couplingOverload | couplingLost | towUnheld
  | lineDown | nodeLost
  | tankLow | tankOverfull | reserve | tempRange
  | orderDone
  | nodeUnclaimed | legLogFull
  | change
  | started | legClosed | settingsSaved
deriving DecidableEq, Repr

/-- What a report is about (R175, R200). Engine, coupling, tank and meter numbers count from 1; rudder channels S1 to S4 are 1
to 4 and F1 to F4 are 5 to 8 (R198). -/
inductive Subject where
  | nothing
  | engine (n : Nat)
  | rudder (n : Nat)
  | coupling (n : Nat)
  | position (p : Pos)
  | serial (n : Nat)
  | tank (n : Nat)
  | meter (n : Nat)
  | tag (n : Nat)
  | leg (n : Nat)
  | commandSource
  | caps
deriving DecidableEq, Repr

/-- R155: a stamp is the voyage clock's value with its mark. The clock itself has the same shape. -/
structure Stamp where
  seconds : Nat
  isSet : Bool
deriving DecidableEq, Repr

/-- R175: a report of the Report Queue. -/
structure Report where
  kind : ReportKind
  subject : Subject
  stamp : Stamp
  body : List Byte
deriving DecidableEq, Repr

/-- R174, R197: the status byte of a reply. -/
inductive Status where
  | accepted | unknownRequest | badLength | badValue | notInCommand | notNow | duplicate | tagInUse
  | tableFull | notFound | notCapable | nodeAbsent | detachesTow | noSuch | positionTaken
deriving DecidableEq, Repr

/-- What an owner answers: a status and, on acceptance, a body (R174). -/
structure Answer where
  status : Status
  body : List Byte
deriving DecidableEq, Repr

/-- A reply the port transmits or holds (R173, R174, R192). -/
structure Reply where
  kind : Nat
  mark : Byte
  answer : Answer
deriving DecidableEq, Repr

/-- R171 to R183: the receiver's place, the request in hand (as its reply), the buffered frame, the Report Queue in age order
and the three latched flags. `receiving` holds the bytes of the frame being received, from its start byte on; it is empty while
the receiver is hunting (R172). `answer` is what the last handled request was answered: the model's own field (log entry 7). -/
structure Port where
  receiving : List Byte
  inHand : Option Reply
  buffer : Option Frame
  queue : List Report
  reportsLost : Bool
  linkError : Bool
  overrun : Bool
  answer : Option Answer
deriving DecidableEq, Repr

/-! ### Propulsion Controller and Engine Channels -/

/-- R57. -/
inductive Source where
  | bridge | backup
deriving DecidableEq, Repr

/-- R62. -/
inductive Phase where
  | normal | hold | zeroed
deriving DecidableEq, Repr

/-- R66: the engine direction D. -/
inductive Dir where
  | ahead | astern | neutral
deriving DecidableEq, Repr

/-- R57 to R78. `le` is the effective lever; `lead` is the lead engine of the last sync period, 0 for none (R75). -/
structure Propulsion where
  source : Source
  lever : Int
  latch : Bool
  phase : Phase
  silenceTimer : Timer
  holdTimer : Timer
  le : Int
  sync : Bool
  lead : Nat
deriving DecidableEq, Repr

/-- R79. -/
inductive EngineMode where
  | inUse | standby
deriving DecidableEq, Repr

/-- R79: the gear states, in the order of the rule. -/
inductive Gear where
  | stopped | neutral | engagingAhead | ahead | engagingAstern | astern | disengaging | fault
deriving DecidableEq, Repr

/-- R79. -/
inductive FaultKind where
  | none | overspeed | shaftWrongWay | gearNoConfirm
deriving DecidableEq, Repr

/-- R80: a discrete input: the raw level at the pin, the level taken, and whether a 50 ms hold is running. -/
structure Input where
  raw : Bool
  level : Bool
  holding : Bool
deriving DecidableEq, Repr

/-- R79: an engine channel, with the share, target and sync trim the Propulsion Controller keeps for it (R68, R69, R72).
`countHeld` says that the window count has reached its limit and is held there for the rest of the window (R90). -/
structure Channel where
  mode : EngineMode
  gear : Gear
  fault : FaultKind
  follow : Bool
  demand : Int
  duty : Int
  count : Int
  countHeld : Bool
  rpm : Int
  running : Input
  aheadFb : Input
  asternFb : Input
  engageTimer : Timer
  dwellTimer : Timer
  dwellTimeout : Timer
  wrongWayTimer : Timer
  followTimer : Timer
  share : Int
  target : Int
  preSync : Int
  trim : Int
deriving DecidableEq, Repr

/-! ### Steering Controller -/

/-- R103. -/
inductive SteerMode where
  | rudder | rudderDiff | full
deriving DecidableEq, Repr

/-- R105. -/
inductive RudderState where
  | ok | stalled | feedbackLost
deriving DecidableEq, Repr

/-- R105: the valve a rudder channel drives. -/
inductive Valve where
  | none | port | starboard
deriving DecidableEq, Repr

/-- R105: a rudder channel. `sampleValid` says whether the sample of the last control period was valid (R111). -/
structure Rudder where
  state : RudderState
  raw : Nat
  angle : Int
  target : Int
  valve : Valve
  stallRef : Option Int
  stallCount : Nat
  sampleValid : Bool
deriving DecidableEq, Repr

/-- R39: the kind of a Barge Line node. -/
inductive NodeKind where
  | winch | bow
deriving DecidableEq, Repr

/-- R39: the node states, in the order of the rule's table. -/
inductive NodeState where
  | joining | active | silent | lost | departing | departed | rejected
deriving DecidableEq, Repr

/-- R115: an entry of the Bow Unit List. No node state is ABSENT; no flag is unknown. -/
structure BowUnit where
  pos : Pos
  serial : Nat
  nodeState : Option NodeState
  nodeKind : Option NodeKind
  running : Option Bool
  fault : Option Bool
  actual : Option Int
  commanded : Int
deriving DecidableEq, Repr

/-- R101 to R122. -/
structure Steering where
  helm : Int
  mode : SteerMode
  rudders : Vector Rudder 8
  degraded : Bool
  trim : Int
  bowDemand : Int
  bows : List BowUnit
deriving DecidableEq, Repr

/-! ### Convoy Supervisor -/

/-- R3. -/
inductive BargeState where
  | expected | inTow | castOff
deriving DecidableEq, Repr

/-- R3: a barge record, with held or unheld as the holding analysis last gave it (R19). -/
structure Barge where
  pos : Pos
  hull : Nat
  light : Nat
  cargo : Nat
  bow : Option Nat
  state : BargeState
  changed : Bool
  held : Bool
deriving DecidableEq, Repr

/-- R11: the coupling states, in the order of R7. -/
inductive CouplingState where
  | unconfirmed | slack | hauling | fast | overload | releasing | released | lost | fault
deriving DecidableEq, Repr

/-- R7, R23, R203: what a winch channel is told: NONE 0, HAUL 1, RELEASE 2, STOP 3. -/
inductive WinchCmd where
  | none | haul | release | stop
deriving DecidableEq, Repr

/-- R7, R203: the three flags of a winch channel. -/
structure WinchFlags where
  hook : Bool
  confirm : Bool
  fault : Bool
deriving DecidableEq, Repr

/-- R7: a coupling record. `winchAtB` is the winch end; tension is in 0.1 kN. -/
structure Coupling where
  number : Nat
  endA : CouplingEnd
  endB : Pos
  serial : Nat
  channel : Nat
  winchAtB : Bool
  cls : Nat
  state : CouplingState
  tension : Nat
  flags : Option WinchFlags
  command : WinchCmd
  changed : Bool
deriving DecidableEq, Repr

/-- R3 to R31. `unheldStands` is the TOW_UNHELD alarm (R21). -/
structure Supervisor where
  barges : List Barge
  couplings : List Coupling
  tonnage : Int
  tonnageClass : Nat
  ccap : Int
  unheldStands : Bool
deriving DecidableEq, Repr

/-! ### Barge Line Master -/

/-- R42, R203: the abilities of a node, the wanted ones of both kinds. -/
structure Abilities where
  tension : Bool
  haul : Bool
  release : Bool
  dual : Bool
  urgent : Bool
  thrust : Bool
  feedback : Bool
deriving DecidableEq, Repr

/-- R42. -/
inductive Role where
  | full | monitor
deriving DecidableEq, Repr

/-- R48, R203: tension and flags of one reported winch channel. -/
structure ChannelReport where
  tension : Nat
  flags : WinchFlags
deriving DecidableEq, Repr

/-- R39: the content of a node's last good reply. -/
inductive LastReply where
  | winch (channels : List ChannelReport)
  | bow (actual : Option Int) (running fault : Bool)
deriving DecidableEq, Repr

/-- R39: a node record. Its claim is read from the supervisor's tables (R40), which hold the same. -/
structure Node where
  serial : Nat
  kind : NodeKind
  address : Nat
  state : NodeState
  abilities : Abilities
  role : Role
  misses : Nat
  heldFlag : Bool
  faultSeen : Bool
  last : Option LastReply
  departMark : Bool
  rejoinRunning : Bool
deriving DecidableEq, Repr

/-- R37. -/
inductive LineState where
  | up | fault | down
deriving DecidableEq, Repr

/-- R203: a frame the master sends, with the commands or the demand it carries. `again` marks the repoll of R49. -/
inductive TxFrame where
  | lineReset
  | pollWinch (address serial : Nat) (commands : List WinchCmd) (again : Bool)
  | pollBow (address serial : Nat) (demand : Int) (again : Bool)
  | invite
  | assign (serial address : Nat)
  | assignDeny (serial : Nat)
deriving DecidableEq, Repr

/-- Where the master stands on the line: in the 3 ct turnaround (R32), sending, awaiting a reply, receiving one (R35), or
silent in FAULT or DOWN until its next LINE_RESET (R36, R37). -/
inductive LinePhase where
  | turnaround
  | sending (f : TxFrame)
  | awaiting (f : TxFrame)
  | receiving (f : TxFrame)
  | quiet
deriving DecidableEq, Repr

/-- R43: whether the record of a pending handshake was created by it, reused by it, or left as it stood in REJECTED. -/
inductive HandshakeOrigin where
  | created
  | reused (prior : NodeState)
  | standing
deriving DecidableEq, Repr

/-- R43: the pending handshake. -/
structure Handshake where
  serial : Nat
  address : Nat
  deny : Bool
  origin : HandshakeOrigin
deriving DecidableEq, Repr

/-- R32 to R56. `walk` is the lowest address the walk has still to reach; `repoll` the address that earned a repoll (R49);
`stops` the pending one-shot STOPs, as serial and channel (R46). -/
structure Line where
  state : LineState
  failures : Nat
  phase : LinePhase
  walk : Nat
  repoll : Option Nat
  nodes : List Node
  handshake : Option Handshake
  stops : List (Nat × Nat)
deriving DecidableEq, Repr

/-! ### Order Table -/

/-- R157, R160. -/
inductive Resource where
  | facePool | pump | bunkerMeter
deriving DecidableEq, Repr

/-- R157, R199: the order states, in the order of the rule's field table. -/
inductive OrderState where
  | queued | waiting | active | aborting
deriving DecidableEq, Repr

/-- R167: the results, in the order of the rule's table. -/
inductive OrderResult where
  | done | aborted | timedOut | overload | nodeLost | notConfirmed | thrustHigh | sourceEmpty | destFull | noFlow | cancelled
deriving DecidableEq, Repr

/-- R135, R137: what a TRANSFER holds. `sinceStop` counts the interval expiries of the coast; `stopBetween` says that the
pump was stopped by an abort, between two expiries. -/
structure TransferWork where
  source : Nat
  dest : Nat
  litres : Nat
  moved : Int
  noFlow : Nat
  coasting : Bool
  result : Option OrderResult
  sinceStop : Nat
  stopBetween : Bool
deriving DecidableEq, Repr

/-- R139, R140: what a BUNKER holds. -/
structure BunkerWork where
  dest : Nat
  volume : Int
  silence : Nat
deriving DecidableEq, Repr

/-- R157: kind, target and parameters of an order, with the cast-off set of a RELEASE (R26). -/
inductive Work where
  | haul (coupling : Nat)
  | release (coupling : Nat) (castOffFlag : Bool) (castOff : List Pos)
  | transfer (t : TransferWork)
  | bunker (b : BunkerWork)
deriving DecidableEq, Repr

/-- R157: a live order. `workTimer` is the haul timer (R24) or the release timer (R27). -/
structure Order where
  tag : Nat
  work : Work
  state : OrderState
  resource : Option Resource
  waitTimer : Timer
  workTimer : Timer
deriving DecidableEq, Repr

/-- R157, R160, R161: sixteen slots, and for each arbiter the slot it last started. -/
structure Orders where
  slots : Vector (Option Order) 16
  lastFace : Option (Fin 16)
  lastPump : Option (Fin 16)
  lastBunker : Option (Fin 16)
deriving DecidableEq, Repr

/-! ### Fuel Account -/

/-- R124: the status of a temperature channel. -/
inductive TempStatus where
  | inRange | clamped | failed
deriving DecidableEq, Repr

/-- R123, R126, R143: a fuel meter: its count in the interval, the count and corrected volume of the last interval, its
carried remainder, and its temperature channel. -/
structure Meter where
  count : Nat
  lastCount : Nat
  lastVolume : Int
  remainder : Int
  reading : Option Int
  status : TempStatus
  t10 : Int
  term : Int
  mark : Bool
deriving DecidableEq, Repr

/-- R130: a tank's book in µL and its two marks. Role, capacity and low level are settings. -/
structure Tank where
  book : Int
  low : Bool
  overfull : Bool
deriving DecidableEq, Repr

/-- R123 to R145. Meters: supply 1 to 4, return 1 to 4, transfer, bunker (R143). -/
structure Fuel where
  meters : Vector Meter 10
  tanks : Vector Tank 8
  consumption : Vector Int 4
  lastNet : Vector Int 4
  bunkered : Int
  adjustments : Int
  strayTransfer : Int
  strayBunker : Int
  fcap : Int
  reserveMark : Bool
deriving DecidableEq, Repr

/-! ### Voyage legs -/

/-- R146: the open leg. -/
structure Leg where
  number : Nat
  openStamp : Stamp
  tonnage : Int
  distance : Int
  tmm : Int
  net : Vector Int 4
  running : Vector Nat 4
  bunkered : Int
  adjustments : Int
  mixed : Bool
  pendingClose : Bool
deriving DecidableEq, Repr

/-- R148. -/
inductive CloseCause where
  | host | makeup | makeupDeferred
deriving DecidableEq, Repr

/-- R148: a closed leg. The pending close is no field of it: `leg.pendingClose` is clear. -/
structure ClosedLeg where
  leg : Leg
  closeStamp : Stamp
  cause : CloseCause
  rate : Option Nat
deriving DecidableEq, Repr

/-- R146, R150: the open leg, and the Leg Log, oldest first. -/
structure Legs where
  current : Leg
  log : List ClosedLeg
deriving DecidableEq, Repr

/-! ### Settings Store, Checkpoint Area, Start Control -/

/-- R187: the apply marker of a stored section. -/
inductive Marker where
  | apply | default
deriving DecidableEq, Repr

/-- R187, R193: a stored section: whether its CRC checks, its marker, and its values (those of its own section within a
full settings record). -/
structure StoredSection where
  good : Bool
  marker : Marker
  values : Settings
deriving DecidableEq, Repr

/-- R187: the choice of a section in SAVE_SETTINGS. -/
inductive SaveChoice where
  | keep | apply | default
deriving DecidableEq, Repr

/-- R187, R188: a save in flight: the choices, the snapshot of the working values, and the sections written to since. -/
structure SaveJob where
  choices : PerSection SaveChoice
  snapshot : Settings
  touched : PerSection Bool
deriving DecidableEq, Repr

/-- R184: working values, stored image, unsaved marks, and the save in flight. -/
structure Store where
  working : Settings
  image : PerSection StoredSection
  unsaved : PerSection Bool
  save : Option SaveJob
deriving DecidableEq, Repr

/-- R189: a barge record as the checkpoint holds it. -/
structure SavedBarge where
  pos : Pos
  hull : Nat
  light : Nat
  cargo : Nat
  bow : Option Nat
  state : BargeState
deriving DecidableEq, Repr

/-- R189: a coupling record as the checkpoint holds it. -/
structure SavedCoupling where
  number : Nat
  endA : CouplingEnd
  endB : Pos
  serial : Nat
  channel : Nat
  winchAtB : Bool
  cls : Nat
  tension : Nat
deriving DecidableEq, Repr

/-- R189: the checkpoint record. The book of an absent tank is none. -/
structure Record where
  books : Vector (Option Int) 8
  consumption : Vector Int 4
  bunkered : Int
  adjustments : Int
  remainders : Vector Int 10
  legs : Legs
  barges : List SavedBarge
  couplings : List SavedCoupling
deriving DecidableEq, Repr

/-- R189, R190: the record, whether its check word checks, the snapshot being written (none in IDLE), and the due mark. -/
structure Checkpoint where
  record : Record
  good : Bool
  writing : Option Record
  due : Bool
deriving DecidableEq, Repr

/-- R191: the start causes, in the order of the table. -/
inductive StartCause where
  | powerOn | supplyDip | resetLine | restart
deriving DecidableEq, Repr

/-- R192: how far an accepted RESTART has come: none; its final write waits for the write in flight; its final write is being
written; its reply is being sent. -/
inductive RestartStage where
  | none | awaitingWrite | finalWrite | sendingReply
deriving DecidableEq, Repr

/-- R191, R192: the cause of the last start; the cause of a start that is coming (none while the part runs); the level of the
reset line; and the RESTART under way. -/
structure StartControl where
  cause : StartCause
  coming : Option StartCause
  resetHeld : Bool
  restart : RestartStage
deriving DecidableEq, Repr

/-- The MODEL's own: what one command has still to settle before it ends (log entry 8). Every field is false between
commands. `analysis`: a table changed, so the holding analysis is due (R19). `makeup`: the IN_TOW set changed (R20).
`retest`: |Le| changed, so the RELEASE orders are re-tested (R67, R162). `checkpoint`: a checkpoint write is asked for (R190). -/
structure Settling where
  analysis : Bool
  makeup : Bool
  retest : Bool
  checkpoint : Bool
deriving DecidableEq, Repr

/-- The 2440. `readings` is the model's own counter of free readings of timers (log entry 5), `settling` its note of
work due within a command (log entry 8), and `pending` its queue of waiting commands, first in, first out. -/
structure State where
  port : Port
  prop : Propulsion
  chans : Vector Channel 4
  steer : Steering
  sup : Supervisor
  line : Line
  orders : Orders
  fuel : Fuel
  legs : Legs
  store : Store
  ckpt : Checkpoint
  ctl : StartControl
  clock : Stamp
  settling : Settling
  readings : Nat
  pending : List Instr
deriving DecidableEq, Repr

/-- Raised by no command: every command of the 2440 has an effect the manual gives, and an event that finds nothing to act
on changes nothing. The type has no constructor. -/
inductive Fault where
deriving DecidableEq, Repr

/-- Why a command would be refused. -/
inductive Refusal where
  /-- Answered by `exec` alone, for a row of the opcode table that has no meaning yet. Safe: nothing is claimed of the
  command. No row is left without a meaning, so no arm answers it. -/
  | notModelled (mnemonic : String)
deriving DecidableEq, Repr

/-! ### After reset -/

/-- R80, R100: an input whose pin is low (log entry 2: the levels at the pins at start). -/
def Input.low : Input := ⟨false, false, false⟩

/-- R100: a channel after a start with its running input off, with the idle speed `ni`. -/
def Channel.atStart (ni : Int) : Channel where
  mode := .inUse
  gear := .stopped
  fault := .none
  follow := false
  demand := ni
  duty := 100
  count := 0
  countHeld := false
  rpm := 0
  running := .low
  aheadFb := .low
  asternFb := .low
  engageTimer := none
  dwellTimer := none
  dwellTimeout := none
  wrongWayTimer := none
  followTimer := none
  share := 0
  target := ni
  preSync := ni
  trim := 0

/-- R122: a rudder after a start. -/
def Rudder.atStart : Rudder := ⟨.ok, 0, 0, 0, .none, none, 0, false⟩

/-- R143, R145: a meter after a start, with the remainder the checkpoint gives. -/
def Meter.atStart (r : Int) : Meter := ⟨0, 0, 0, r, some 0, .inRange, 0, 0, false⟩

/-- R146, R148: a leg as it opens. -/
def Leg.opened (number : Nat) (stamp : Stamp) (tonnage : Int) : Leg where
  number := number
  openStamp := stamp
  tonnage := tonnage
  distance := 0
  tmm := 0
  net := #v[0, 0, 0, 0]
  running := #v[0, 0, 0, 0]
  bunkered := 0
  adjustments := 0
  mixed := false
  pendingClose := false

/-- R156: the legs after a start that lost the checkpoint. -/
def Legs.fresh (stamp : Stamp) : Legs := ⟨.opened 1 stamp 0, []⟩

/-- R145, R156, R194: what the Checkpoint Area's part of the state is when the record is lost. Also the content of a new part's
Checkpoint Area, whose check word does not check. The tanks of the defaults are present with a book of 0. -/
def Record.blank : Record where
  books := #v[some 0, some 0, none, none, none, none, none, none]
  consumption := #v[0, 0, 0, 0]
  bunkered := 0
  adjustments := 0
  remainders := #v[0, 0, 0, 0, 0, 0, 0, 0, 0, 0]
  legs := .fresh ⟨0, false⟩
  barges := []
  couplings := []

/-- R193: a stored section of a new part: its CRC fails. -/
def StoredSection.new : StoredSection := ⟨false, .default, .defaults⟩

/-- The 2440 right after the POWER_ON start of a new part with every input low (log entry 2): settings from the built-in
defaults (R193), the checkpoint lost and its replacement write under way (R190, R194), the START report queued (R195), the
first LINE_RESET being sent (R56). -/
def State.reset : State where
  port :=
    { receiving := [], inHand := none, buffer := none,
      queue := [⟨.started, .nothing, ⟨0, false⟩, [1, 3, 3, 3, 3, 3, 2, 0, 0, 0, 0, 0, 0, 0, 0, 1]⟩],
      reportsLost := false, linkError := false, overrun := false, answer := none }
  prop :=
    { source := .bridge, lever := 0, latch := true, phase := .normal, silenceTimer := none, holdTimer := none,
      le := 0, sync := false, lead := 0 }
  chans := #v[.atStart 600, .atStart 600, .atStart 600, .atStart 600]
  steer :=
    { helm := 0, mode := .rudderDiff,
      rudders := #v[.atStart, .atStart, .atStart, .atStart, .atStart, .atStart, .atStart, .atStart],
      degraded := false, trim := 0, bowDemand := 0, bows := [] }
  sup := { barges := [], couplings := [], tonnage := 0, tonnageClass := 1, ccap := 1000, unheldStands := false }
  line :=
    { state := .up, failures := 0, phase := .sending .lineReset, walk := 1, repoll := none, nodes := [],
      handshake := none, stops := [] }
  orders :=
    { slots := #v[none, none, none, none, none, none, none, none, none, none, none, none, none, none, none, none],
      lastFace := none, lastPump := none, lastBunker := none }
  fuel :=
    { meters := #v[.atStart 0, .atStart 0, .atStart 0, .atStart 0, .atStart 0, .atStart 0, .atStart 0, .atStart 0,
        .atStart 0, .atStart 0],
      tanks := #v[⟨0, false, false⟩, ⟨0, false, false⟩, ⟨0, false, false⟩, ⟨0, false, false⟩, ⟨0, false, false⟩,
        ⟨0, false, false⟩, ⟨0, false, false⟩, ⟨0, false, false⟩],
      consumption := #v[0, 0, 0, 0], lastNet := #v[0, 0, 0, 0], bunkered := 0, adjustments := 0,
      strayTransfer := 0, strayBunker := 0, fcap := 600, reserveMark := false }
  legs := .fresh ⟨0, false⟩
  store :=
    { working := .defaults, image := ⟨.new, .new, .new, .new, .new⟩,
      unsaved := ⟨false, false, false, false, false⟩, save := none }
  ckpt := { record := .blank, good := false, writing := some .blank, due := false }
  ctl := { cause := .powerOn, coming := none, resetHeld := false, restart := .none }
  clock := ⟨0, false⟩
  settling := ⟨false, false, false, false⟩
  readings := 0
  pending := []

end Sys2Proof.Machine
end

