-- ==== Sys2Proof/Machine/Ops.lean ====
section
/-! DEFINITION. The operations every block shares: the roundings of R1, the 64-bit accumulators, updates of one part of
the state, the stamp (R155), queueing a report (R176), asking for a checkpoint write (R190), answers to requests (R174), and
the guard that nothing but Start Control acts while the part is down (R183, R191). -/

namespace Sys2Proof.Machine

/-! ### Arithmetic -/

/-- R1: `a / b` rounded half up, for `b` above 0. -/
def roundHalfUp (a b : Int) : Int := (2 * a + b) / (2 * b)

/-- R1: `a / b` rounded half away from zero, for `b` above 0. -/
def roundHalfAway (a b : Int) : Int :=
  if a < 0 then -((2 * -a + b) / (2 * b)) else (2 * a + b) / (2 * b)

/-- The manual's clamping: below the range to its lower end, above it to its upper end. -/
def clamp (lo hi x : Int) : Int := if x < lo then lo else if hi < x then hi else x

/-- Move `x` toward `goal` by `up` or `down` at most, never past it (R70). -/
def approach (x goal up down : Int) : Int :=
  if x < goal then min goal (x + up) else if goal < x then max goal (x - down) else x

/-- A signed 64-bit accumulator (the manual's units of volume). Past its ends the value is free (log entry 3). -/
def fit64 (x : Int) : Int :=
  if -(2 ^ 63 : Int) ≤ x ∧ x < (2 ^ 63 : Int) then x else (Config.overflow64 x).toInt

/-- A 64-bit accumulator that is never negative (R130, R146). Past its end the value is free (log entry 3). -/
def fitNat64 (x : Int) : Int :=
  if 0 ≤ x ∧ x < (2 ^ 63 : Int) then x else ((Config.overflow64 x).toNat % 2 ^ 63 : Nat)

/-- Litres as µL. -/
def litres (l : Int) : Int := l * 1000000

/-- Start a timer with a limit in seconds. -/
def seconds (s : Int) : Timer := some (s * 1000).toNat

/-- Start a timer with a limit in ms. -/
def millis (ms : Int) : Timer := some ms.toNat

/-! ### Updates of one part of the state -/

def State.onPort (s : State) (f : Port → Port) : State := { s with port := f s.port }
def State.onProp (s : State) (f : Propulsion → Propulsion) : State := { s with prop := f s.prop }
def State.onSteer (s : State) (f : Steering → Steering) : State := { s with steer := f s.steer }
def State.onSup (s : State) (f : Supervisor → Supervisor) : State := { s with sup := f s.sup }
def State.onLine (s : State) (f : Line → Line) : State := { s with line := f s.line }
def State.onOrders (s : State) (f : Orders → Orders) : State := { s with orders := f s.orders }
def State.onFuel (s : State) (f : Fuel → Fuel) : State := { s with fuel := f s.fuel }
def State.onLegs (s : State) (f : Legs → Legs) : State := { s with legs := f s.legs }
def State.onStore (s : State) (f : Store → Store) : State := { s with store := f s.store }
def State.onCkpt (s : State) (f : Checkpoint → Checkpoint) : State := { s with ckpt := f s.ckpt }
def State.onCtl (s : State) (f : StartControl → StartControl) : State := { s with ctl := f s.ctl }
def State.onSettling (s : State) (f : Settling → Settling) : State := { s with settling := f s.settling }

/-- Update one engine channel. -/
def State.onChan (s : State) (e : Fin 4) (f : Channel → Channel) : State :=
  { s with chans := s.chans.set e (f s.chans[e]) }

/-- Update one rudder channel. -/
def State.onRudder (s : State) (r : Fin 8) (f : Rudder → Rudder) : State :=
  s.onSteer fun t => { t with rudders := t.rudders.set r (f t.rudders[r]) }

/-- Update one tank record. -/
def State.onTank (s : State) (k : Fin 8) (f : Tank → Tank) : State :=
  s.onFuel fun t => { t with tanks := t.tanks.set k (f t.tanks[k]) }

/-- Update the open leg. -/
def State.onLeg (s : State) (f : Leg → Leg) : State := s.onLegs fun l => { l with current := f l.current }

/-- The working settings (R184). -/
def State.settings (s : State) : Settings := s.store.working

def allEngines : List (Fin 4) := [0, 1, 2, 3]
def allRudders : List (Fin 8) := [0, 1, 2, 3, 4, 5, 6, 7]
def allTanks : List (Fin 8) := [0, 1, 2, 3, 4, 5, 6, 7]
def allMeters : List (Fin 10) := [0, 1, 2, 3, 4, 5, 6, 7, 8, 9]
def allSlots : List (Fin 16) := [0, 1, 2, 3, 4, 5, 6, 7, 8, 9, 10, 11, 12, 13, 14, 15]

/-- Run a step for each engine, rudder, tank or record of a list, in its order. -/
def forAll {α : Type} (l : List α) (f : α → State → State) (s : State) : State := l.foldl (fun s a => f a s) s

/-- The engine, rudder, tank or slot that a number counted from 1 (or from 0, with `base` 0) names. -/
def index? (n base count : Nat) : Option (Fin count) :=
  if h : base ≤ n ∧ n - base < count then some ⟨n - base, h.2⟩ else none

/-! ### What the blocks read of each other -/

/-- R66: the direction D follows the sign of Le. -/
def dirOf (le : Int) : Dir := if 0 < le then .ahead else if le < 0 then .astern else .neutral

/-- R66: the direction D. -/
def State.dir (s : State) : Dir := dirOf s.prop.le

/-- R60: the source lever L is 0 while the zero-latch is set, and the delivered lever otherwise. -/
def Propulsion.sourceLever (p : Propulsion) : Int := if p.latch then 0 else p.lever

/-- R162: |Le|. -/
def State.absLe (s : State) : Int := (s.prop.le.natAbs : Int)

/-- R6: the ramp divisor of a tonnage class. -/
def rampDivisor (cls : Nat) : Int := if cls = 1 then 1 else if cls = 2 then 2 else 4

/-! ### Reports -/

/-- R175: the classes, highest first, by their number on the wire (R200). -/
def ReportKind.cls : ReportKind → Nat
  | .bridgeSilent | .overspeed | .gearNoConfirm | .shaftWrongWay | .follow | .rudderStalled | .rudderFeedbackLost
  | .steeringDegraded | .couplingOverload | .couplingLost | .towUnheld | .lineDown | .nodeLost | .tankLow
  | .tankOverfull | .reserve | .tempRange => 1
  | .orderDone => 2
  | .nodeUnclaimed | .legLogFull => 3
  | .change => 4
  | .started | .legClosed | .settingsSaved => 5

/-- R200: the number of a kind within its class. -/
def ReportKind.number : ReportKind → Nat
  | .bridgeSilent => 1
  | .overspeed => 2
  | .gearNoConfirm => 3
  | .shaftWrongWay => 4
  | .follow => 5
  | .rudderStalled => 6
  | .rudderFeedbackLost => 7
  | .steeringDegraded => 8
  | .couplingOverload => 9
  | .couplingLost => 10
  | .towUnheld => 11
  | .lineDown => 12
  | .nodeLost => 13
  | .tankLow => 14
  | .tankOverfull => 15
  | .reserve => 16
  | .tempRange => 17
  | .orderDone => 1
  | .nodeUnclaimed => 1
  | .legLogFull => 2
  | .change => 1
  | .started => 1
  | .legClosed => 2
  | .settingsSaved => 3

/-- R176, step 1: the report is a queued CHANGE of the same subject as the CHANGE `r`. -/
def coalesces (r q : Report) : Bool := r.kind == .change && q.kind == .change && q.subject == r.subject

/-- R176, step 1: put the new body and stamp into the queued CHANGE of the same subject, in its place. -/
def replaceChange (r : Report) : List Report → List Report
  | [] => []
  | q :: qs => if coalesces r q then r :: qs else q :: replaceChange r qs

/-- R176, step 3: the lowest class present, by its number (the highest number). -/
def lowestClass (q : List Report) : Nat := q.foldl (fun m r => max m r.kind.cls) 0

/-- R176, step 3: take out the oldest report of class `c`. -/
def dropOldest (c : Nat) : List Report → List Report
  | [] => []
  | q :: qs => if q.kind.cls = c then qs else q :: dropOldest c qs

/-- R176: the Report Queue after a report, and whether a report was lost. -/
def enqueue (r : Report) (q : List Report) : List Report × Bool :=
  if q.any (coalesces r) then (replaceChange r q, false)
  else if q.length < Config.maxReports then (q ++ [r], false)
  else if r.kind.cls < lowestClass q then (dropOldest (lowestClass q) q ++ [r], true)
  else (q, true)

/-- R175, R176: a block queues a report; its stamp is the voyage clock as it stands. -/
def report (kind : ReportKind) (subject : Subject) (body : List Byte) (s : State) : State :=
  let r := enqueue ⟨kind, subject, s.clock, body⟩ s.port.queue
  s.onPort fun p => { p with queue := r.1, reportsLost := p.reportsLost || r.2 }

/-- R190: ask for a checkpoint write. The write starts, or the due mark is set, at the end of the command (log entry 9). -/
def askCheckpoint (s : State) : State := s.onSettling fun t => { t with checkpoint := true }

/-! ### Requests -/

/-- R174: an accepted answer with its body. -/
def accept (body : List Byte) : Answer := ⟨.accepted, body⟩

/-- R174: a refused reply has no body, and a refused request changes nothing at its owner. -/
def refuse (s : State) (c : Status) : State × Answer := (s, ⟨c, []⟩)

/-- The part runs: no start is coming (R191). -/
def State.up (s : State) : Bool := s.ctl.coming.isNone

/-- R183, R191: from the cause of a start until the blocks are up, the blocks do nothing and receive nothing. -/
def whenUp (s : State) (f : State → State) : Host.Outcome State Fault Refusal := .next (if s.up then f s else s)

/-- R174, step 3: the handling of a request by its owner. What the owner answers is kept as the port's last answer. -/
def answerRequest (s : State) (owner : State → State × Answer) : Host.Outcome State Fault Refusal :=
  whenUp s fun s => (owner s).1.onPort fun p => { p with answer := some (owner s).2 }

end Sys2Proof.Machine
end

