-- ==== Sys2Proof/Machine/Flags.lean ====
section
/-! DEFINITION. The numbers enumerated fields have on the wire (R196, R197, R199 to R203), the outputs of the part
(R81, R92, R105, R135, R139, R178, R191), and the status snapshot with its flags (R179, R201). -/

namespace Sys2Proof.Machine

/-! ### Numbers on the wire -/

/-- R197. -/
def Status.code : Status → Nat
  | .accepted => 0
  | .unknownRequest => 1
  | .badLength => 2
  | .badValue => 3
  | .notInCommand => 4
  | .notNow => 5
  | .duplicate => 6
  | .tagInUse => 7
  | .tableFull => 8
  | .notFound => 9
  | .notCapable => 10
  | .nodeAbsent => 11
  | .detachesTow => 12
  | .noSuch => 13
  | .positionTaken => 14

def Source.code : Source → Nat
  | .bridge => 1
  | .backup => 2

def Phase.code : Phase → Nat
  | .normal => 1
  | .hold => 2
  | .zeroed => 3

/-- R66 lists AHEAD, ASTERN, NEUTRAL (log entry 11). The snapshot has numbers of its own (R201). -/
def Dir.code : Dir → Nat
  | .ahead => 1
  | .astern => 2
  | .neutral => 3

def EngineMode.code : EngineMode → Nat
  | .inUse => 1
  | .standby => 2

/-- R79: numbered from 1 in the order of the rule; the snapshot numbers them from 0 (R201). -/
def Gear.code : Gear → Nat
  | .stopped => 1
  | .neutral => 2
  | .engagingAhead => 3
  | .ahead => 4
  | .engagingAstern => 5
  | .astern => 6
  | .disengaging => 7
  | .fault => 8

def FaultKind.code : FaultKind → Nat
  | .none => 1
  | .overspeed => 2
  | .shaftWrongWay => 3
  | .gearNoConfirm => 4

def SteerMode.code : SteerMode → Nat
  | .rudder => 1
  | .rudderDiff => 2
  | .full => 3

def RudderState.code : RudderState → Nat
  | .ok => 1
  | .stalled => 2
  | .feedbackLost => 3

def Valve.code : Valve → Nat
  | .none => 1
  | .port => 2
  | .starboard => 3

def NodeKind.code : NodeKind → Nat
  | .winch => 1
  | .bow => 2

/-- R39's order. 0 stands for a record that is gone, in the CHANGE report of its removal (R52; DESIGN CHOICE, log entry 10). -/
def nodeStateCode : Option NodeState → Nat
  | none => 0
  | some .joining => 1
  | some .active => 2
  | some .silent => 3
  | some .lost => 4
  | some .departing => 5
  | some .departed => 6
  | some .rejected => 7

def BargeState.code : BargeState → Nat
  | .expected => 1
  | .inTow => 2
  | .castOff => 3

/-- R7 and R11 list the states in two orders, and R196 does not say which is the owning rule's; these are R7's, whose field it is (DESIGN
CHOICE, log entry 11). -/
def CouplingState.code : CouplingState → Nat
  | .unconfirmed => 1
  | .slack => 2
  | .hauling => 3
  | .fast => 4
  | .overload => 5
  | .releasing => 6
  | .released => 7
  | .lost => 8
  | .fault => 9

/-- R203: the channel command in a poll. READ_COUPLING sends the same numbers (DESIGN CHOICE, log entry 11). -/
def WinchCmd.code : WinchCmd → Nat
  | .none => 0
  | .haul => 1
  | .release => 2
  | .stop => 3

/-- R203: hook closed in bit 0, released-confirm in bit 1, winch fault in bit 2. -/
def WinchFlags.code (f : WinchFlags) : Nat := f.hook.toNat + 2 * f.confirm.toNat + 4 * f.fault.toNat

/-- R203: the abilities byte of a kind. -/
def Abilities.code (a : Abilities) : NodeKind → Nat
  | .winch => a.tension.toNat + 2 * a.haul.toNat + 4 * a.release.toNat + 8 * a.dual.toNat + 16 * a.urgent.toNat
  | .bow => a.thrust.toNat + 2 * a.feedback.toNat + 16 * a.urgent.toNat

def Role.code : Role → Nat
  | .full => 1
  | .monitor => 2

/-- The line state in LIST_NODES, numbered from 1 in R37's order (R196); R201's numbers from 0 are those of the snapshot's bits (DESIGN
CHOICE, log entry 11). -/
def LineState.code : LineState → Nat
  | .up => 1
  | .fault => 2
  | .down => 3

/-- R199. -/
def OrderState.code : OrderState → Nat
  | .queued => 1
  | .waiting => 2
  | .active => 3
  | .aborting => 4

/-- R157 lists FACE_POOL, PUMP, BUNKER_METER or none, and R196 numbers a list from 1, so none is 4 (log entry 11). -/
def resourceCode : Option Resource → Nat
  | some .facePool => 1
  | some .pump => 2
  | some .bunkerMeter => 3
  | none => 4

/-- R200. -/
def OrderResult.code : OrderResult → Nat
  | .done => 1
  | .aborted => 2
  | .timedOut => 3
  | .overload => 4
  | .nodeLost => 5
  | .notConfirmed => 6
  | .thrustHigh => 7
  | .sourceEmpty => 8
  | .destFull => 9
  | .noFlow => 10
  | .cancelled => 11

/-- R198: HAUL 1, RELEASE 2, TRANSFER 3, BUNKER 4. -/
def Work.code : Work → Nat
  | .haul _ => 1
  | .release _ _ _ => 2
  | .transfer _ => 3
  | .bunker _ => 4

def TempStatus.code : TempStatus → Nat
  | .inRange => 1
  | .clamped => 2
  | .failed => 3

/-- R200. -/
def CloseCause.code : CloseCause → Nat
  | .host => 1
  | .makeup => 2
  | .makeupDeferred => 3

/-- R200. -/
def StartCause.code : StartCause → Nat
  | .powerOn => 1
  | .supplyDip => 2
  | .resetLine => 3
  | .restart => 4

/-- R196: a stamp: 4 bytes of seconds, then its mark. -/
def Stamp.bytes (t : Stamp) : List Byte := unsigned 4 t.seconds ++ yesNo t.isSet

/-- R200: the subject type byte and the subject's 4 bytes. -/
def Subject.bytes : Subject → List Byte
  | .nothing => unsigned 1 0 ++ unsigned 4 0
  | .engine n => unsigned 1 1 ++ unsigned 4 n
  | .rudder n => unsigned 1 2 ++ unsigned 4 n
  | .coupling n => unsigned 1 3 ++ unsigned 4 n
  | .position p => unsigned 1 4 ++ unsigned 4 (p.col * 16 + p.row)
  | .serial n => unsigned 1 5 ++ unsigned 4 n
  | .tank n => unsigned 1 6 ++ unsigned 4 n
  | .meter n => unsigned 1 7 ++ unsigned 4 n
  | .tag n => unsigned 1 8 ++ unsigned 4 n
  | .leg n => unsigned 1 9 ++ unsigned 4 n
  | .commandSource => unsigned 1 10 ++ unsigned 4 0
  | .caps => unsigned 1 11 ++ unsigned 4 0

/-- R200: a report record of 13 to 37 bytes. -/
def Report.bytes (r : Report) : List Byte :=
  unsigned 1 r.kind.cls ++ unsigned 1 r.kind.number ++ r.subject.bytes ++ r.stamp.bytes ++
    unsigned 1 r.body.length ++ r.body

/-! ### Live orders -/

/-- R157: the live orders with their slots, in slot order. -/
def State.liveOrders (s : State) : List (Fin 16 × Order) :=
  allSlots.filterMap fun i => s.orders.slots[i].map fun o => (i, o)

/-- R157: the coupling a HAUL or RELEASE works on. -/
def Work.coupling? : Work → Option Nat
  | .haul c => some c
  | .release c _ _ => some c
  | .transfer _ => none
  | .bunker _ => none

/-- R157: the tanks a TRANSFER or BUNKER works on, source first. -/
def Work.tanks : Work → List Nat
  | .haul _ => []
  | .release _ _ _ => []
  | .transfer t => [t.source, t.dest]
  | .bunker b => [b.dest]

/-- R158: the work of an order is a RELEASE. -/
def Work.isRelease : Work → Bool
  | .release _ _ _ => true
  | _ => false

/-- R160: an order holds its place while ACTIVE or ABORTING. -/
def Order.working (o : Order) : Bool := o.state == .active || o.state == .aborting

/-- The TRANSFER that is pumping or coasting (R136). At most one is (R160). -/
def State.transferOrder (s : State) : Option (Fin 16 × Order × TransferWork) :=
  s.liveOrders.findSome? fun (i, o) =>
    match o.work with
    | .transfer t => if o.working then some (i, o, t) else none
    | _ => none

/-- The BUNKER that is ACTIVE or ABORTING (R139). At most one is (R160). -/
def State.bunkerOrder (s : State) : Option (Fin 16 × Order × BunkerWork) :=
  s.liveOrders.findSome? fun (i, o) =>
    match o.work with
    | .bunker b => if o.working then some (i, o, b) else none
    | _ => none

/-! ### Outputs -/

/-- R178, R191: the attention line is asserted while the Report Queue holds a report, and released while the part is down. -/
def State.attention (s : State) : Bool := s.up && !s.port.queue.isEmpty

/-- R79, R81, R191: the ahead clutch is driven in ENGAGING_AHEAD and AHEAD of a present engine. -/
def State.aheadClutch (s : State) (e : Fin 4) : Bool :=
  s.up && s.settings.enginePresent e && (s.chans[e].gear == .engagingAhead || s.chans[e].gear == .ahead)

/-- R79, R81, R191: the astern clutch is driven in ENGAGING_ASTERN and ASTERN of a present engine. -/
def State.asternClutch (s : State) (e : Fin 4) : Bool :=
  s.up && s.settings.enginePresent e && (s.chans[e].gear == .engagingAstern || s.chans[e].gear == .astern)

/-- R79, R92, R191: the high phase of the governor period in progress, in µs; 0 for an output held low. -/
def State.governorHighUs (s : State) (e : Fin 4) : Int :=
  if s.up && s.settings.enginePresent e then s.chans[e].duty * 20 else 0

/-- R105, R191: the valve a rudder channel's outputs drive. -/
def State.valveOutput (s : State) (r : Fin 8) : Valve :=
  if s.up && s.settings.rudderPresent r then s.steer.rudders[r].valve else .none

/-- R135, R191: the pump output is on while a TRANSFER is in the PUMPING stage. -/
def State.pumpOn (s : State) : Bool :=
  s.up && (match s.transferOrder with | some (_, _, t) => !t.coasting | none => false)

/-- R139, R191: the bunker valve is open while a BUNKER is ACTIVE. -/
def State.bunkerOpen (s : State) : Bool :=
  s.up && (match s.bunkerOrder with | some (_, o, _) => o.state == .active | none => false)

/-- R32, R191: the frame that the part drives onto the Barge Line: the one being sent, and none while the part is down. -/
def State.lineDriven (s : State) : Option TxFrame :=
  if s.up then match s.line.phase with | .sending f => some f | _ => none else none

/-! ### The status snapshot -/

/-- R201: D in the snapshot: 0 NEUTRAL, 1 AHEAD, 2 ASTERN. -/
def Dir.snapshotCode : Dir → Nat
  | .neutral => 0
  | .ahead => 1
  | .astern => 2

/-- R201: the gear state of an engine in the snapshot, 15 for an absent engine. -/
def State.gearNibble (s : State) (e : Fin 4) : Nat :=
  if s.settings.enginePresent e then s.chans[e].gear.code - 1 else 15

/-- R179: the couplings in each state class: FIRM, WORKING, TROUBLE, RELEASED. -/
def State.couplingCounts (s : State) : Nat × Nat × Nat × Nat :=
  let n (p : CouplingState → Bool) := (s.sup.couplings.filter fun c => p c.state).length
  (n fun t => t == .fast, n fun t => t == .unconfirmed || t == .slack || t == .hauling || t == .releasing,
    n fun t => t == .overload || t == .lost || t == .fault, n fun t => t == .released)

/-- R179, R201: byte 19 of the snapshot. -/
def State.stateFlags (s : State) : Nat :=
  s.prop.latch.toNat + 2 * (s.prop.phase != .normal).toNat + 4 * s.prop.sync.toNat +
    8 * (allEngines.any fun e => s.settings.enginePresent e && s.chans[e].gear == .fault).toNat +
    16 * s.steer.degraded.toNat + 32 * s.legs.current.pendingClose.toNat + 64 * (!s.clock.isSet).toNat +
    128 * s.store.save.isSome.toNat

/-- R179, R201: the 24 bytes of the snapshot. R120 says that READ_STATUS carries the differential trim T and the bow
demand beside the helm; R179 and R201 list every byte and give neither a place, R180 makes every later byte 0, and the model
follows them (DESIGN CHOICE, log entry 40). -/
def State.snapshot (s : State) : List Byte :=
  let (firm, work, trouble, released) := s.couplingCounts
  unsigned 1 ((s.prop.source == .backup).toNat + 2 * s.dir.snapshotCode + 8 * (s.line.state.code - 1) +
      32 * s.port.reportsLost.toNat + 64 * s.port.linkError.toNat + 128 * s.port.overrun.toNat) ++
    signed 2 s.prop.le ++ signed 2 s.steer.helm ++ unsigned 2 s.sup.ccap.toNat ++ unsigned 2 s.fuel.fcap.toNat ++
    unsigned 2 (s.gearNibble 0 * 4096 + s.gearNibble 1 * 256 + s.gearNibble 2 * 16 + s.gearNibble 3) ++
    unsigned 3 (firm * 262144 + work * 4096 + trouble * 64 + released) ++ unsigned 3 s.sup.tonnage.toNat ++
    unsigned 1 s.port.queue.length ++ unsigned 1 s.liveOrders.length ++ unsigned 1 s.stateFlags ++
    unsigned 4 s.legs.current.number

end Sys2Proof.Machine
end

