-- ==== Sys2Proof/Machine/EngineChannels.lean ====
section
/-! DEFINITION. Engine Channels (R79 to R100): the gear-shift cycle, the shaft, the governor, the faults, and the commands
that act on one channel. -/

namespace Sys2Proof.Machine

/-- The gear state of an engine on the wire, in the CHANGE report (R98) and in the reply to SET_ENGINE_MODES (R82). An absent
engine has no gear state (R79), and 0 stands in its place (DESIGN CHOICE, log entry 11). -/
def State.gearByte (s : State) (e : Fin 4) : Nat :=
  if s.settings.enginePresent e then s.chans[e].gear.code else 0

/-- R98, R79: a CHANGE report with subject ENGINE: presence, mode, gear state (0 for an absent engine, log entry 11), fault
kind, FOLLOW alarm. -/
def engineReport (e : Fin 4) (s : State) : State :=
  let c := s.chans[e]
  report .change (.engine (e.val + 1))
    (yesNo (s.settings.enginePresent e) ++ unsigned 1 c.mode.code ++ unsigned 1 (s.gearByte e) ++
      unsigned 1 c.fault.code ++ yesNo c.follow) s

/-- Every channel timer stopped (R84, R96). -/
def Channel.timersStopped (c : Channel) : Channel :=
  { c with engageTimer := none, dwellTimer := none, dwellTimeout := none, wrongWayTimer := none, followTimer := none }

/-- R80: the feedbacks confirm ahead: ahead on and astern off. -/
def Channel.confirmsAhead (c : Channel) : Bool := c.aheadFb.level && !c.asternFb.level

/-- R80: the feedbacks confirm astern. -/
def Channel.confirmsAstern (c : Channel) : Bool := c.asternFb.level && !c.aheadFb.level

/-- R86: an engaging channel whose feedback confirms its direction is engaged; its engage-confirm timer stops. -/
def confirmGear (e : Fin 4) (s : State) : State :=
  let c := s.chans[e]
  match c.gear with
  | .engagingAhead =>
      if c.confirmsAhead then engineReport e (s.onChan e fun c => { c with gear := .ahead, engageTimer := none }) else s
  | .engagingAstern =>
      if c.confirmsAstern then engineReport e (s.onChan e fun c => { c with gear := .astern, engageTimer := none }) else s
  | _ => s

/-- R85: a NEUTRAL channel that is IN_USE, with D AHEAD or ASTERN, engages in D; a feedback that already confirms engages
it in the same event (R86). -/
def engagementTest (e : Fin 4) (s : State) : State :=
  let c := s.chans[e]
  let confirmMs := seconds s.settings.engine.engageConfirmS
  if s.settings.enginePresent e && c.gear == .neutral && c.mode == .inUse then
    match s.dir with
    | .ahead => confirmGear e (engineReport e (s.onChan e fun c => { c with gear := .engagingAhead, engageTimer := confirmMs }))
    | .astern => confirmGear e (engineReport e (s.onChan e fun c => { c with gear := .engagingAstern, engageTimer := confirmMs }))
    | .neutral => s
  else s

/-- R85, R89: entry into NEUTRAL stops the dwell timers, queues a CHANGE and makes the engagement test. -/
def enterNeutral (e : Fin 4) (s : State) : State :=
  engagementTest e (engineReport e (s.onChan e fun c =>
    { c with gear := .neutral, dwellTimer := none, dwellTimeout := none }))

/-- R89: the shaft of the last window counts as stopped by its measured rpm, also with a limit of 0 (DESIGN CHOICE beside R99, log entry
52). -/
def State.shaftStopped (s : State) (e : Fin 4) : Bool := (s.chans[e].rpm.natAbs : Int) ≤ s.settings.engine.shaftStop

/-- R89: the neutral dwell has run out: NEUTRAL at once when the last window showed the shaft stopped. -/
def dwellRunOut (e : Fin 4) (s : State) : State :=
  let s := s.onChan e fun c => { c with dwellTimer := none }
  if s.shaftStopped e then enterNeutral e s else s

/-- R87, R88: the clutch is released and both dwell timers start. A neutral dwell of 0 has run out at once (R99). -/
def disengage (e : Fin 4) (s : State) : State :=
  let t := s.settings.engine
  let s := engineReport e (s.onChan e fun c =>
    { c.timersStopped with
      gear := .disengaging, follow := false, dwellTimer := millis t.neutralDwellMs,
      dwellTimeout := seconds t.dwellTimeoutS })
  if t.neutralDwellMs ≤ 0 then dwellRunOut e s else s

/-- R88: an engaged channel at idle disengages when D left its direction or its mode is STANDBY. -/
def disengageTest (e : Fin 4) (s : State) : State :=
  let c := s.chans[e]
  let leaves (d : Dir) : Bool := c.demand == s.settings.engine.idle[e] && (s.dir != d || c.mode == .standby)
  match c.gear with
  | .ahead => if leaves .ahead then disengage e s else s
  | .astern => if leaves .astern then disengage e s else s
  | _ => s

/-- R85, R87, R88: what a change of D does to a channel. In STOPPED, FAULT and DISENGAGING it does nothing at once. -/
def channelOnDirection (e : Fin 4) (s : State) : State :=
  if s.settings.enginePresent e then
    match s.chans[e].gear with
    | .neutral => engagementTest e s
    | .engagingAhead => if s.dir != .ahead then disengage e s else s
    | .engagingAstern => if s.dir != .astern then disengage e s else s
    | .ahead => disengageTest e s
    | .astern => disengageTest e s
    | .stopped => s
    | .disengaging => s
    | .fault => s
  else s

/-- The alarm of a fault kind (R96). -/
def FaultKind.alarm : FaultKind → ReportKind
  | .overspeed => .overspeed
  | .shaftWrongWay => .shaftWrongWay
  | .gearNoConfirm => .gearNoConfirm
  | .none => .change

/-- R96: entry into FAULT. -/
def enterFault (e : Fin 4) (k : FaultKind) (s : State) : State :=
  let s := s.onChan e fun c =>
    { c.timersStopped with gear := .fault, fault := k, follow := false, demand := s.settings.engine.idle[e] }
  engineReport e (report k.alarm (.engine (e.val + 1)) (signed 2 s.chans[e].rpm) s)

/-- R84: the running input taken off brings the channel to STOPPED from any state, keeping its fault kind. -/
def enterStopped (e : Fin 4) (s : State) : State :=
  engineReport e (s.onChan e fun c =>
    { c.timersStopped with gear := .stopped, follow := false, demand := s.settings.engine.idle[e] })

/-- R84: the running input taken on in STOPPED: NEUTRAL, or FAULT where a fault kind is kept. -/
def engineRuns (e : Fin 4) (s : State) : State :=
  if s.chans[e].gear == .stopped then
    if s.chans[e].fault == .none then enterNeutral e s
    else engineReport e (s.onChan e fun c => { c with gear := .fault })
  else s

/-- R80, R84, R100: a channel brought up at a start or by being made present: levels as they stand, NEUTRAL or STOPPED. -/
def Channel.broughtUp (c : Channel) (mode : EngineMode) (ni : Int) : Channel :=
  let take (i : Input) : Input := ⟨i.raw, i.raw, false⟩
  { Channel.atStart ni with
    mode := mode, running := take c.running, aheadFb := take c.aheadFb, asternFb := take c.asternFb,
    gear := if c.running.raw then .neutral else .stopped }

/-- R79: a channel of an engine made absent: it holds only its mode. The pins keep their levels. -/
def Channel.quiet (c : Channel) (ni : Int) : Channel :=
  let drop (i : Input) : Input := ⟨i.raw, false, false⟩
  { Channel.atStart ni with
    mode := c.mode, running := drop c.running, aheadFb := drop c.aheadFb, asternFb := drop c.asternFb }

/-! ### Modes -/

/-- R83, R96: a change of mode acts by the gear state. -/
def modeChanged (e : Fin 4) (m : EngineMode) (s : State) : State :=
  let s := engineReport e (s.onChan e fun c => { c with mode := m })
  if s.settings.enginePresent e then
    match s.chans[e].gear, m with
    | .neutral, .inUse => engagementTest e s
    | .engagingAhead, .standby => disengage e s
    | .engagingAstern, .standby => disengage e s
    | .ahead, .standby => disengageTest e s
    | .astern, .standby => disengageTest e s
    | .fault, .inUse => enterNeutral e (s.onChan e fun c => { c with fault := .none })
    | _, _ => s
  else s

/-- R82: take the mode a request carries for one engine. -/
def applyMode (mask : Nat) (e : Fin 4) (m : Nat) (s : State) : State :=
  let mode : EngineMode := if m = 1 then .inUse else .standby
  if mask.testBit e.val && s.chans[e].mode != mode then modeChanged e mode s else s

/-- R82, R196: a masked engine carries a mode value that is neither IN_USE 1 nor STANDBY 2. -/
def badMode (mask : Nat) (e : Nat) (m : Nat) : Bool := mask.testBit e && !(m == 1 || m == 2)

/-- R82: SET_ENGINE_MODES. The high four bits of the mask are ignored (R196). The reply gives 0 as the gear state of an absent
engine (log entry 11). Engines 1 to 4 take their modes in order (DESIGN CHOICE, log entry 50). -/
def setEngineModes (mask m1 m2 m3 m4 : Nat) (s : State) : State × Answer :=
  if badMode mask 0 m1 || badMode mask 1 m2 || badMode mask 2 m3 || badMode mask 3 m4 then refuse s .badValue
  else
    let s := applyMode mask 3 m4 (applyMode mask 2 m3 (applyMode mask 1 m2 (applyMode mask 0 m1 s)))
    (s, accept (allEngines.flatMap fun e => unsigned 1 s.chans[e].mode.code ++ unsigned 1 (s.gearByte e)))

def execSetEngineModes (mask m1 m2 m3 m4 : Nat) (s : State) : Host.Outcome State Fault Refusal :=
  answerRequest s (setEngineModes mask m1 m2 m3 m4)

/-! ### Reading a channel -/

/-- R97: whether a timer runs and the time left on it. The time left is a free value up to the timer's limit (log entry 5). -/
def timerBytes (n : Nat) : Timer → List Byte
  | none => yesNo false ++ unsigned 4 0
  | some limit => yesNo true ++ unsigned 4 (Config.timeLeft n % (limit + 1))

/-- R97: which clutch output is driven, if either: ahead 1, astern 2 (log entry 11). -/
def State.drivenClutch (s : State) (e : Fin 4) : Option Nat :=
  if s.aheadClutch e then some 1 else if s.asternClutch e then some 2 else none

/-- R97: the reply to READ_ENGINE. For an absent engine: absent, the mode, and zeros. An input's level is a yes/no, off 0 and on 1 (DESIGN
CHOICE, log entry 11). -/
def engineBody (e : Fin 4) (s : State) : List Byte :=
  let c := s.chans[e]
  let t := s.settings.engine
  if s.settings.enginePresent e then
    yesNo true ++ unsigned 1 t.side[e].toNat ++ signed 2 t.idle[e] ++ signed 2 t.maxSpeed[e] ++
      unsigned 2 t.ppr[e].toNat ++ unsigned 1 c.mode.code ++ unsigned 1 c.gear.code ++ unsigned 1 c.fault.code ++
      yesNo c.follow ++ optional 1 (unsigned 1) (s.drivenClutch e) ++ yesNo c.running.level ++ yesNo c.aheadFb.level ++
      yesNo c.asternFb.level ++ signed 2 c.target ++ signed 2 c.demand ++ unsigned 2 c.duty.toNat ++
      signed 2 c.rpm ++ signed 2 c.count ++ timerBytes s.readings c.engageTimer ++
      timerBytes (s.readings + 1) c.dwellTimer ++ timerBytes (s.readings + 2) c.dwellTimeout ++
      timerBytes (s.readings + 3) c.wrongWayTimer ++ timerBytes (s.readings + 4) c.followTimer
  else yesNo false ++ List.replicate 7 0 ++ unsigned 1 c.mode.code ++ List.replicate 43 0

/-- R97: READ_ENGINE changes nothing; the model's counter of free readings moves on. -/
def readEngine (n : Nat) (s : State) : State × Answer :=
  match index? n 1 4 with
  | none => refuse s .badValue
  | some e => ({ s with readings := s.readings + 5 }, accept (engineBody e s))

def execReadEngine (n : Nat) (s : State) : Host.Outcome State Fault Refusal := answerRequest s (readEngine n)

/-! ### The shaft, the governor and the inputs -/

/-- R90: one count into the window. A count that would pass ±32,767 is held at that limit for the rest of the window. -/
def Channel.counted (c : Channel) (d : Int) : Channel :=
  if c.countHeld then c
  else if 32767 < c.count + d ∨ c.count + d < -32767 then { c with countHeld := true }
  else { c with count := c.count + d }

/-- R90: a rising edge of the first pickup phase counts +1 with the second phase low and −1 with it high. -/
def shaftPulse (e : Fin 4) (secondHigh : Bool) (s : State) : State :=
  if s.settings.enginePresent e then s.onChan e fun c => c.counted (if secondHigh then -1 else 1) else s

def execShaftPulse (e : Fin 4) (secondHigh : Bool) (s : State) : Host.Outcome State Fault Refusal :=
  whenUp s (shaftPulse e secondHigh)

/-- R93: the measured speed passes the overspeed limit, tested without rounding. -/
def State.overspeeds (s : State) (e : Fin 4) : Bool :=
  (s.chans[e].rpm.natAbs : Int) * 100 > s.settings.engine.maxSpeed[e] * (100 + s.settings.engine.overspeedMargin)

/-- R94: the shaft turns the wrong way, past the shaft stop limit. -/
def State.wrongWay (s : State) (e : Fin 4) : Bool :=
  let c := s.chans[e]
  (c.rpm.natAbs : Int) > s.settings.engine.shaftStop &&
    ((c.gear == .ahead && c.rpm < 0) || (c.gear == .astern && 0 < c.rpm))

/-- R95: the engine is off its demand by more than the follow limit. -/
def State.offDemand (s : State) (e : Fin 4) : Bool :=
  (((s.chans[e].rpm.natAbs : Int) - s.chans[e].demand).natAbs : Int) > s.settings.engine.followLimit

/-- R94: the wrong-way timer starts at the first wrong window and stops at the first right one. -/
def wrongWayTest (e : Fin 4) (s : State) : State :=
  if s.wrongWay e then
    s.onChan e fun c => { c with wrongWayTimer := c.wrongWayTimer.or (millis s.settings.engine.wrongWayMs) }
  else s.onChan e fun c => { c with wrongWayTimer := none }

/-- R95: the follow timer starts at the first window off the demand with no alarm standing; a window within the limit stops it and
clears a standing alarm. -/
def followTest (e : Fin 4) (s : State) : State :=
  let c := s.chans[e]
  if s.offDemand e then
    if c.follow then s
    else s.onChan e fun c => { c with followTimer := c.followTimer.or (seconds s.settings.engine.followTimeS) }
  else
    let s := s.onChan e fun c => { c with followTimer := none, follow := false }
    if c.follow then engineReport e s else s

/-- R91, R93 to R95: the shaft tests of a window. -/
def shaftTests (e : Fin 4) (s : State) : State :=
  match s.chans[e].gear with
  | .stopped => s
  | .fault => s
  | .ahead => if s.overspeeds e then enterFault e .overspeed s else followTest e (wrongWayTest e s)
  | .astern => if s.overspeeds e then enterFault e .overspeed s else followTest e (wrongWayTest e s)
  | _ => if s.overspeeds e then enterFault e .overspeed s else s

/-- R89: in DISENGAGING with the dwell run out, the first window that shows the shaft stopped brings NEUTRAL. -/
def windowInDisengaging (e : Fin 4) (s : State) : State :=
  if s.chans[e].gear == .disengaging && s.chans[e].dwellTimer.isNone && s.shaftStopped e then enterNeutral e s else s

/-- R91: at a shaft window the count becomes the measured rpm, count × 120 / PPR rounded half away from zero. -/
def shaftWindow (e : Fin 4) (s : State) : State :=
  if s.settings.enginePresent e then
    windowInDisengaging e (shaftTests e (s.onChan e fun c =>
      { c with rpm := roundHalfAway (c.count * 120) s.settings.engine.ppr[e], count := 0, countHeld := false }))
  else s

def execShaftWindowExpiry (e : Fin 4) (s : State) : Host.Outcome State Fault Refusal := whenUp s (shaftWindow e)

/-- R92: the duty of a demand: 100 + (N_d − Ni) × 800 / (Nmax − Ni), rounded half up. -/
def dutyOf (demand ni nmax : Int) : Int := 100 + roundHalfUp ((demand - ni) * 800) (nmax - ni)

/-- R92: at the end of each low phase a present channel latches the duty from N_d as it stands. -/
def governorPeriodEnd (e : Fin 4) (s : State) : State :=
  if s.settings.enginePresent e then
    s.onChan e fun c => { c with duty := dutyOf c.demand s.settings.engine.idle[e] s.settings.engine.maxSpeed[e] }
  else s

def execGovernorPeriodEnd (e : Fin 4) (s : State) : Host.Outcome State Fault Refusal := whenUp s (governorPeriodEnd e)

/-- The input a command names. -/
def Channel.input (c : Channel) : EngineInput → Input
  | .running => c.running
  | .aheadFeedback => c.aheadFb
  | .asternFeedback => c.asternFb

/-- Replace an input. -/
def Channel.setInput (c : Channel) (v : Input) : EngineInput → Channel
  | .running => { c with running := v }
  | .aheadFeedback => { c with aheadFb := v }
  | .asternFeedback => { c with asternFb := v }

/-- R80: a raw level change starts or restarts the 50 ms hold; a change back to the taken level cancels it. -/
def rawLevel (present level : Bool) (i : Input) : Input := ⟨level, i.level, present && level != i.level⟩

/-- R79, R80: the pin takes the level also while the engine is absent or the part is down; no hold runs then. -/
def engineInputChange (e : Fin 4) (inp : EngineInput) (level : Bool) (s : State) : State :=
  s.onChan e fun c => c.setInput (rawLevel (s.up && s.settings.enginePresent e) level (c.input inp)) inp

def execEngineInputChange (e : Fin 4) (inp : EngineInput) (level : Bool) (s : State) :
    Host.Outcome State Fault Refusal := .next (engineInputChange e inp level s)

/-- R80, R84, R86: a level that has held for 50 ms is taken, and acts on the channel. -/
def inputFilterExpiry (e : Fin 4) (inp : EngineInput) (s : State) : State :=
  let i := s.chans[e].input inp
  if s.settings.enginePresent e && i.holding then
    let s := s.onChan e fun c => c.setInput ⟨i.raw, i.raw, false⟩ inp
    match inp with
    | .running => if i.raw then engineRuns e s else enterStopped e s
    | .aheadFeedback => confirmGear e s
    | .asternFeedback => confirmGear e s
  else s

def execInputFilterExpiry (e : Fin 4) (inp : EngineInput) (s : State) : Host.Outcome State Fault Refusal :=
  whenUp s (inputFilterExpiry e inp)

/-! ### Channel timers -/

/-- R86: the engage-confirm timer runs out: FAULT with GEAR_NO_CONFIRM. -/
def engageConfirmExpiry (e : Fin 4) (s : State) : State :=
  if s.chans[e].engageTimer.isSome then enterFault e .gearNoConfirm s else s

def execEngageConfirmExpiry (e : Fin 4) (s : State) : Host.Outcome State Fault Refusal :=
  whenUp s (engageConfirmExpiry e)

/-- R89: the neutral dwell runs out. -/
def neutralDwellExpiry (e : Fin 4) (s : State) : State :=
  if s.chans[e].dwellTimer.isSome then dwellRunOut e s else s

def execNeutralDwellExpiry (e : Fin 4) (s : State) : Host.Outcome State Fault Refusal := whenUp s (neutralDwellExpiry e)

/-- R89: the dwell timeout runs out: NEUTRAL whatever the shaft speed. -/
def dwellTimeoutExpiry (e : Fin 4) (s : State) : State :=
  if s.chans[e].dwellTimeout.isSome then enterNeutral e s else s

def execDwellTimeoutExpiry (e : Fin 4) (s : State) : Host.Outcome State Fault Refusal := whenUp s (dwellTimeoutExpiry e)

/-- R94: the wrong-way timer runs out: FAULT with SHAFT_WRONG_WAY. -/
def wrongWayExpiry (e : Fin 4) (s : State) : State :=
  if s.chans[e].wrongWayTimer.isSome then enterFault e .shaftWrongWay s else s

def execWrongWayExpiry (e : Fin 4) (s : State) : Host.Outcome State Fault Refusal := whenUp s (wrongWayExpiry e)

/-- R95: the follow timer runs out: the FOLLOW alarm is raised and the channel goes on. -/
def followExpiry (e : Fin 4) (s : State) : State :=
  if s.chans[e].followTimer.isSome then
    let s := s.onChan e fun c => { c with followTimer := none, follow := true }
    engineReport e (report .follow (.engine (e.val + 1)) (signed 2 s.chans[e].rpm ++ signed 2 s.chans[e].demand) s)
  else s

def execFollowExpiry (e : Fin 4) (s : State) : Host.Outcome State Fault Refusal := whenUp s (followExpiry e)

end Sys2Proof.Machine
end

