-- ==== Sys2Proof/Machine/SteeringControl.lean ====
section
/-! DEFINITION. The Steering Controller (R101 to R122): targets, trim and bow demand, the rudder channels, degraded steering, the
Bow Unit List, and the commands that act on steering alone. SET_HELM stands with the lever (Machine/Propulsion.lean). -/

namespace Sys2Proof.Machine

/-! ### The steering recomputation -/

/-- R113, R114: the gain in force, doubled while steering is degraded. -/
def State.gain (s : State) : Int :=
  if s.steer.degraded then 2 * s.settings.steering.diffGain else s.settings.steering.diffGain

/-- R107: the target of a rudder. The flanking rudders stand amidships unless D is ASTERN. -/
def State.rudderTarget (s : State) (r : Fin 8) : Int :=
  if r.val < 4 then roundHalfAway (s.steer.helm * s.settings.steering.maxSteering) 1000
  else if s.dir == .astern then roundHalfAway (-s.steer.helm * s.settings.steering.maxFlanking) 1000
  else 0

/-- R114: the trim with D AHEAD. -/
def State.trimAhead (s : State) : Int := clamp (-200) 200 (roundHalfAway (s.steer.helm * s.gain) 1000)

/-- R114: the differential trim T. -/
def State.trimNow (s : State) : Int :=
  match s.dir with
  | .neutral => 0
  | .ahead => if s.steer.mode == .rudder && !s.steer.degraded then 0 else s.trimAhead
  | .astern => if s.steer.mode == .rudder && !s.steer.degraded then 0 else -s.trimAhead

/-- R113, R118: the bow units are used in FULL, and in every mode while steering is degraded. -/
def State.bowsUsed (s : State) : Bool := s.steer.mode == .full || s.steer.degraded

/-- R118: the bow demand. -/
def State.bowDemandNow (s : State) : Int :=
  if s.bowsUsed then clamp (-1000) 1000 (roundHalfAway (s.steer.helm * s.settings.steering.bowGain) 1000) else 0

/-- R107: the target of every present rudder is set, in every state. -/
def setTargets (s : State) : State :=
  forAll allRudders (fun r s =>
    if s.settings.rudderPresent r then s.onRudder r fun x => { x with target := s.rudderTarget r } else s) s

/-- R103: the steering recomputation. -/
def steeringRecompute (s : State) : State :=
  (setTargets s).onSteer fun t => { t with trim := s.trimNow, bowDemand := s.bowDemandNow }

/-- R101, R102: store a helm; a changed helm makes the steering recomputation. -/
def setHelmTo (h : Int) (s : State) : State :=
  if s.steer.helm = h then s else steeringRecompute (s.onSteer fun t => { t with helm := h })

/-! ### Degraded steering -/

/-- R112: no present steering rudder is in OK. -/
def State.noSteeringRudder (s : State) : Bool :=
  allRudders.all fun r => !(r.val < 4 && s.settings.rudderPresent r && s.steer.rudders[r].state == .ok)

/-- R112, R113: the degraded test. The alarm carries the helm, the mode and the gain then in force, which is doubled by then. -/
def degradedTest (s : State) : State :=
  if s.noSteeringRudder then
    if s.steer.degraded then s
    else
      let s := s.onSteer fun t => { t with degraded := true }
      steeringRecompute (report .steeringDegraded .nothing
        (signed 2 s.steer.helm ++ unsigned 1 s.steer.mode.code ++ signed 2 s.gain) s)
  else if s.steer.degraded then steeringRecompute (s.onSteer fun t => { t with degraded := false })
  else s

/-! ### The rudders -/

/-- R106: a sample lies in the channel's window. -/
def SteeringSettings.validSample (t : SteeringSettings) (r : Fin 8) (raw : Nat) : Bool :=
  t.windowLow[r] ≤ raw && raw ≤ t.windowHigh[r]

/-- R106: the angle of a valid sample. -/
def SteeringSettings.angleOf (t : SteeringSettings) (r : Fin 8) (raw : Nat) : Int :=
  roundHalfAway ((raw - t.feedbackMid[r]) * 100) t.countsPer10[r]

/-- R106: the sample of a control period is taken. An invalid one leaves the angle. -/
def Rudder.sampled (t : SteeringSettings) (r : Fin 8) (raw : Nat) (x : Rudder) : Rudder :=
  if t.validSample r raw then { x with raw := raw, sampleValid := true, angle := t.angleOf r raw }
  else { x with raw := raw, sampleValid := false }

/-- R108: the valve the follow-up drives. -/
def Rudder.wantedValve (t : SteeringSettings) (x : Rudder) : Valve :=
  if t.deadband < x.target - x.angle then .starboard
  else if x.target - x.angle < -t.deadband then .port
  else .none

/-- R109: the progress since the stall reference, in the direction of the valve `v`. -/
def Rudder.progress (x : Rudder) (v : Valve) : Int :=
  let ref := x.stallRef.getD x.angle
  if v == .starboard then x.angle - ref else ref - x.angle

/-- R108, R109: the follow-up and the stall test of an OK rudder. -/
def Rudder.followUp (t : SteeringSettings) (x : Rudder) : Rudder :=
  let v := x.wantedValve t
  if v = .none then { x with valve := .none, stallRef := none, stallCount := 0 }
  else if v ≠ x.valve then { x with valve := v, stallRef := some x.angle, stallCount := 0 }
  else if t.stallMovement ≤ x.progress v then { x with stallRef := some x.angle, stallCount := 0 }
  else if t.stallTimeMs ≤ (x.stallCount + 1 : Int) * 100 then
    { x with state := .stalled, valve := .none, stallRef := none, stallCount := x.stallCount + 1 }
  else { x with stallCount := x.stallCount + 1 }

/-- R110: the feedback of an OK or STALLED rudder is lost. -/
def Rudder.loseFeedback (x : Rudder) : Rudder :=
  { x with state := .feedbackLost, valve := .none, stallRef := none }

/-- R106, R109, R110: one present rudder in a control period: sample, feedback test, follow-up and stall test. -/
def rudderPeriod (r : Fin 8) (raw : Nat) (s : State) : State :=
  if s.settings.rudderPresent r then
    let s := s.onRudder r (Rudder.sampled s.settings.steering r raw)
    let x := s.steer.rudders[r]
    if !x.sampleValid && x.state != .feedbackLost then
      report .rudderFeedbackLost (.rudder (r.val + 1)) (unsigned 2 raw) (s.onRudder r Rudder.loseFeedback)
    else if x.state == .ok then
      let s := s.onRudder r (Rudder.followUp s.settings.steering)
      if s.steer.rudders[r].state == .stalled then
        report .rudderStalled (.rudder (r.val + 1)) (signed 2 x.target ++ signed 2 x.angle) s
      else s
    else s
  else s

/-- R106: the states of the eight rudders. -/
def State.rudderStates (s : State) : List RudderState := s.steer.rudders.toList.map (·.state)

/-- R106: a steering control period: the eight channels in order (DESIGN CHOICE, log entry 50), then one degraded test when a state
changed. -/
def steeringControlPeriod (samples : Vector Nat 8) (s : State) : State :=
  let t := forAll allRudders (fun r s => rudderPeriod r samples[r] s) s
  if t.rudderStates = s.rudderStates then t else degradedTest t

def execSteeringControlPeriod (samples : Vector Nat 8) (s : State) : Host.Outcome State Fault Refusal :=
  whenUp s (steeringControlPeriod samples)

/-! ### The Bow Unit List -/

/-- R117: the highest row that holds an IN_TOW barge. -/
def State.headRow (s : State) : Option Nat :=
  s.sup.barges.foldl (fun m b => if b.state == .inTow then some (max (m.getD 0) b.pos.row) else m) none

/-- The barge record of a position (R3). -/
def State.barge? (s : State) (p : Pos) : Option Barge := s.sup.barges.find? (·.pos == p)

/-- R117: the five conditions of availability, in order. -/
def State.bowConditions (s : State) (u : BowUnit) : List Bool :=
  [(s.barge? u.pos).any (·.state == .inTow), (s.barge? u.pos).any (·.held), s.headRow == some u.pos.row,
    u.nodeState == some .active && u.nodeKind == some .bow, u.running == some true]

/-- R120: AVAILABLE or the first condition of R117 that fails, numbered from 1 as R120 lists them (R196): AVAILABLE 1, the conditions 2 to
6. -/
def State.bowFailing (s : State) (u : BowUnit) : Nat :=
  match (s.bowConditions u).findIdx? (!·) with
  | some i => i + 2
  | none => 1

/-- R117. -/
def State.bowAvailable (s : State) (u : BowUnit) : Bool := (s.bowConditions u).all id

/-- R118: the demand for the serial of a bow poll. -/
def State.bowDemandFor (s : State) (serial : Nat) : Int :=
  match s.steer.bows.find? (·.serial == serial) with
  | some u => if s.bowAvailable u && s.bowsUsed then s.steer.bowDemand else 0
  | none => 0

/-- Update the entries of a serial. -/
def State.onBow (s : State) (serial : Nat) (f : BowUnit → BowUnit) : State :=
  s.onSteer fun t => { t with bows := t.bows.map fun u => if u.serial = serial then f u else u }

/-- R115, R118: the demand put in a poll is the entry's commanded thrust. -/
def storeBowDemand (serial : Nat) (demand : Int) (s : State) : State :=
  s.onBow serial fun u => { u with commanded := demand }

/-- R116: a node-state notice. No state is the removal of the record. Outside ACTIVE the flags become unknown. -/
def bowNotice (serial : Nat) (kind : Option NodeKind) (state : Option NodeState) (s : State) : State :=
  s.onBow serial fun u =>
    if state = some .active then { u with nodeState := state, nodeKind := kind }
    else { u with nodeState := state, nodeKind := kind, running := none, fault := none, actual := none }

/-- R116: a good reply of a bow unit. No actual thrust is handed on without the FEEDBACK ability (R48). -/
def bowReply (serial : Nat) (actual : Option Int) (running fault : Bool) (s : State) : State :=
  s.onBow serial fun u => { u with running := some running, fault := some fault, actual := actual }

/-- R4, R115: positions are ordered by column, then by row. -/
def Pos.before (p q : Pos) : Bool := p.col < q.col || (p.col == q.col && p.row < q.row)

/-- R115: a new entry, with the node state and kind it takes from the Node Table. -/
def BowUnit.new (pos : Pos) (serial : Nat) (n : Option Node) : BowUnit :=
  ⟨pos, serial, n.map (·.state), n.map (·.kind), none, none, none, 0⟩

/-- R115: the entry is put in position order. -/
def insertBow (u : BowUnit) : List BowUnit → List BowUnit
  | [] => [u]
  | v :: vs => if Pos.before v.pos u.pos then v :: insertBow u vs else u :: v :: vs

/-- R115: an entry is added. -/
def addBow (u : BowUnit) (s : State) : State := s.onSteer fun t => { t with bows := insertBow u t.bows }

/-- R115: the entry of a removed barge is taken out. -/
def dropBow (p : Pos) (s : State) : State :=
  s.onSteer fun t => { t with bows := t.bows.filter (fun u => u.pos != p) }

/-! ### Requests -/

/-- R111: a faulted rudder returns to OK when its last sample was valid. -/
def rudderReturns (r : Fin 8) (s : State) : State :=
  let x := s.steer.rudders[r]
  if s.settings.rudderPresent r && x.state != .ok && x.sampleValid then
    s.onRudder r fun x => { x with state := .ok, stallRef := none, stallCount := 0 }
  else s

/-- The state byte of a rudder channel, 0 for an absent one (R104, R105). -/
def State.rudderStateByte (s : State) (r : Fin 8) : List Byte :=
  unsigned 1 (if s.settings.rudderPresent r then s.steer.rudders[r].state.code else 0)

/-- R198: the steering mode of a number. -/
def steerModeOf : Nat → Option SteerMode
  | 1 => some .rudder
  | 2 => some .rudderDiff
  | 3 => some .full
  | _ => none

/-- R104: SET_STEER_MODE. -/
def setSteerMode (m : Nat) (s : State) : State × Answer :=
  match steerModeOf m with
  | none => refuse s .badValue
  | some mode =>
      let s := s.onSteer fun t => { t with mode := mode }
      let s := steeringRecompute (degradedTest (forAll allRudders rudderReturns s))
      (s, accept (unsigned 1 s.steer.mode.code ++ yesNo s.steer.degraded ++ signed 2 s.steer.trim ++
        signed 2 s.steer.bowDemand ++ allRudders.flatMap s.rudderStateByte))

def execSetSteerMode (m : Nat) (s : State) : Host.Outcome State Fault Refusal := answerRequest s (setSteerMode m)

/-- R120: a rudder channel in READ_STEERING: zeros beside absent. -/
def State.rudderBytes (s : State) (r : Fin 8) : List Byte :=
  let x := s.steer.rudders[r]
  if s.settings.rudderPresent r then
    yesNo true ++ unsigned 1 x.state.code ++ unsigned 2 x.raw ++ signed 2 x.angle ++ signed 2 x.target ++
      unsigned 1 x.valve.code ++ unsigned 2 x.stallCount
  else yesNo false ++ List.replicate 10 0

/-- R119: the actual thrust reported, with its mark: MEASURED 1, COMMANDED 2. With unknown flags it is 0, marked COMMANDED. -/
def BowUnit.actualBytes (u : BowUnit) : List Byte :=
  match u.running, u.actual with
  | none, _ => signed 2 0 ++ unsigned 1 2
  | some _, some a => signed 2 a ++ unsigned 1 1
  | some _, none => signed 2 u.commanded ++ unsigned 1 2

/-- R115: the node state of an entry, a node state or ABSENT, numbered from 1 as R115 lists them (R196): R39's seven, then ABSENT 8. -/
def bowNodeCode : Option NodeState → Nat
  | none => 8
  | some st => nodeStateCode (some st)

/-- R120: an entry of the Bow Unit List in READ_STEERING. The running and fault flags, which may be unknown (R115), are each an
optional yes/no (DESIGN CHOICE, log entry 11). -/
def State.bowBytes (s : State) (u : BowUnit) : List Byte :=
  Pos.byte u.pos ++ unsigned 4 u.serial ++ unsigned 1 (bowNodeCode u.nodeState) ++ unsigned 1 (s.bowFailing u) ++
    optional 1 yesNo u.running ++ optional 1 yesNo u.fault ++ signed 2 u.commanded ++ u.actualBytes

/-- R120: READ_STEERING changes nothing. -/
def readSteering (s : State) : State × Answer :=
  (s, accept (unsigned 1 s.prop.source.code ++ signed 2 s.steer.helm ++ unsigned 1 s.steer.mode.code ++
    unsigned 1 s.dir.code ++ yesNo s.steer.degraded ++ signed 2 s.gain ++ signed 2 s.steer.trim ++
    signed 2 s.steer.bowDemand ++ allRudders.flatMap s.rudderBytes ++ counted s.bowBytes s.steer.bows))

def execReadSteering (s : State) : Host.Outcome State Fault Refusal := answerRequest s readSteering

end Sys2Proof.Machine
end

