-- ==== Sys2Proof/Machine/Demand.lean ====
section
/-! DEFINITION. The effective lever and the direction D (R66, R67), the CAPS and COMMAND_SOURCE reports (R22, R65, R134), and the
silence timing (R62 to R64): what the other blocks hand to the Propulsion Controller. -/

namespace Sys2Proof.Machine

/-- R66: Le from L, Ccap, Fcap and the astern limit A. -/
def leOf (l ccap fcap a : Int) : Int :=
  let m := min (l.natAbs : Int) (min ccap fcap)
  if l < 0 then -(min m a) else m

/-- R66: the effective lever that the inputs give as they stand. -/
def State.leNow (s : State) : Int :=
  leOf s.prop.sourceLever s.sup.ccap s.fuel.fcap s.settings.engine.asternLimit

/-- R74: every sync trim becomes 0. -/
def clearTrims (s : State) : State := { s with chans := mapVec (fun c => { c with trim := 0 }) s.chans }

/-- R67: a change of D: the sync trims become 0, steering recomputes, and the channels act in engine order. -/
def directionChanged (s : State) : State := forAll allEngines channelOnDirection (steeringRecompute (clearTrims s))

/-- R66, R67: Le is recomputed. A new |Le| is handed to the Order Table, which re-tests before the command ends (log entry 8). -/
def recomputeLe (s : State) : State :=
  if s.leNow = s.prop.le then s
  else
    let t := (s.onProp fun p => { p with le := s.leNow }).onSettling fun x => { x with retest := true }
    if t.dir = s.dir then t else directionChanged t

/-- R22, R134: a CHANGE report with subject CAPS, carrying both caps (log entry 10). -/
def capsReport (s : State) : State :=
  report .change .caps (unsigned 2 s.sup.ccap.toNat ++ unsigned 2 s.fuel.fcap.toNat) s

/-- R65: a CHANGE report with subject COMMAND_SOURCE. -/
def sourceReport (s : State) : State :=
  report .change .commandSource
    (unsigned 1 s.prop.source.code ++ unsigned 1 s.prop.phase.code ++ yesNo s.prop.latch) s

/-- R62: the bridge-silence timer starts afresh. -/
def restartSilence (s : State) : State :=
  s.onProp fun p => { p with silenceTimer := seconds s.settings.backup.silenceLimitS }

/-- R64: a HOLD or ZEROED phase ends; the hold timer stops; a report shows the clearing. -/
def endSilence (s : State) : State :=
  if s.prop.phase = .normal then s
  else sourceReport (s.onProp fun p => { p with phase := .normal, holdTimer := none })

/-- R60: the zero-latch clears at a delivered lever of 0, with a report. -/
def clearLatch (lever : Int) (s : State) : State :=
  if s.prop.latch && lever == 0 then sourceReport (s.onProp fun p => { p with latch := false }) else s

end Sys2Proof.Machine
end

