-- ==== Sys2Proof/Machine/Tanks.lean ====
section
/-! DEFINITION. The tank books (R130 to R134): the book rule, adjustments, the tank tests, the TANK report, and the reserve cap. -/

namespace Sys2Proof.Machine

/-- R130: the live order that names a tank, by the tank's number. -/
def State.tankOrder (s : State) (k : Fin 8) : Option Order :=
  (s.liveOrders.find? fun (_, o) => o.work.tanks.contains (k.val + 1)).map (·.2)

/-- R133: a CHANGE report with subject TANK: book, low and overfull marks, and the live order with its tag and state. -/
def tankReport (k : Fin 8) (s : State) : State :=
  let t := s.fuel.tanks[k]
  report .change (.tank (k.val + 1))
    (signed 8 t.book ++ yesNo t.low ++ yesNo t.overfull ++
      optional 3 (fun o => unsigned 2 o.tag ++ unsigned 1 o.state.code) (s.tankOrder k)) s

/-- The TANK report of a tank named by its number (R135, R137, R139, R140). -/
def tankReportOf (n : Nat) (s : State) : State :=
  match index? n 1 8 with
  | some k => tankReport k s
  | none => s

/-- R131, R132: an amount is booked to the account's adjustments and to the open leg's. -/
def addAdjustment (x : Int) (s : State) : State :=
  (s.onFuel fun f => { f with adjustments := fit64 (f.adjustments + x) }).onLeg fun l =>
    { l with adjustments := fit64 (l.adjustments + x) }

/-- R131: the book rule: `x` is taken from a book; a shortfall is booked as an adjustment. -/
def takeFromBook (k : Fin 8) (x : Int) (s : State) : State :=
  let b := s.fuel.tanks[k].book
  if x ≤ b then s.onTank k fun t => { t with book := fitNat64 (b - x) }
  else addAdjustment (x - b) (s.onTank k fun t => { t with book := 0 })

/-- R133: the low-level test of a tank. -/
def lowTest (k : Fin 8) (s : State) : State :=
  let t := s.fuel.tanks[k]
  let low := s.settings.fuel.lowLevelL[k]
  if t.book < litres low then
    if t.low then s
    else tankReport k (report .tankLow (.tank (k.val + 1)) (signed 8 t.book ++ unsigned 4 low.toNat)
      (s.onTank k fun t => { t with low := true }))
  else if t.low then tankReport k (s.onTank k fun t => { t with low := false })
  else s

/-- R133: the overfull test of a tank. -/
def overfullTest (k : Fin 8) (s : State) : State :=
  let t := s.fuel.tanks[k]
  let cap := s.settings.fuel.capacityL[k]
  if litres cap < t.book then
    if t.overfull then s
    else tankReport k (report .tankOverfull (.tank (k.val + 1)) (signed 8 t.book ++ unsigned 4 cap.toNat)
      (s.onTank k fun t => { t with overfull := true }))
  else if t.overfull then tankReport k (s.onTank k fun t => { t with overfull := false })
  else s

/-- R133: the tank tests of one tank, made for a present tank alone. -/
def tankTests (k : Fin 8) (s : State) : State :=
  if s.settings.tankPresent k then overfullTest k (lowTest k s) else s

/-- R134: the sum of the books of all present tanks. -/
def State.bookSum (s : State) : Int :=
  (allTanks.map fun k => if s.settings.tankPresent k then s.fuel.tanks[k].book else 0).sum

/-- R134: the sum stands below the voyage reserve. -/
def State.belowReserve (s : State) : Bool := s.bookSum < litres s.settings.fuel.voyageReserveL

/-- R134: the reserve cap that the books give. -/
def State.fcapNow (s : State) : Int := if s.belowReserve then s.settings.fuel.reserveCap else 1000

/-- R134: the RESERVE mark follows the sum; setting it raises the alarm. -/
def reserveTest (s : State) : State :=
  if s.belowReserve && !s.fuel.reserveMark then
    report .reserve .nothing (signed 8 s.bookSum ++ unsigned 4 s.settings.fuel.voyageReserveL.toNat)
      (s.onFuel fun f => { f with reserveMark := true })
  else s.onFuel fun f => { f with reserveMark := s.belowReserve }

/-- R134: Fcap is recomputed. A change is handed on; a change, and a clearing of RESERVE, queue a CAPS report,
and the RESERVE test follows it (DESIGN CHOICE, log entry 53). -/
def fcapRecompute (s : State) : State :=
  let t := if s.fcapNow = s.fuel.fcap then s else recomputeLe (s.onFuel fun f => { f with fcap := s.fcapNow })
  let t := if s.fcapNow ≠ s.fuel.fcap ∨ (s.fuel.reserveMark && !s.belowReserve) then capsReport t else t
  reserveTest t

/-- R132, R144: a book is set, and the difference is booked as an adjustment. -/
def soundTo (k : Fin 8) (book : Int) (s : State) : State :=
  addAdjustment (book - s.fuel.tanks[k].book) (s.onTank k fun t => { t with book := book })

end Sys2Proof.Machine
end

