-- ==== Sys2Proof/Machine/Checkpoint.lean ====
section
/-! DEFINITION. The checkpoint record and its writes (R189, R190). -/

namespace Sys2Proof.Machine

/-- R189: a barge record as the checkpoint holds it. -/
def Barge.saved (b : Barge) : SavedBarge := ⟨b.pos, b.hull, b.light, b.cargo, b.bow, b.state⟩

/-- R189: a coupling record as the checkpoint holds it. -/
def Coupling.saved (c : Coupling) : SavedCoupling :=
  ⟨c.number, c.endA, c.endB, c.serial, c.channel, c.winchAtB, c.cls, c.tension⟩

/-- R189: the book of a tank, where the tank is present. -/
def State.bookOf (s : State) (k : Fin 8) : Option Int :=
  if s.settings.tankPresent k then some s.fuel.tanks[k].book else none

/-- R189: the snapshot of the figures as they stand. -/
def State.snapshotRecord (s : State) : Record where
  books := #v[s.bookOf 0, s.bookOf 1, s.bookOf 2, s.bookOf 3, s.bookOf 4, s.bookOf 5, s.bookOf 6, s.bookOf 7]
  consumption := s.fuel.consumption
  bunkered := s.fuel.bunkered
  adjustments := s.fuel.adjustments
  remainders := mapVec (·.remainder) s.fuel.meters
  legs := s.legs
  barges := s.sup.barges.map Barge.saved
  couplings := s.sup.couplings.map Coupling.saved

/-- R190: a write starts: the snapshot is taken. -/
def startWrite (s : State) : State := s.onCkpt fun c => { c with writing := some s.snapshotRecord }

/-- R192: the final write of a RESTART has completed, and its reply is being sent. No write starts any more. -/
def State.finalRecordStands (s : State) : Bool := s.ctl.restart == .sendingReply

/-- R190: the write a command asked for starts in IDLE, and sets the due mark in WRITING (log entry 9). After the final write of a
RESTART it only sets the due mark, so that the final record stands (R192, log entry 18). -/
def writeAsked (s : State) : State :=
  if s.settling.checkpoint then
    let t := s.onSettling fun x => { x with checkpoint := false }
    if s.ckpt.writing.isNone && !s.finalRecordStands then startWrite t else t.onCkpt fun c => { c with due := true }
  else s

end Sys2Proof.Machine
end

