-- ==== Sys2Proof/Machine/VoyageLegs.lean ====
section
/-! DEFINITION. The open leg, the Leg Log, the voyage clock, and the commands that act on them (R146 to R156). -/

namespace Sys2Proof.Machine

/-- R146: the total consumption of a leg. -/
def Leg.total (l : Leg) : Int := l.net[0] + l.net[1] + l.net[2] + l.net[3]

/-- R149: the fuel rate, held at the largest 32-bit figure; none when TMM is below 1,000,000 or the consumption not positive. -/
def fuelRate (total tmm : Int) : Option Nat :=
  if tmm < 1000000 ∨ total ≤ 0 then none
  else some (min 4294967295 (roundHalfUp (total * 1000000) tmm).toNat)

/-- R148, step 1: the open leg as a closed leg. -/
def Leg.close (l : Leg) (stamp : Stamp) (cause : CloseCause) : ClosedLeg :=
  ⟨{ l with pendingClose := false }, stamp, cause, fuelRate l.total l.tmm⟩

/-- R148, R200: the LEG_CLOSED report. -/
def legClosedReport (c : ClosedLeg) (s : State) : State :=
  report .legClosed (.leg c.leg.number)
    (unsigned 1 c.cause.code ++ signed 8 c.leg.total ++ signed 8 c.leg.tmm ++ optional 4 (unsigned 4) c.rate) s

/-- R148: the open leg closes, a new one opens, the report is queued and a checkpoint write asked for. -/
def closeLeg (cause : CloseCause) (s : State) : State :=
  let c := s.legs.current.close s.clock cause
  askCheckpoint (legClosedReport c (s.onLegs fun l =>
    ⟨.opened (l.current.number + 1) s.clock s.sup.tonnage, l.log ++ [c]⟩))

/-- R148: a leg of the largest number cannot be followed, and is not closed. -/
def State.lastLeg (s : State) : Bool := s.legs.current.number == Config.maxLegNumber

/-- R150: the number of the oldest closed leg, 0 when the log is empty. -/
def State.oldestLeg (s : State) : Nat :=
  match s.legs.log with
  | [] => 0
  | c :: _ => c.leg.number

/-- R152: the makeup-change event. -/
def makeupEvent (s : State) : State :=
  if s.legs.current.pendingClose then s
  else if s.lastLeg then s.onLeg fun l => { l with mixed := true }
  else if s.legs.log.length < Config.maxLegs then closeLeg .makeup s
  else
    report .legLogFull (.leg s.legs.current.number) (unsigned 4 s.oldestLeg)
      (s.onLeg fun l => { l with mixed := true, pendingClose := true })

/-! ### Requests -/

/-- R151: CLOSE_LEG. -/
def closeLegRequest (n : Nat) (s : State) : State × Answer :=
  if n ≠ s.legs.current.number then refuse s .badValue
  else if Config.maxLegs ≤ s.legs.log.length ∨ s.lastLeg then refuse s .notNow
  else
    let t := closeLeg .host s
    (writeAsked t, accept (unsigned 4 n ++ unsigned 4 t.legs.current.number))

def execCloseLeg (n : Nat) (s : State) : Host.Outcome State Fault Refusal := answerRequest s (closeLegRequest n)

/-- R153: RELEASE_LEG. A pending close follows at once; the reply then carries the two numbers, and zeros in
their place where none followed: the yes/no before them is their presence byte (DESIGN CHOICE, log entry 11). -/
def releaseLeg (n : Nat) (s : State) : State × Answer :=
  match s.legs.log with
  | [] => refuse s .noSuch
  | c :: rest =>
      if n ≠ c.leg.number then refuse s .badValue
      else
        let s := s.onLegs fun l => { l with log := rest }
        if s.legs.current.pendingClose && !s.lastLeg then
          let t := closeLeg .makeupDeferred s
          (writeAsked t, accept (unsigned 4 n ++ yesNo true ++ unsigned 4 s.legs.current.number ++
            unsigned 4 t.legs.current.number))
        else (s, accept (unsigned 4 n ++ yesNo false ++ List.replicate 8 0))

def execReleaseLeg (n : Nat) (s : State) : Host.Outcome State Fault Refusal := answerRequest s (releaseLeg n)

/-- R202: the bytes of a leg that the open leg and a closed leg share, from the open stamp to the adjustments. -/
def Leg.bytes (l : Leg) : List Byte :=
  l.openStamp.bytes ++ unsigned 4 l.tonnage.toNat ++ signed 8 l.distance ++ signed 8 l.tmm ++
    l.net.toList.flatMap (signed 8) ++ l.running.toList.flatMap (unsigned 4) ++ signed 8 l.total ++
    signed 8 l.bunkered ++ signed 8 l.adjustments

/-- R202: the flags byte of a leg record. -/
def legFlags (closed mixed pending rate : Bool) : List Byte :=
  unsigned 1 (closed.toNat + 2 * mixed.toNat + 4 * pending.toNat + 8 * rate.toNat)

/-- R202: the last bytes of a leg record. -/
def State.logBytes (s : State) : List Byte :=
  unsigned 1 s.legs.log.length ++ unsigned 4 s.oldestLeg ++ unsigned 4 s.legs.current.number

/-- R154, R202: the open leg as read, with its provisional rate. -/
def State.openLegBytes (s : State) : List Byte :=
  let l := s.legs.current
  let rate := fuelRate l.total l.tmm
  unsigned 4 l.number ++ legFlags false l.mixed l.pendingClose rate.isSome ++ l.bytes ++ List.replicate 6 0 ++
    unsigned 4 s.sup.tonnage.toNat ++ unsigned 4 (rate.getD 0) ++ s.logBytes

/-- R154, R202: a closed leg as read. -/
def State.closedLegBytes (s : State) (c : ClosedLeg) : List Byte :=
  unsigned 4 c.leg.number ++ legFlags true c.leg.mixed false c.rate.isSome ++ c.leg.bytes ++ c.closeStamp.bytes ++
    unsigned 1 c.cause.code ++ unsigned 4 0 ++ unsigned 4 (c.rate.getD 0) ++ s.logBytes

/-- R154: READ_LEG. Number 0 names the open leg. -/
def readLeg (n : Nat) (s : State) : State × Answer :=
  if n = 0 ∨ n = s.legs.current.number then (s, accept s.openLegBytes)
  else
    match s.legs.log.find? (·.leg.number == n) with
    | some c => (s, accept (s.closedLegBytes c))
    | none => refuse s .noSuch

def execReadLeg (n : Nat) (s : State) : Host.Outcome State Fault Refusal := answerRequest s (readLeg n)

/-! ### The speed log and the voyage clock -/

/-- R147: a log pulse adds to the distance and, by the tonnage as it stands, to TMM. -/
def logPulse (s : State) : State :=
  let d := s.settings.fuel.logDistanceMm
  s.onLeg fun l => { l with distance := fitNat64 (l.distance + d), tmm := fitNat64 (l.tmm + s.sup.tonnage * d) }

def execLogPulse (s : State) : Host.Outcome State Fault Refusal := whenUp s logPulse

/-- R155: SET_VOYAGE_CLOCK. The reply carries the clock as it stood before. -/
def setVoyageClock (v : Nat) (s : State) : State × Answer :=
  ({ s with clock := ⟨v, true⟩ }, accept s.clock.bytes)

def execSetVoyageClock (v : Nat) (s : State) : Host.Outcome State Fault Refusal := answerRequest s (setVoyageClock v)

/-- R155, R191: the clock rises by one each second, also through a start, and stays at its largest value. -/
def voyageClockTick (s : State) : State :=
  { s with clock := ⟨if s.clock.seconds < Config.maxClock then s.clock.seconds + 1 else s.clock.seconds, s.clock.isSet⟩ }

def execVoyageClockTick (s : State) : Host.Outcome State Fault Refusal := .next (voyageClockTick s)

end Sys2Proof.Machine
end

