-- ==== Sys2Proof/Machine/OrderTable.lean ====
section
/-! DEFINITION. How an order starts, runs and completes (R157 to R168), and what it does to its coupling (R18, R23 to R29): the
operations. The requests stand in Machine/Orders.lean. -/

namespace Sys2Proof.Machine

/-! ### Couplings and winch nodes -/

/-- R7: the coupling record of a number. -/
def State.coupling? (s : State) (n : Nat) : Option Coupling := s.sup.couplings.find? (·.number == n)

/-- Update the coupling of a number. -/
def State.onCoupling (s : State) (n : Nat) (f : Coupling → Coupling) : State :=
  s.onSup fun u => { u with couplings := u.couplings.map fun c => if c.number = n then f c else c }

/-- R39: the node record of a serial. -/
def State.node? (s : State) (serial : Nat) : Option Node := s.line.nodes.find? (·.serial == serial)

/-- R7: a face coupling has its winch on the pushboat. -/
def Coupling.isFace (c : Coupling) : Bool := c.endA == .pushboat && !c.winchAtB

/-- An end of the coupling lies at a position. -/
def Coupling.endsAt (c : Coupling) (p : Pos) : Bool := c.endA == .barge p || c.endB == p

/-- The barge at a position is IN_TOW. -/
def State.inTowAt (s : State) (p : Pos) : Bool := (s.barge? p).any (·.state == .inTow)

/-- R18, R22: an IN_TOW barge lies at either end. -/
def State.touchesTow (s : State) (c : Coupling) : Bool :=
  s.inTowAt c.endB || (match c.endA with | .pushboat => false | .barge p => s.inTowAt p)

/-- R18: a CHANGE report with subject COUPLING, carrying the state, 0 for a withdrawn one (log entry 10). -/
def couplingReport (n : Nat) (s : State) : State :=
  report .change (.coupling n) (unsigned 1 (((s.coupling? n).map (·.state.code)).getD 0)) s

/-- R18: the alarm that entering a state raises. A face coupling that becomes LOST raises COUPLING_LOST also with no IN_TOW barge at
its end (DEDUCED, log entry 36). -/
def couplingAlarm (c : Coupling) (st : CouplingState) (s : State) : State :=
  if st = .overload then report .couplingOverload (.coupling c.number) [] s
  else if st = .lost ∧ (s.touchesTow c || c.isFace) then report .couplingLost (.coupling c.number) [] s
  else s

/-- R18: a coupling takes a state. At a change the flag is set, the report queued, an alarm may be raised, and the holding
analysis is due. -/
def setCouplingState (n : Nat) (st : CouplingState) (s : State) : State :=
  match s.coupling? n with
  | none => s
  | some c =>
      if c.state = st then s
      else
        (couplingAlarm c st (couplingReport n (s.onCoupling n fun c => { c with state := st, changed := true }))).onSettling
          fun x => { x with analysis := true }

/-- R23: set a channel command. -/
def setCommand (n : Nat) (cmd : WinchCmd) (s : State) : State := s.onCoupling n fun c => { c with command := cmd }

/-- R23, R158: no poll carries the coupling's channel: the record is of kind BOW, or lacks DUAL for channel 2. -/
def Node.cannotReach (d : Node) (c : Coupling) : Bool := d.kind == .bow || (!d.abilities.dual && c.channel == 2)

/-- R23: the command of a coupling whose order leaves ACTIVE. -/
def State.leaveCommand (s : State) (c : Coupling) : WinchCmd :=
  if (s.node? c.serial).any (·.cannotReach c) then .none else .stop

/-- R23: the order on a coupling leaves ACTIVE. -/
def commandLeaves (n : Nat) (s : State) : State :=
  match s.coupling? n with
  | some c => setCommand n (s.leaveCommand c) s
  | none => s

/-! ### Slots -/

/-- Put an order, or none, in a slot. -/
def State.setSlot (s : State) (i : Fin 16) (o : Option Order) : State :=
  s.onOrders fun t => { t with slots := t.slots.set i o }

/-- R157: the live order that names a coupling. -/
def State.orderOn (s : State) (n : Nat) : Option (Fin 16 × Order) :=
  s.liveOrders.find? fun (_, o) => o.work.coupling? == some n

/-- R157: the live order that holds a tag. -/
def State.orderTagged (s : State) (tag : Nat) : Option (Fin 16 × Order) :=
  s.liveOrders.find? fun (_, o) => o.tag == tag

/-- R160: the places of an arbiter. -/
def Resource.places : Resource → Nat
  | .facePool => 2
  | .pump => 1
  | .bunkerMeter => 1

/-- R160: the slots that hold an arbiter's places. -/
def State.placeHolders (s : State) (r : Resource) : List (Fin 16) :=
  (s.liveOrders.filter fun (_, o) => o.resource == some r && o.working).map (·.1)

/-- R160: how many places of an arbiter are free. -/
def State.freePlaces (s : State) (r : Resource) : Nat := r.places - (s.placeHolders r).length

/-- R161: the slot an arbiter last started. -/
def Orders.last (t : Orders) : Resource → Option (Fin 16)
  | .facePool => t.lastFace
  | .pump => t.lastPump
  | .bunkerMeter => t.lastBunker

/-- R161: record the slot an arbiter last started. -/
def Orders.setLast (t : Orders) (i : Fin 16) : Option Resource → Orders
  | none => t
  | some .facePool => { t with lastFace := some i }
  | some .pump => { t with lastPump := some i }
  | some .bunkerMeter => { t with lastBunker := some i }

/-- R162: the thrust condition of a RELEASE. -/
def State.thrustOk (s : State) : Bool := s.absLe ≤ s.settings.coupling.releaseLimit

/-! ### Starting -/

/-- R24: a HAUL goes ACTIVE on its coupling. -/
def startHaul (n : Nat) (s : State) : State := setCouplingState n .hauling (setCommand n .haul s)

/-- R27: a RELEASE goes ACTIVE on its coupling. -/
def startRelease (n : Nat) (s : State) : State := setCouplingState n .releasing (setCommand n .release s)

/-- R24, R27: the timer an order starts with. -/
def State.workTimer (s : State) : Work → Timer
  | .haul _ => seconds s.settings.coupling.haulTimeoutS
  | .release _ _ _ => seconds s.settings.coupling.releaseTimeoutS
  | .transfer _ => none
  | .bunker _ => none

/-- R164, step 3: the executing block takes the order. The TANK reports of a TRANSFER: the source's, then the destination's (R135; DESIGN
CHOICE, log entry 54). -/
def handToBlock (w : Work) (s : State) : State :=
  match w with
  | .haul c => startHaul c s
  | .release c _ _ => startRelease c s
  | .transfer t => tankReportOf t.dest (tankReportOf t.source s)
  | .bunker b => tankReportOf b.dest s

/-- R164: an order goes ACTIVE. -/
def startOrder (i : Fin 16) (s : State) : State :=
  match s.orders.slots[i] with
  | none => s
  | some o =>
      let s := s.setSlot i (some { o with state := .active, waitTimer := none, workTimer := s.workTimer o.work })
      handToBlock o.work (s.onOrders fun t => t.setLast i o.resource)

/-- R161: the slots in the order of a grant scan. -/
def scanOrder (last : Option (Fin 16)) : List (Fin 16) :=
  match last with
  | none => allSlots
  | some l => allSlots.drop (l.val + 1) ++ allSlots.take (l.val + 1)

/-- R161: a slot qualifies in the grant scan of an arbiter. -/
def State.qualifies (s : State) (r : Resource) (i : Fin 16) : Bool :=
  s.orders.slots[i].any fun o => o.state == .queued && o.resource == some r && (!o.work.isRelease || s.thrustOk)

/-- R161: the grant scan of an arbiter, made for a free place. -/
def grantScan (r : Resource) (s : State) : State :=
  if s.freePlaces r = 0 then s
  else
    match (scanOrder (s.orders.last r)).find? (s.qualifies r) with
    | some i => startOrder i s
    | none => s

/-! ### Completing -/

/-- R167: what an executing block hands the Order Table. -/
structure Completion where
  result : OrderResult
  tension : Option Nat
  castOff : Nat
  volume : Int
deriving DecidableEq, Repr

/-- R200: the target of an order, 2 bytes. -/
def Work.target : Work → List Byte
  | .haul c => unsigned 1 c ++ unsigned 1 0
  | .release c _ _ => unsigned 1 c ++ unsigned 1 0
  | .transfer t => unsigned 1 t.source ++ unsigned 1 t.dest
  | .bunker b => unsigned 1 b.dest ++ unsigned 1 0

/-- R167, R200: the ORDER_DONE report, 16 bytes. -/
def orderDoneReport (o : Order) (c : Completion) (s : State) : State :=
  report .orderDone (.tag o.tag)
    (unsigned 1 o.work.code ++ unsigned 1 c.result.code ++ o.work.target ++ optional 2 (unsigned 2) c.tension ++
      unsigned 1 c.castOff ++ signed 8 c.volume) s

/-- R167: an order completes: its slot is freed, ORDER_DONE queued, and the arbiter of a place it held scans. A tank it named has
its report after that (R133; DESIGN CHOICE, log entry 42), the source's first (log entry 54). -/
def completeOrder (i : Fin 16) (c : Completion) (s : State) : State :=
  match s.orders.slots[i] with
  | none => s
  | some o =>
      let s := orderDoneReport o c (s.setSlot i none)
      let s := match o.resource with
        | some r => if o.working then grantScan r s else s
        | none => s
      o.work.tanks.foldl (fun s n => tankReportOf n s) s

/-- R167: a completion of a HAUL or RELEASE with no barge cast off. -/
def Completion.ofWire (r : OrderResult) (tension : Option Nat) : Completion := ⟨r, tension, 0, 0⟩

/-- R24, R25, R28, R165: an ACTIVE HAUL or RELEASE ends: its command leaves, and it completes. -/
def endActive (i : Fin 16) (n : Nat) (r : OrderResult) (tension : Option Nat) (s : State) : State :=
  completeOrder i (.ofWire r tension) (commandLeaves n s)

/-- R13: the last tension of a coupling. -/
def State.lastTension (s : State) (n : Nat) : Option Nat := (s.coupling? n).map (·.tension)

/-! ### The re-test of the thrust condition -/

/-- R162: what a re-test does to the order of a slot. -/
def retestSlot (i : Fin 16) (s : State) : State :=
  match s.orders.slots[i] with
  | none => s
  | some o =>
      if o.work.isRelease then
        match o.state with
        | .waiting =>
            if s.thrustOk then
              if o.resource = none then startOrder i s else s.setSlot i (some { o with state := .queued })
            else s
        | .queued => if s.thrustOk then s else s.setSlot i (some { o with state := .waiting })
        | .active => s
        | .aborting => s
      else s

/-- R162: the re-test of every RELEASE, in slot order (DESIGN CHOICE, log entry 41), then a grant scan of the face pool for each free
place. -/
def retestOrders (s : State) : State :=
  let s := forAll allSlots retestSlot s
  forAll (List.replicate (s.freePlaces .facePool) ()) (fun _ s => grantScan .facePool s) s

end Sys2Proof.Machine
end

