-- ==== Sys2Proof/Machine/Tow.lean ====
section
/-! DEFINITION. Holding and the tow (R19 to R22): the holding analysis, makeup changes, tonnage and class (R6), TOW_UNHELD, Ccap; and
`finish`, which settles what a command has left due before it ends (log entries 8 and 9). -/

namespace Sys2Proof.Machine

/-! ### The holding analysis -/

/-- R11: every state other than RELEASED holds. -/
def CouplingState.holding (t : CouplingState) : Bool := t != .released

/-- R19: FAST and OVERLOAD make the second chain of the analysis. -/
def CouplingState.firm (t : CouplingState) : Bool := t == .fast || t == .overload

/-- R19: a coupling joins an end to what is reached already, in either direction. -/
def reachOne (reached : List Pos) (c : Coupling) : List Pos :=
  match c.endA with
  | .pushboat => reached.insert c.endB
  | .barge p =>
      if reached.contains p then reached.insert c.endB
      else if reached.contains c.endB then reached.insert p
      else reached

/-- R19: the positions that chains of the couplings `cs` join to the pushboat, after `n` passes over them. -/
def reach (cs : List Coupling) : Nat → List Pos
  | 0 => []
  | n + 1 => cs.foldl reachOne (reach cs n)

/-- R19: the positions joined to the pushboat by couplings that satisfy `p`. A pass for each barge record reaches all. -/
def chained (p : CouplingState → Bool) (cs : List Coupling) : List Pos :=
  reach (cs.filter fun c => p c.state) Config.maxBarges

/-- R3, R20: a CHANGE report with subject BARGE, carrying the state, 0 for a removed record (log entry 10). -/
def bargeReport (p : Pos) (s : State) : State :=
  report .change (.position p) (unsigned 1 (((s.barge? p).map (·.state.code)).getD 0)) s

/-- Update the barge record of a position. -/
def State.onBarge (s : State) (p : Pos) (f : Barge → Barge) : State :=
  s.onSup fun u => { u with barges := u.barges.map fun b => if b.pos = p then f b else b }

/-- R20, R27: a barge takes a state: the flag is set and the report queued. A checkpoint write is asked for (R190). -/
def setBargeState (p : Pos) (st : BargeState) (s : State) : State :=
  askCheckpoint (bargeReport p (s.onBarge p fun b => { b with state := st, changed := true }))

/-- R20: the EXPECTED barges that a firm chain joins to the pushboat. -/
def State.toPromote (s : State) : List Pos :=
  (s.sup.barges.filter fun b => b.state == .expected && (chained CouplingState.firm s.sup.couplings).contains b.pos).map
    (·.pos)

/-- R19, R21: the IN_TOW barges that were held and that a new result finds unheld. -/
def State.newlyUnheld (s : State) (held : List Pos) : List Pos :=
  (s.sup.barges.filter fun b => b.state == .inTow && b.held && !held.contains b.pos).map (·.pos)

/-- R19: the held result is kept until the next run. -/
def keepHeld (held : List Pos) (s : State) : State :=
  s.onSup fun u => { u with barges := u.barges.map fun b => { b with held := held.contains b.pos } }

/-! ### Tonnage and the coupling cap -/

/-- R6: the sum of light displacement and cargo over the IN_TOW barges. -/
def tonnageOf (bs : List Barge) : Int :=
  ((bs.filter fun b => b.state == .inTow).map fun b => ((b.light + b.cargo : Nat) : Int)).sum

/-- R6: the tonnage class. -/
def classOf (t : CouplingSettings) (tonnage : Int) : Nat :=
  if tonnage < t.class2Threshold then 1 else if tonnage < t.class3Threshold then 2 else 3

/-- R6: the tonnage and its class are taken from the Makeup Table. -/
def takeTonnage (s : State) : State :=
  s.onSup fun u =>
    { u with
      tonnage := tonnageOf u.barges
      tonnageClass := classOf s.settings.coupling (tonnageOf u.barges) }

/-- R22: the states that bring the slack cap. -/
def CouplingState.slackens (t : CouplingState) : Bool :=
  t == .slack || t == .hauling || t == .unconfirmed || t == .lost || t == .fault || t == .releasing

/-- R21, R22: an IN_TOW barge is unheld. -/
def State.anyUnheld (s : State) : Bool := s.sup.barges.any fun b => b.state == .inTow && !b.held

/-- R22: Ccap is the smallest of the values that apply. -/
def State.ccapNow (s : State) : Int :=
  let t := s.settings.coupling
  let cap (applies : Bool) (v : Int) : Int := if applies then v else 1000
  min 1000 (min (cap (s.sup.couplings.any fun c => s.touchesTow c && c.state == .overload) t.overloadCap)
    (min (cap (s.sup.couplings.any fun c => s.touchesTow c && c.state.slackens) t.slackCap)
      (cap s.anyUnheld t.detachedCap)))

/-- R22: Ccap is recomputed. A changed value is handed on, and a CAPS report queued; so is one where `clearing` says that TOW_UNHELD
has cleared (R21). -/
def ccapRecompute (clearing : Bool) (s : State) : State :=
  let t := if s.ccapNow = s.sup.ccap then s else recomputeLe (s.onSup fun u => { u with ccap := s.ccapNow })
  if s.ccapNow ≠ s.sup.ccap ∨ clearing then capsReport t else t

/-- R20: a makeup change: tonnage and class, one makeup-change event, and a checkpoint write. -/
def makeupChange (s : State) : State := askCheckpoint (makeupEvent (takeTonnage s))

/-- R21: a TOW_UNHELD alarm. -/
def unheldAlarm (p : Pos) (s : State) : State := report .towUnheld (.position p) [] s

/-- R19 to R22: a run of the holding analysis with all that follows from it: the barges that join in position order, the makeup change,
the alarms in position order, and Ccap last (DESIGN CHOICE, log entry 45). -/
def holdingAnalysis (s : State) : State :=
  let held := chained CouplingState.holding s.sup.couplings
  let joined := s.toPromote
  let lost := s.newlyUnheld held
  let makeup := s.settling.makeup || !joined.isEmpty
  let t := (keepHeld held s).onSettling fun x => { x with analysis := false, makeup := false }
  let t := forAll joined (fun p => setBargeState p .inTow) t
  let t := if makeup then makeupChange t else t
  let t := forAll lost unheldAlarm t
  let clearing := t.sup.unheldStands && !t.anyUnheld
  ccapRecompute clearing (t.onSup fun u => { u with unheldStands := t.anyUnheld })

/-! ### The end of a command -/

/-- Log entry 8: one thing a command has left due: the holding analysis first, then the re-test of the RELEASE orders. -/
def settleOnce (s : State) : State :=
  if s.settling.analysis then holdingAnalysis s
  else if s.settling.retest then retestOrders (s.onSettling fun x => { x with retest := false })
  else s

/-- Settle `n` times. -/
def settleFor : Nat → State → State
  | 0, s => s
  | n + 1, s => settleFor n (settleOnce s)

/-- Log entry 8: settle what is due. Each round after the first two follows from an order that started, so 40 rounds are enough for
the 16 orders. -/
def settle (s : State) : State := settleFor 40 s

/-- The end of a command: what is due is settled, then the checkpoint write asked for starts or becomes due (R190). -/
def finish (s : State) : State := writeAsked (settle s)

/-- A request whose acceptance may leave something due. -/
def finishAnswer (r : State × Answer) : State × Answer := (finish r.1, r.2)

end Sys2Proof.Machine
end

