-- ==== Sys2Proof/Machine/Orders.lean ====
section
/-! DEFINITION. The commands of the Order Table (R158, R159, R163, R166, R169) and the timers of the wires (R25, R28). -/

namespace Sys2Proof.Machine

/-! ### Posting -/

/-- R158, second check: what a request's body names is well formed. -/
def OrderSpec.wellPosed : OrderSpec → Bool
  | .haul c => 1 ≤ c && c ≤ 32
  | .release c f => 1 ≤ c && c ≤ 32 && f ≤ 1
  | .transfer a b l => 1 ≤ a && a ≤ 8 && 1 ≤ b && b ≤ 8 && 1 ≤ l && l ≤ 500000 && a != b
  | .bunker t => 1 ≤ t && t ≤ 8
  | .malformed => false

/-- The coupling a posted order names. -/
def specCoupling : OrderSpec → Option Nat
  | .haul c => some c
  | .release c _ => some c
  | .transfer _ _ _ => none
  | .bunker _ => none
  | .malformed => none

/-- The tanks a posted order names. -/
def specTanks : OrderSpec → List Nat
  | .haul _ => []
  | .release _ _ => []
  | .transfer a b _ => [a, b]
  | .bunker t => [t]
  | .malformed => []

/-- R130: the tank of a number is present. -/
def State.tankPresentAt (s : State) (n : Nat) : Bool := (index? n 1 8).any s.settings.tankPresent

/-- R158, fourth check: the winch cannot do the work: MONITOR and not REJECTED, or BOW, or no DUAL for channel 2. -/
def State.notCapable (s : State) (c : Coupling) : Bool :=
  (s.node? c.serial).any fun d => (d.state != .rejected && d.role == .monitor) || d.cannotReach c

/-- R158, fifth check: the winch has no usable record. -/
def State.nodeAbsent (s : State) (c : Coupling) : Bool :=
  (s.node? c.serial).all fun d => d.state == .lost || d.state == .departed || d.state == .rejected

/-- R158, sixth check: a live order names the coupling or one of the tanks. -/
def State.namedAlready (s : State) (o : OrderSpec) : Bool :=
  s.liveOrders.any fun (_, p) =>
    (specCoupling o).any (fun c => p.work.coupling? == some c) || (specTanks o).any p.work.tanks.contains

/-- R26: the IN_TOW barges held now that would be unheld without a coupling, in position order, as they are recorded and sent (DESIGN
CHOICE, log entry 57). -/
def State.detached (s : State) (n : Nat) : List Pos :=
  let without := chained CouplingState.holding (s.sup.couplings.filter fun c => c.number != n)
  s.newlyUnheld without

/-- R26: the cast-off set of a posted order. -/
def State.castOffSet (s : State) : OrderSpec → List Pos
  | .release c _ => s.detached c
  | _ => []

/-- R26: a RELEASE without the cast-off flag that would detach barges. -/
def State.detachesTow (s : State) : OrderSpec → Bool
  | .release c f => f == 0 && !(s.detached c).isEmpty
  | _ => false

/-- R159: the lowest free slot. -/
def State.freeSlot (s : State) : Option (Fin 16) := allSlots.find? fun i => s.orders.slots[i].isNone

/-- R158: the checks of POST_ORDER, in order; none when the order is accepted. -/
def State.postRefusal (s : State) (tag : Nat) (o : OrderSpec) : Option Status :=
  if (s.orderTagged tag).isSome then some .tagInUse
  else if tag = 0 ∨ !OrderSpec.wellPosed o then some .badValue
  else
    match specCoupling o with
    | some n =>
        match s.coupling? n with
        | none => some .noSuch
        | some c =>
            if s.notCapable c then some .notCapable
            else if s.nodeAbsent c then some .nodeAbsent
            else if s.namedAlready o then some .duplicate
            else if s.detachesTow o then some .detachesTow
            else if s.freeSlot.isNone then some .tableFull
            else none
    | none =>
        if !(specTanks o).all s.tankPresentAt then some .noSuch
        else if s.namedAlready o then some .duplicate
        else if s.freeSlot.isNone then some .tableFull
        else none

/-- R157: the work of an accepted order. -/
def State.workOf (s : State) : OrderSpec → Work
  | .haul c => .haul c
  | .release c f => .release c (f == 1) (s.castOffSet (.release c f))
  | .transfer a b l => .transfer ⟨a, b, l, 0, 0, false, none, 0, false⟩
  | .bunker t => .bunker ⟨t, 0, 0⟩
  | .malformed => .haul 0

/-- R159: the resource of an order. -/
def State.resourceOf (s : State) : OrderSpec → Option Resource
  | .haul c => if (s.coupling? c).any (·.isFace) then some .facePool else none
  | .release c _ => if (s.coupling? c).any (·.isFace) then some .facePool else none
  | .transfer _ _ _ => some .pump
  | .bunker _ => some .bunkerMeter
  | .malformed => none

/-- R159: the first state of an order. -/
def State.firstState (s : State) (w : Work) (r : Option Resource) : OrderState :=
  if w.isRelease && !s.thrustOk then .waiting
  else
    match r with
    | none => .active
    | some r => if 0 < s.freePlaces r then .active else .queued

/-- R163: the release-wait timer of a RELEASE that does not go ACTIVE at posting. -/
def State.waitTimer (s : State) (w : Work) (st : OrderState) : Timer :=
  if w.isRelease && st != .active then seconds s.settings.coupling.releaseWaitS else none

/-- R26, R159: the cast-off set a work holds. -/
def Work.castOffList : Work → List Pos
  | .release _ _ l => l
  | _ => []

/-- R159: an accepted order takes its slot and its first state. -/
def placeOrder (tag : Nat) (i : Fin 16) (w : Work) (r : Option Resource) (s : State) : State :=
  let first := s.firstState w r
  let s := s.setSlot i (some ⟨tag, w, if first = .active then .queued else first, r, s.waitTimer w first, none⟩)
  if first = .active then startOrder i s else s

/-- R158, R159, R199: POST_ORDER. -/
def postOrder (tag : Nat) (o : OrderSpec) (s : State) : State × Answer :=
  match s.postRefusal tag o, s.freeSlot with
  | some c, _ => refuse s c
  | none, none => refuse s .tableFull
  | none, some i =>
      let w := s.workOf o
      let r := s.resourceOf o
      (finish (placeOrder tag i w r s), accept (unsigned 2 tag ++ unsigned 1 i.val ++
        unsigned 1 (s.firstState w r).code ++ counted Pos.byte w.castOffList))

def execPostOrder (tag : Nat) (o : OrderSpec) (s : State) : Host.Outcome State Fault Refusal :=
  answerRequest s (postOrder tag o)

/-! ### Aborting -/

/-- R138: the abort of a pumping transfer stops its pump; a coasting one runs on. -/
def TransferWork.abort (t : TransferWork) : TransferWork :=
  if t.coasting then t
  else { t with coasting := true, result := some .aborted, sinceStop := 0, stopBetween := true }

/-- R29, R138, R141: the executing block winds an ACTIVE order down. -/
def windDown (i : Fin 16) (o : Order) (s : State) : State :=
  match o.work with
  | .haul c => commandLeaves c (s.setSlot i (some { o with state := .aborting, workTimer := none }))
  | .release c _ _ => commandLeaves c (s.setSlot i (some { o with state := .aborting, workTimer := none }))
  | .transfer t => s.setSlot i (some { o with state := .aborting, work := .transfer t.abort })
  | .bunker _ => s.setSlot i (some { o with state := .aborting })

/-- R166: ABORT_ORDER. The reply carries the former state and the result ABORTED, or the state ABORTING. -/
def abortOrder (tag : Nat) (s : State) : State × Answer :=
  match s.orderTagged tag with
  | none => refuse s .notFound
  | some (i, o) =>
      match o.state with
      | .queued => (completeOrder i (.ofWire .aborted none) s,
          accept (unsigned 1 o.state.code ++ unsigned 1 OrderResult.aborted.code))
      | .waiting => (completeOrder i (.ofWire .aborted none) s,
          accept (unsigned 1 o.state.code ++ unsigned 1 OrderResult.aborted.code))
      | .active => (windDown i o s, accept (unsigned 1 OrderState.aborting.code))
      | .aborting => (s, accept (unsigned 1 OrderState.aborting.code))

def execAbortOrder (tag : Nat) (s : State) : Host.Outcome State Fault Refusal := answerRequest s (abortOrder tag)

/-! ### Timers -/

/-- R163: the release-wait timer of the order of a tag runs out. -/
def releaseWaitExpiry (tag : Nat) (s : State) : State :=
  match s.orderTagged tag with
  | none => s
  | some (i, o) =>
      if o.waitTimer.isNone then s
      else
        match o.state with
        | .waiting => completeOrder i (.ofWire .thrustHigh none) s
        | .queued => completeOrder i (.ofWire .timedOut none) s
        | .active => s
        | .aborting => s

def execReleaseWaitExpiry (tag : Nat) (s : State) : Host.Outcome State Fault Refusal :=
  whenUp s fun s => finish (releaseWaitExpiry tag s)

/-- R25: the haul timer of a coupling runs out. The coupling stays HAULING. -/
def haulTimerExpiry (n : Nat) (s : State) : State :=
  match s.orderOn n with
  | some (i, o) =>
      if o.workTimer.isSome && o.state == .active && !o.work.isRelease then endActive i n .timedOut (s.lastTension n) s
      else s
  | none => s

def execHaulTimerExpiry (n : Nat) (s : State) : Host.Outcome State Fault Refusal :=
  whenUp s fun s => finish (haulTimerExpiry n s)

/-- R28: the release timer of a coupling runs out. The coupling becomes FAULT. -/
def releaseTimerExpiry (n : Nat) (s : State) : State :=
  match s.orderOn n with
  | some (i, o) =>
      if o.workTimer.isSome && o.state == .active && o.work.isRelease then
        endActive i n .notConfirmed (s.lastTension n) (setCouplingState n .fault s)
      else s
  | none => s

def execReleaseTimerExpiry (n : Nat) (s : State) : Host.Outcome State Fault Refusal :=
  whenUp s fun s => finish (releaseTimerExpiry n s)

/-! ### Reading the table -/

/-- R169: an arbiter: the slots that hold its places, and the slot it last started. -/
def State.arbiterBytes (s : State) (r : Resource) : List Byte :=
  counted (fun i : Fin 16 => unsigned 1 i.val) (s.placeHolders r) ++
    optional 1 (fun i : Fin 16 => unsigned 1 i.val) (s.orders.last r)

/-- R169: the target and the parameters of an order. -/
def Work.paramBytes : Work → List Byte
  | .haul c => unsigned 1 c
  | .release c f _ => unsigned 1 c ++ yesNo f
  | .transfer t => unsigned 1 t.source ++ unsigned 1 t.dest ++ unsigned 4 t.litres
  | .bunker b => unsigned 1 b.dest

/-- R169: the coupling's figures beside a working HAUL or RELEASE. -/
def couplingFigures (c : Coupling) : List Byte :=
  unsigned 1 c.state.code ++ unsigned 2 c.tension ++ unsigned 1 c.command.code

/-- R169: the transfer's figures: stage, moved volume, result. -/
def TransferWork.figures (t : TransferWork) : List Byte :=
  unsigned 1 (if t.coasting then 2 else 1) ++ signed 8 t.moved ++
    optional 1 (fun r : OrderResult => unsigned 1 r.code) t.result

/-- R169: what a kind of order adds to its entry: its own kind's figures alone, each group of them after one presence byte (DESIGN CHOICE,
log entry 11). The time left on a release-wait timer is free (log entry 5). -/
def State.workFigures (s : State) (i : Fin 16) (o : Order) : List Byte :=
  let wire (n : Nat) : List Byte := optional 4 couplingFigures (if o.working then s.coupling? n else none)
  match o.work with
  | .haul c => wire c
  | .release c _ l =>
      counted Pos.byte l ++
        optional 4 (fun limit => unsigned 4 (Config.timeLeft (s.readings + i.val) % (limit + 1))) o.waitTimer ++ wire c
  | .transfer t => optional 11 TransferWork.figures (if o.working then some t else none)
  | .bunker b =>
      optional 10 (fun b : BunkerWork => signed 8 b.volume ++ unsigned 2 b.silence) (if o.working then some b else none)

/-- R169: an order in LIST_ORDERS. -/
def State.orderBytes (s : State) (x : Fin 16 × Order) : List Byte :=
  unsigned 1 x.1.val ++ unsigned 2 x.2.tag ++ unsigned 1 x.2.work.code ++ x.2.work.paramBytes ++
    unsigned 1 x.2.state.code ++ unsigned 1 (resourceCode x.2.resource) ++ s.workFigures x.1 x.2

/-- The records of a list, one after another, as many as fit whole in `room` bytes (R54, R169, R177). -/
def takeFitting (room : Nat) : List (List Byte) → List (List Byte)
  | [] => []
  | r :: rs => if r.length ≤ room then r :: takeFitting (room - r.length) rs else []

/-- A count of records in one byte, then the records that fit in what the bytes `before` leave of a reply body. -/
def listFitting (before : List Byte) (records : List (List Byte)) : List Byte :=
  let fit := takeFitting (Config.maxBody - before.length - 1) records
  before ++ unsigned 1 fit.length ++ fit.flatten

/-- R169: LIST_ORDERS changes nothing; the model's counter of free readings moves on. The number of live orders is an integer
that R196 does not size, of 4 bytes (log entry 11). -/
def listOrders (slot : Nat) (s : State) : State × Answer :=
  if 15 < slot then refuse s .badValue
  else
    let before := s.arbiterBytes .facePool ++ s.arbiterBytes .pump ++ s.arbiterBytes .bunkerMeter ++
      unsigned 4 s.liveOrders.length ++ unsigned 2 s.absLe.toNat ++ unsigned 2 s.settings.coupling.releaseLimit.toNat
    ({ s with readings := s.readings + 16 },
      accept (listFitting before ((s.liveOrders.filter fun x => slot ≤ x.1.val).map s.orderBytes)))

def execListOrders (slot : Nat) (s : State) : Host.Outcome State Fault Refusal := answerRequest s (listOrders slot)

end Sys2Proof.Machine
end

