-- ==== Sys2Proof/Machine/NodeTable.lean ====
section
/-! DEFINITION. The Node Table's changes of state and what the supervisor, Steering and the Order Table do at them (R17, R25, R28, R29,
R52, R165), claims (R40), departing notices (R30, R51), and the requests on the table (R53 to R55). -/

namespace Sys2Proof.Machine

/-! ### What a notice does to couplings and orders -/

/-- The coupling an order works on names a winch serial. -/
def State.worksOn (s : State) (serial : Nat) (o : Order) : Bool :=
  o.work.coupling?.any fun n => (s.coupling? n).any (·.serial == serial)

/-- The live HAUL and RELEASE orders whose couplings name a winch serial, with their slots (R165). -/
def State.ordersOf (s : State) (serial : Nat) : List (Fin 16 × Order) :=
  s.liveOrders.filter fun x => s.worksOn serial x.2

/-- R165: a QUEUED or WAITING order of a failed winch completes NODE_LOST. -/
def failWaiting (x : Fin 16 × Order) (s : State) : State :=
  if x.2.working then s else completeOrder x.1 (.ofWire .nodeLost none) s

/-- R25, R28, R29: what the loss of its winch makes of a working order: NODE_LOST, or ABORTED when it was aborting. -/
def lossResult (o : Order) : OrderResult := if o.state = .aborting then .aborted else .nodeLost

/-- R17, R25, R28, R29: a coupling of a lost winch: NONE for its command, LOST unless RELEASED, and its working order ends without a
tension. -/
def loseCoupling (c : Coupling) (s : State) : State :=
  let s := setCommand c.number .none s
  let s := if c.state = .released then s else setCouplingState c.number .lost s
  match s.orderOn c.number with
  | some (i, o) => if o.working then completeOrder i (.ofWire (lossResult o) none) s else s
  | none => s

/-- R17, R165: the winch node of a serial is LOST, DEPARTED or REJECTED. -/
def winchLost (serial : Nat) (s : State) : State :=
  let s := forAll (s.ordersOf serial) failWaiting s
  forAll (s.sup.couplings.filter (·.serial == serial)) loseCoupling s

/-- R165: the order of a slot whose winch came back unable: NODE_LOST; an ACTIVE one leaves its command as R23 gives. -/
def failUnable (x : Fin 16 × Order) (s : State) : State :=
  match x.2.work.coupling? with
  | some n =>
      if x.2.state = .active then endActive x.1 n .nodeLost none s else completeOrder x.1 (.ofWire .nodeLost none) s
  | none => s

/-- R165: the winch of an order's coupling cannot work it: MONITOR, BOW, or no DUAL for its channel 2. -/
def State.unableFor (s : State) (d : Node) (o : Order) : Bool :=
  d.role == .monitor || o.work.coupling?.any fun n => (s.coupling? n).any d.cannotReach

/-- R165: the winch node is ACTIVE: the orders it cannot work fail, those that hold no place first. -/
def winchActive (d : Node) (s : State) : State :=
  let failing := (s.ordersOf d.serial).filter fun x => s.unableFor d x.2
  forAll (failing.filter (·.2.working)) failUnable (forAll (failing.filter (!·.2.working)) failUnable s)

/-- R17, R165: the supervisor's and the Order Table's part of a node-state notice. -/
def supervisorNotice (d : Node) (st : Option NodeState) (s : State) : State :=
  match st with
  | some .lost => winchLost d.serial s
  | some .departed => winchLost d.serial s
  | some .rejected => winchLost d.serial s
  | some .active => winchActive d s
  | some .joining => s
  | some .silent => s
  | some .departing => s
  | none => s

/-- R25, R28, R29: a miss of the winch with its new count: an ACTIVE order ends at the second miss in a row, an ABORTING one at once. -/
def missOrder (count : Nat) (x : Fin 16 × Order) (s : State) : State :=
  match x.2.work.coupling?, x.2.state with
  | some n, .active => if 2 ≤ count then endActive x.1 n .nodeLost (s.lastTension n) s else s
  | some n, .aborting => completeOrder x.1 (.ofWire .aborted (s.lastTension n)) s
  | _, _ => s

/-- R50: the miss notice of a WINCH node, taken by the orders that were working before it, in slot order (DESIGN CHOICE, log entry 43). -/
def missNotice (serial count : Nat) (s : State) : State :=
  forAll ((s.ordersOf serial).filter (·.2.working)) (missOrder count) s

/-! ### Node records -/

/-- Update the record of a serial. -/
def State.onNode (s : State) (serial : Nat) (f : Node → Node) : State :=
  s.onLine fun l => { l with nodes := l.nodes.map fun d => if d.serial = serial then f d else d }

/-- R52: a CHANGE report with subject NODE, carrying the state, 0 for a removed record (log entry 10). -/
def nodeReport (serial : Nat) (s : State) : State :=
  report .change (.serial serial) (unsigned 1 (nodeStateCode ((s.node? serial).map (·.state)))) s

/-- R52: the notices of a change of state, then its report. -/
def nodeNotices (d : Node) (st : Option NodeState) (s : State) : State :=
  nodeReport d.serial (bowNotice d.serial (if st.isSome then some d.kind else none) st (supervisorNotice d st s))

/-- A node record takes a state; the rejoin timer of a record that leaves JOINING stops (R38, R44). -/
def Node.enter (d : Node) (st : NodeState) : Node :=
  { d with state := st, rejoinRunning := d.rejoinRunning && st == .joining }

/-- R52: a record takes a state, with its notices and report at a change. -/
def setNodeState (serial : Nat) (st : NodeState) (s : State) : State :=
  match s.node? serial with
  | none => s
  | some d =>
      if d.state = st then s
      else nodeNotices (d.enter st) (some st) (s.onNode serial fun d => d.enter st)

/-- R52: a record is removed. Its one-shot STOPs go with it (R46, R55). -/
def removeNode (serial : Nat) (s : State) : State :=
  match s.node? serial with
  | none => s
  | some d =>
      nodeNotices d none (s.onLine fun l =>
        { l with
          nodes := l.nodes.filter fun x => x.serial != serial
          stops := l.stops.filter fun x => x.1 != serial })

/-- R50: a record becomes LOST with the NODE_LOST alarm, which is queued after all that the LOST notice brings and the CHANGE report (DESIGN
CHOICE, log entry 56). -/
def nodeLost (serial : Nat) (s : State) : State := report .nodeLost (.serial serial) [] (setNodeState serial .lost s)

/-- R38, R44: a record becomes LOST with the NODE_LOST alarm, or DEPARTED without one when it is marked. -/
def loseNode (serial : Nat) (s : State) : State :=
  match s.node? serial with
  | none => s
  | some d =>
      if d.departMark then setNodeState serial .departed s
      else nodeLost serial s

/-! ### Claims and departures -/

/-- R39, R40: what the declarations name a serial as. -/
inductive Claim where
  | none
  | couplings (numbers : List Nat)
  | barge (p : Pos)
deriving DecidableEq, Repr

/-- R40: the claim of a serial, from the supervisor's tables. -/
def State.claim (s : State) (serial : Nat) : Claim :=
  match s.sup.barges.find? (·.bow == some serial) with
  | some b => .barge b.pos
  | none =>
      match (s.sup.couplings.filter (·.serial == serial)).map (·.number) with
      | [] => .none
      | ns => .couplings ns

/-- R40, R44: the claim is none, or of the wrong kind for the node. -/
def Claim.unusable (c : Claim) (k : NodeKind) : Bool :=
  match c, k with
  | .couplings _, .winch => false
  | .barge _, .bow => false
  | .none, _ => true
  | .couplings _, .bow => true
  | .barge _, .winch => true

/-- R51: a new claim clears the departure mark; a DEPARTING record becomes ACTIVE or SILENT. -/
def newClaim (serial : Nat) (s : State) : State :=
  match s.node? serial with
  | none => s
  | some d =>
      if d.departMark then
        let s := s.onNode serial fun d => { d with departMark := false }
        if d.state = .departing then setNodeState serial (if d.misses = 0 then .active else .silent) s else s
      else s

/-- R51: a departing notice. One for a serial with no record is dropped. -/
def departingNotice (serial : Nat) (s : State) : State :=
  match s.node? serial with
  | none => s
  | some d =>
      let s := s.onNode serial fun d => { d with departMark := true }
      match d.state with
      | .active => setNodeState serial .departing s
      | .silent => setNodeState serial .departing s
      | .lost => setNodeState serial .departed s
      | .joining => s
      | .departing => s
      | .departed => s
      | .rejected => s

/-- R7: the winch of a coupling lies at a position. -/
def Coupling.winchAt (c : Coupling) (p : Pos) : Bool := if c.winchAtB then c.endB == p else c.endA == .barge p

/-- R7: the serials of the nodes that belong to the barge at a position: the winches in the order of their couplings, then the bow node
(DESIGN CHOICE, log entry 47). -/
def State.nodesOf (s : State) (p : Pos) : List Nat :=
  (s.sup.couplings.filter (·.winchAt p)).map (·.serial) ++ ((s.barge? p).bind (·.bow)).toList

/-- R30: a node belongs to an EXPECTED or IN_TOW barge. -/
def State.nodeNeeded (s : State) (serial : Nat) : Bool :=
  s.sup.barges.any fun b => b.state != .castOff && (s.nodesOf b.pos).contains serial

/-- R30, R51: departing notices for those of the serials that now belong to no EXPECTED or IN_TOW barge, in the order of the list; a serial
that stands in it twice is taken at its last place (DESIGN CHOICE, log entry 47). -/
def giveDepartures (serials : List Nat) (s : State) : State :=
  forAll (serials.dedup.filter fun n => !s.nodeNeeded n) departingNotice s

/-! ### Requests on the Node Table -/

/-- R53: the bytes of a last reply; one that is absent is sent as zeros. -/
def Node.lastBytes (d : Node) : List Byte :=
  match d.last with
  | some (.winch cs) => yesNo true ++ counted (fun c => unsigned 2 c.tension ++ unsigned 1 c.flags.code) cs
  | some (.bow a r f) => yesNo true ++ optional 2 (signed 2) a ++ yesNo r ++ yesNo f
  | none => yesNo false ++ List.replicate (if d.kind = .bow then 5 else if d.abilities.dual then 7 else 4) 0

/-- R53: the bytes of a claim: NONE 1, couplings 2, a barge 3 (log entry 11). -/
def Claim.bytes : Claim → List Byte
  | .none => unsigned 1 1
  | .couplings ns => unsigned 1 2 ++ counted (unsigned 1) ns
  | .barge p => unsigned 1 3 ++ Pos.byte p

/-- R53: a record as READ_NODE returns it. -/
def State.nodeBytes (s : State) (d : Node) : List Byte :=
  unsigned 4 d.serial ++ unsigned 1 d.kind.code ++ unsigned 1 d.address ++ unsigned 1 (nodeStateCode (some d.state)) ++
    unsigned 1 (d.abilities.code d.kind) ++ unsigned 1 d.role.code ++ unsigned 1 d.misses ++ yesNo d.heldFlag ++
    yesNo d.faultSeen ++ d.lastBytes ++ (s.claim d.serial).bytes ++ yesNo d.departMark

/-- R53: READ_NODE re-arms the held flag of an ACTIVE record and clears the fault-seen flag, after the fields are taken. -/
def readNode (serial : Nat) (s : State) : State × Answer :=
  match s.node? serial with
  | none => refuse s .noSuch
  | some d =>
      (s.onNode serial fun d => { d with heldFlag := d.heldFlag || d.state == .active, faultSeen := false },
        accept (s.nodeBytes d))

def execReadNode (serial : Nat) (s : State) : Host.Outcome State Fault Refusal := answerRequest s (readNode serial)

/-- R54: a record in LIST_NODES. -/
def Node.listBytes (d : Node) : List Byte :=
  unsigned 1 d.address ++ unsigned 4 d.serial ++ unsigned 1 d.kind.code ++ unsigned 1 (nodeStateCode (some d.state)) ++
    unsigned 1 d.role.code ++ unsigned 1 d.misses ++ yesNo d.heldFlag ++ yesNo d.faultSeen

/-- R54: LIST_NODES. -/
def listNodes (address : Nat) (s : State) : State × Answer :=
  if 1 ≤ address ∧ address ≤ Config.maxAddress then
    (s, accept (unsigned 1 s.line.state.code ++ unsigned 4 s.line.nodes.length ++
      counted Node.listBytes ((s.line.nodes.filter fun d => address ≤ d.address).take 20)))
  else refuse s .badValue

def execListNodes (address : Nat) (s : State) : Host.Outcome State Fault Refusal := answerRequest s (listNodes address)

/-- R55: FORGET_NODE. -/
def forgetNode (serial : Nat) (s : State) : State × Answer :=
  match s.node? serial with
  | none => refuse s .noSuch
  | some d =>
      if d.state = .lost ∨ d.state = .rejected ∨ d.state = .departed then (finish (removeNode serial s), accept [])
      else refuse s .notNow

def execForgetNode (serial : Nat) (s : State) : Host.Outcome State Fault Refusal := answerRequest s (forgetNode serial)

end Sys2Proof.Machine
end

