-- ==== Sys2Proof/Machine/WinchReply.lean ====
section
/-! DEFINITION. A good winch reply at the supervisor (R13): what a live order makes of it (R24, R27, R29), the cast-off (R27, R30), and
the classification of the coupling (R14 to R16). -/

namespace Sys2Proof.Machine

/-- R12: the thresholds of a class: Ts, H, Tf, To. -/
structure Thresholds where
  slack : Int
  hysteresis : Int
  fast : Int
  overload : Int
deriving DecidableEq, Repr

/-- R12: the thresholds of a coupling's class. -/
def CouplingSettings.thresholds (t : CouplingSettings) (cls : Nat) : Thresholds :=
  ⟨entry t.slackThreshold cls, entry t.hysteresis cls, entry t.fastTarget cls, entry t.overload cls⟩

/-- R14: the classification as from UNCONFIRMED. -/
def classifyFresh (h : Thresholds) (t : Int) (f : WinchFlags) : CouplingState :=
  if f.confirm && t < h.slack then .released
  else if h.overload < t then .overload
  else if h.slack + h.hysteresis ≤ t then .fast
  else .slack

/-- R15: the classification of a SLACK coupling. -/
def classifySlack (h : Thresholds) (t : Int) : CouplingState :=
  if h.overload < t then .overload else if h.slack + h.hysteresis ≤ t then .fast else .slack

/-- R15: the classification of a FAST coupling. -/
def classifyFast (h : Thresholds) (t : Int) : CouplingState :=
  if h.overload < t then .overload else if t < h.slack then .slack else .fast

/-- R15: the classification of an OVERLOAD coupling. -/
def classifyOverload (h : Thresholds) (t : Int) : CouplingState :=
  if h.overload < t then .overload
  else if t < h.slack then .slack
  else if t ≤ h.overload - h.hysteresis ∨ t < h.slack + h.hysteresis then .fast
  else .overload

/-- R16: the hook is closed on a wire that is loaded. -/
def madeUp (h : Thresholds) (t : Int) (f : WinchFlags) : Bool := f.hook && h.slack ≤ t

/-- R14 to R16: the state a reply gives a coupling whose state no order holds. HAULING and RELEASING have just ended and are
classified as from UNCONFIRMED (R11). -/
def classify (h : Thresholds) (t : Int) (f : WinchFlags) : CouplingState → CouplingState
  | .unconfirmed => classifyFresh h t f
  | .lost => classifyFresh h t f
  | .hauling => classifyFresh h t f
  | .releasing => classifyFresh h t f
  | .slack => classifySlack h t
  | .fast => classifyFast h t
  | .overload => classifyOverload h t
  | .released => if madeUp h t f then classifyFresh h t f else .released
  | .fault => if f.confirm || madeUp h t f then classifyFresh h t f else .fault

/-! ### Cast-off -/

/-- R27: the barges of a cast-off set that are still in the table and IN_TOW. The set is one of positions (R26), so a barge that took the
place of a removed one, and is IN_TOW, counts (DEDUCED, log entry 46). -/
def State.castOffNow (s : State) (set : List Pos) : List Pos := set.filter s.inTowAt

/-- R27, R30: the barges become CAST_OFF in one makeup change, and their nodes are given departing notices, barge by barge in position
order (DESIGN CHOICE, log entries 45 and 47). -/
def castOff (ps : List Pos) (s : State) : State :=
  if ps.isEmpty then s
  else
    let serials := ps.flatMap s.nodesOf
    let s := forAll ps (fun p => setBargeState p .castOff) s
    giveDepartures serials (s.onSettling fun x => { x with analysis := true, makeup := true })

/-! ### What a live order makes of a reply -/

/-- R24: an ACTIVE HAUL at tension `t`: the coupling changes its state, then the order completes (DESIGN CHOICE, log entry 44). -/
def haulReply (i : Fin 16) (n : Nat) (h : Thresholds) (t : Nat) (s : State) : State :=
  if h.overload < t then endActive i n .overload (some t) (setCouplingState n .overload s)
  else if h.fast ≤ t then endActive i n .done (some t) (setCouplingState n .fast s)
  else s

/-- R27: an ACTIVE RELEASE: a released-confirm with a tension below Ts ends it, and its set is cast off. -/
def releaseReply (i : Fin 16) (n : Nat) (set : List Pos) (h : Thresholds) (t : Nat) (f : WinchFlags) (s : State) : State :=
  if f.confirm && t < h.slack then
    let ps := s.castOffNow set
    castOff ps (completeOrder i ⟨.done, some t, ps.length, 0⟩ (commandLeaves n (setCouplingState n .released s)))
  else s

/-- R13, step 3: a live order on the coupling acts on the reply. `stopSent` says that the poll carried a STOP for the channel (R29). -/
def orderReply (n : Nat) (h : Thresholds) (t : Nat) (f : WinchFlags) (stopSent : Bool) (s : State) : State :=
  match s.orderOn n with
  | none => s
  | some (i, o) =>
      match o.state, o.work with
      | .active, .haul _ => haulReply i n h t s
      | .active, .release _ _ set => releaseReply i n set h t f s
      | .aborting, _ => if stopSent then completeOrder i (.ofWire .aborted (some t)) s else s
      | _, _ => s

/-- R13, step 4: the coupling is classified, unless a working order holds its state. -/
def classifyCoupling (n : Nat) (h : Thresholds) (t : Nat) (f : WinchFlags) (s : State) : State :=
  if (s.orderOn n).any (·.2.working) then s
  else
    match s.coupling? n with
    | some c => setCouplingState n (classify h t f c.state) s
    | none => s

/-- R13: one coupling takes its channel's report. `sent` is the command the poll carried for the channel. A
STOP in it counts as the STOP that stands, also where the poll was built before that one was set (DESIGN CHOICE, log entry 51). -/
def couplingReply (n : Nat) (r : ChannelReport) (sent : WinchCmd) (s : State) : State :=
  match s.coupling? n with
  | none => s
  | some c =>
      let h := s.settings.coupling.thresholds c.cls
      let s := s.onCoupling n fun c =>
        { c with
          tension := r.tension, flags := some r.flags,
          command := if c.command = .stop ∧ sent = .stop then .none else c.command }
      classifyCoupling n h r.tension r.flags (orderReply n h r.tension r.flags (sent == .stop) s)

/-- R13: the report and the sent command of a channel, channels counted from 1. -/
def channelOf (reports : List ChannelReport) (sent : List WinchCmd) (channel : Nat) : Option (ChannelReport × WinchCmd) :=
  if channel = 0 then none else (reports[channel - 1]?).map fun r => (r, (sent[channel - 1]?).getD .none)

/-- R13: a good winch reply reaches the couplings of its serial, in number order (DESIGN CHOICE, log entry 43). -/
def winchReply (serial : Nat) (reports : List ChannelReport) (sent : List WinchCmd) (s : State) : State :=
  forAll (s.sup.couplings.filter (·.serial == serial))
    (fun c s =>
      match channelOf reports sent c.channel with
      | some (r, cmd) => couplingReply c.number r cmd s
      | none => s) s

end Sys2Proof.Machine
end

