-- ==== Sys2Proof/Machine/BargeLine.lean ====
section
/-! DEFINITION. The Barge Line Master (R32 to R50): the frames it sends and receives, the poll cycle, joining, the echo check and the
line state. A frame is one command: its bytes are not modelled one by one (log entry 12). -/

namespace Sys2Proof.Machine

/-! ### Frames -/

/-- R203: the kinds of the frames. -/
def kindPoll : Nat := 1
def kindReply : Nat := 2
def kindInvite : Nat := 3
def kindJoin : Nat := 4
def kindAssign : Nat := 5
def kindDeny : Nat := 6
def kindAck : Nat := 7
def kindReset : Nat := 8

/-- R33: the characters of a frame. -/
def lineFrame (address kind : Nat) (body : List Byte) : List Byte :=
  let inner := unsigned 1 address ++ unsigned 1 kind ++ unsigned 1 body.length ++ body
  inner ++ crcBytes inner

/-- R203: the characters of a frame the master sends. -/
def TxFrame.chars : TxFrame → List Byte
  | .lineReset => lineFrame 63 kindReset []
  | .pollWinch a _ cs _ => lineFrame a kindPoll (cs.flatMap fun c => unsigned 1 c.code)
  | .pollBow a _ d _ => lineFrame a kindPoll (signed 2 d)
  | .invite => lineFrame 0 kindInvite []
  | .assign serial a => lineFrame 0 kindAssign (unsigned 4 serial ++ unsigned 1 a)
  | .assignDeny serial => lineFrame 0 kindDeny (unsigned 4 serial)

/-- R34: the error marks. -/
inductive ErrorMark where
  | none | framing | truncated | crcBad
deriving DecidableEq, Repr

/-- R33: the addresses a frame may carry. -/
def goodAddress (a : Nat) : Bool := a ≤ Config.maxAddress || a == 63

/-- R34: the mark of a received frame whose characters have all arrived, of which one may have lost its stop bit. -/
def markOf (chars : List Byte) (stopBitLost : Bool) : ErrorMark :=
  match chars with
  | a :: k :: len :: rest =>
      if stopBitLost || !goodAddress a.toNat || decide (Config.maxLineBody < len.toNat) then .framing
      else if rest.length < len.toNat + 2 then .truncated
      else if rest.drop len.toNat = crcBytes (a :: k :: len :: rest.take len.toNat) then .none
      else .crcBad
  | _ => if stopBitLost then .framing else .truncated

/-- R34: a good frame: its address, kind and body. -/
structure LineFrame where
  address : Nat
  kind : Nat
  body : List Byte
deriving DecidableEq, Repr

/-- R34: the good frame that characters carry, if their mark is NONE. -/
def goodFrame (chars : List Byte) (stopBitLost : Bool) : Option LineFrame :=
  match markOf chars stopBitLost, chars with
  | .none, a :: k :: len :: rest => some ⟨a.toNat, k.toNat, rest.take len.toNat⟩
  | _, _ => none

/-! ### The poll cycle -/

/-- R45: the states in which a record is polled. -/
def NodeState.polled (t : NodeState) : Bool := t == .active || t == .silent || t == .departing

/-- R46: the command of a winch channel: the coupling's, or a pending one-shot STOP, or NONE. -/
def State.channelCommand (s : State) (serial channel : Nat) : WinchCmd :=
  match s.sup.couplings.find? fun c => c.serial == serial && c.channel == channel with
  | some c => c.command
  | none => if s.line.stops.contains (serial, channel) then .stop else .none

/-- R46, R47: the poll of a record, built from the state as it stands. -/
def State.pollOf (s : State) (d : Node) (again : Bool) : TxFrame :=
  match d.kind with
  | .winch =>
      .pollWinch d.address d.serial
        (s.channelCommand d.serial 1 :: if d.abilities.dual then [s.channelCommand d.serial 2] else []) again
  | .bow => .pollBow d.address d.serial (s.bowDemandFor d.serial) again

/-- The master starts sending a frame. -/
def send (f : TxFrame) (s : State) : State := s.onLine fun l => { l with phase := .sending f }

/-- R46, R47, R118: poll a record; the demand given to a bow unit is stored as its commanded thrust. -/
def poll (d : Node) (again : Bool) (s : State) : State :=
  let f := s.pollOf d again
  let s := if d.kind = .bow then storeBowDemand d.serial (s.bowDemandFor d.serial) s else s
  send f s

/-- R49: the record that has earned a repoll. -/
def State.repollNode (s : State) : Option Node :=
  s.line.repoll.bind fun a => s.line.nodes.find? fun d => d.address == a && d.state.polled

/-- R45: the next record of the walk. The table is in address order. -/
def State.walkNode (s : State) : Option Node :=
  s.line.nodes.find? fun d => s.line.walk ≤ d.address && d.state.polled

/-- R41, R44: the joining slot ends the cycle; the next walk begins at the lowest address. -/
def joiningSlot (s : State) : State :=
  let s := s.onLine fun l => { l with walk := 1 }
  match s.line.handshake with
  | none => send .invite s
  | some h => send (if h.deny then .assignDeny h.serial else .assign h.serial h.address) s

/-- R45, R49: the master starts its next frame: the repoll, the next poll of the walk, or the joining slot. -/
def startNext (s : State) : State :=
  let t := s.onLine fun l => { l with repoll := none }
  match s.repollNode with
  | some d => poll d true t
  | none =>
      match s.walkNode with
      | some d => poll d false (t.onLine fun l => { l with walk := d.address + 1 })
      | none => joiningSlot t

/-- R32: the turnaround ends. -/
def turnaroundExpiry (s : State) : State := if s.line.phase = .turnaround then startNext s else s

def execTurnaroundExpiry (s : State) : Host.Outcome State Fault Refusal := whenUp s turnaroundExpiry

/-! ### Joining -/

/-- R42: the resolved abilities of an abilities byte: the wanted set of the kind. -/
def resolveAbilities (k : NodeKind) (b : Nat) : Abilities :=
  match k with
  | .winch => ⟨b.testBit 0, b.testBit 1, b.testBit 2, b.testBit 3, b.testBit 4, false, false⟩
  | .bow => ⟨false, false, false, false, b.testBit 4, b.testBit 0, b.testBit 1⟩

/-- R42: the resolved set lacks the required ability. -/
def Abilities.lacksRequired (a : Abilities) (k : NodeKind) : Bool :=
  match k with
  | .winch => !a.tension
  | .bow => !a.thrust

/-- R42: the role. -/
def Abilities.role (a : Abilities) (k : NodeKind) : Role :=
  match k with
  | .winch => if a.haul && a.release then .full else .monitor
  | .bow => .full

/-- R203: the kind a JOIN names. -/
def nodeKindOf : Nat → Option NodeKind
  | 1 => some .winch
  | 2 => some .bow
  | _ => none

/-- R39: the lowest free address. -/
def State.freeAddress (s : State) : Option Nat :=
  ((List.range Config.maxAddress).map (· + 1)).find? fun a => s.line.nodes.all (·.address != a)

/-- R39: a record is put in its place in address order. -/
def insertNode (d : Node) : List Node → List Node
  | [] => [d]
  | x :: xs => if x.address < d.address then x :: insertNode d xs else d :: x :: xs

/-- R43: a handshake is pending. -/
def setHandshake (h : Handshake) (s : State) : State := s.onLine fun l => { l with handshake := some h }

/-- R43: the handshake ends. -/
def endHandshake (s : State) : State := s.onLine fun l => { l with handshake := none }

/-- R43: the state a JOIN gives a record. -/
def joinState (a : Abilities) (k : NodeKind) : NodeState := if a.lacksRequired k then .rejected else .joining

/-- R43: a record is created at an address, with its notices (R52). -/
def createNode (serial : Nat) (k : NodeKind) (a : Abilities) (address : Nat) (s : State) : State :=
  let d : Node := ⟨serial, k, address, joinState a k, a, a.role k, 0, false, false, none, false, false⟩
  nodeNotices d (some d.state) (s.onLine fun l => { l with nodes := insertNode d l.nodes })

/-- R43: a record is reused by a JOIN. -/
def reuseNode (d : Node) (k : NodeKind) (a : Abilities) (s : State) : State :=
  setNodeState d.serial (joinState a k)
    (s.onNode d.serial fun d => { d with kind := k, abilities := a, role := a.role k, misses := 0 })

/-- R43: what the master does with a JOIN of a good kind. -/
def takeJoin (serial : Nat) (k : NodeKind) (a : Abilities) (s : State) : State :=
  match s.node? serial with
  | some d =>
      if d.state = .rejected then setHandshake ⟨serial, d.address, true, .standing⟩ s
      else setHandshake ⟨serial, d.address, a.lacksRequired k, .reused d.state⟩ (reuseNode d k a s)
  | none =>
      match s.freeAddress with
      | some address =>
          setHandshake ⟨serial, address, a.lacksRequired k, .created⟩ (createNode serial k a address s)
      | none => s

/-- R41, R203, R204: a good JOIN; any other answer to an invitation is discarded. -/
def inviteReply (f : LineFrame) (s : State) : State :=
  if f.address = 0 ∧ f.kind = kindJoin ∧ f.body.length = 6 then
    match nodeKindOf (natOf (field f.body 4 1)) with
    | some k => takeJoin (natOf (field f.body 0 4)) k (resolveAbilities k (natOf (field f.body 5 1))) s
    | none => s
  else s

/-- R44: a good acknowledgement: the record is ACTIVE, or DEPARTING when marked; an unclaimed one is reported. -/
def acknowledged (serial : Nat) (s : State) : State :=
  match s.node? serial with
  | none => s
  | some d =>
      let s := s.onNode serial fun d => { d with misses := 0 }
      let s := setNodeState serial (if d.departMark then .departing else .active) s
      if (s.claim serial).unusable d.kind && !d.departMark then
        report .nodeUnclaimed (.serial serial) (unsigned 1 d.kind.code) s
      else s

/-- R44, R51: no good acknowledgement. A record that the handshake created is removed, marked or not; a marked one that it reused is
DEPARTED (DEDUCED, log entry 28). -/
def handshakeFails (h : Handshake) (s : State) : State :=
  match h.origin with
  | .created => removeNode h.serial s
  | .standing => s
  | .reused prior =>
      if (s.node? h.serial).any (·.departMark) then setNodeState h.serial .departed s
      else
        match prior with
        | .lost => setNodeState h.serial .lost s
        | .departed => setNodeState h.serial .departed s
        | .joining => loseNode h.serial s
        | .active => loseNode h.serial s
        | .silent => loseNode h.serial s
        | .departing => loseNode h.serial s
        | .rejected => loseNode h.serial s

/-- R44: the exchange of an ASSIGN ends. -/
def assignEnds (good : Bool) (s : State) : State :=
  match s.line.handshake with
  | none => s
  | some h => if good then acknowledged h.serial (endHandshake s) else handshakeFails h (endHandshake s)

/-! ### Poll replies and misses -/

/-- R203: the flags of a winch channel. -/
def winchFlags (b : Nat) : WinchFlags := ⟨b.testBit 0, b.testBit 1, b.testBit 2⟩

/-- R203: a channel report in a winch reply, from byte `i`. -/
def channelReport (body : List Byte) (i : Nat) : ChannelReport :=
  ⟨natOf (field body i 2), winchFlags (natOf (field body (i + 2) 1))⟩

/-- R203: the channel reports of a winch reply. -/
def winchReports (body : List Byte) : List ChannelReport :=
  if body.length = 7 then [channelReport body 1, channelReport body 4] else [channelReport body 1]

/-- R203: a flag of a reply's first byte. -/
def replyFlag (body : List Byte) (n : Nat) : Bool := (natOf (field body 0 1)).testBit n

/-- R49: an urgent reply to an ordinary poll of a node with URGENT earns a repoll. -/
def earnRepoll (d : Node) (body : List Byte) (again : Bool) (s : State) : State :=
  if replyFlag body 0 && d.abilities.urgent && !again then s.onLine fun l => { l with repoll := some d.address } else s

/-- R48, steps 1 to 3. -/
def takeReply (d : Node) (last : LastReply) (faulty : Bool) (s : State) : State :=
  let s := s.onNode d.serial fun d => { d with misses := 0 }
  let s := if d.state = .silent then setNodeState d.serial .active s else s
  s.onNode d.serial fun d => { d with last := some last, faultSeen := d.faultSeen || faulty }

/-- R48: a good winch reply. -/
def winchGood (d : Node) (sent : List WinchCmd) (body : List Byte) (s : State) : State :=
  let rs := winchReports body
  winchReply d.serial rs sent (takeReply d (.winch rs) (rs.any (·.flags.fault)) s)

/-- R48, R204: a good bow reply. The actual thrust is handed on with the FEEDBACK ability alone. -/
def bowGood (d : Node) (body : List Byte) (s : State) : State :=
  let actual := if d.abilities.feedback then some (intOf (field body 1 2)) else none
  bowReply d.serial actual (replyFlag body 1) (replyFlag body 2)
    (takeReply d (.bow actual (replyFlag body 1) (replyFlag body 2)) (replyFlag body 2) s)

/-- R50: a miss on a poll. The miss notice is taken before the loss that a fourth miss brings (log entry 13). -/
def pollMiss (serial : Nat) (s : State) : State :=
  match s.node? serial with
  | none => s
  | some d =>
      let s := s.onNode serial fun d => { d with misses := d.misses + 1, heldFlag := false }
      let s := if d.state = .active then setNodeState serial .silent s else s
      let s := if d.kind = .winch then missNotice serial (d.misses + 1) s else s
      if 4 ≤ d.misses + 1 then
        if d.state = .departing then setNodeState serial .departed s else nodeLost serial s
      else s

/-- R35, R204: a good frame is the reply that an exchange expects. -/
def expected (tx : TxFrame) (f : LineFrame) : Bool :=
  match tx with
  | .pollWinch a _ cs _ => f.address == a && f.kind == kindReply && f.body.length == (if cs.length = 2 then 7 else 4)
  | .pollBow a _ _ _ => f.address == a && f.kind == kindReply && f.body.length == 3
  | .assign serial a =>
      f.address == a && f.kind == kindAck && f.body.length == 4 && natOf f.body == serial
  | .invite => f.address == 0 && f.kind == kindJoin && f.body.length == 6
  | .lineReset => false
  | .assignDeny _ => false

/-- R35: the exchange of a frame ends as a miss. -/
def exchangeMiss (tx : TxFrame) (s : State) : State :=
  match tx with
  | .pollWinch _ serial _ _ => pollMiss serial s
  | .pollBow _ serial _ _ => pollMiss serial s
  | .assign _ _ => assignEnds false s
  | .invite => s
  | .lineReset => s
  | .assignDeny _ => s

/-- R35, R48: the exchange of a frame ends with the reply it expects. -/
def exchangeGood (tx : TxFrame) (f : LineFrame) (s : State) : State :=
  match tx with
  | .pollWinch _ serial cs again =>
      match s.node? serial with
      | some d => earnRepoll d f.body again (winchGood d cs f.body s)
      | none => s
  | .pollBow _ serial _ again =>
      match s.node? serial with
      | some d => earnRepoll d f.body again (bowGood d f.body s)
      | none => s
  | .assign _ _ => assignEnds true s
  | .invite => inviteReply f s
  | .lineReset => s
  | .assignDeny _ => s

/-- R35: the exchange of a frame ends with what was received. -/
def exchangeEnds (tx : TxFrame) (f : Option LineFrame) (s : State) : State :=
  match f with
  | some f => if expected tx f then exchangeGood tx f s else exchangeMiss tx s
  | none => exchangeMiss tx s

/-- R32: the master waits 3 ct. -/
def turnaround (s : State) : State := s.onLine fun l => { l with phase := .turnaround }

/-- R34, R35: a received frame ends. One that answers no exchange is discarded. -/
def bargeFrameReceived (chars : List Byte) (stopBitLost : Bool) (s : State) : State :=
  match s.line.phase with
  | .awaiting tx => exchangeEnds tx (goodFrame chars stopBitLost) (turnaround s)
  | .receiving tx => exchangeEnds tx (goodFrame chars stopBitLost) (turnaround s)
  | .turnaround => s
  | .sending _ => s
  | .quiet => s

def execBargeFrameReceived (chars : List Byte) (stopBitLost : Bool) (s : State) :
    Host.Outcome State Fault Refusal := whenUp s fun s => finish (bargeFrameReceived chars stopBitLost s)

/-- R34, R35: a 3 ct silence ends the frame being received, marked TRUNCATED or FRAMING: a miss. -/
def bargeFrameSilence (s : State) : State :=
  match s.line.phase with
  | .receiving tx => exchangeMiss tx (turnaround s)
  | .awaiting _ => s
  | .turnaround => s
  | .sending _ => s
  | .quiet => s

def execBargeFrameSilence (s : State) : Host.Outcome State Fault Refusal :=
  whenUp s fun s => finish (bargeFrameSilence s)

/-- R35: the first character of a reply begins within the window. -/
def bargeReplyStart (s : State) : State :=
  match s.line.phase with
  | .awaiting tx => s.onLine fun l => { l with phase := .receiving tx }
  | .receiving _ => s
  | .turnaround => s
  | .sending _ => s
  | .quiet => s

def execBargeReplyStart (s : State) : Host.Outcome State Fault Refusal := whenUp s bargeReplyStart

/-- R32, R35: the window expires with no reply begun: a miss, and the next frame starts at once. What the miss brings is settled before
the next poll is built. -/
def replyWindowExpiry (s : State) : State :=
  match s.line.phase with
  | .awaiting tx => startNext (finish (exchangeMiss tx (turnaround s)))
  | .receiving _ => s
  | .turnaround => s
  | .sending _ => s
  | .quiet => s

def execReplyWindowExpiry (s : State) : Host.Outcome State Fault Refusal := whenUp s replyWindowExpiry

/-! ### The echo check and the line state -/

/-- R38: a record at a LINE_RESET that ends a FAULT. The record of the pending handshake is settled apart. -/
def recoverNode (named : Option Nat) (d : Node) (s : State) : State :=
  if d.state = .active ∨ d.state = .silent then
    setNodeState d.serial .joining (s.onNode d.serial fun d => { d with misses := 0, rejoinRunning := true })
  else if d.state = .joining ∧ named ≠ some d.serial then s.onNode d.serial fun d => { d with rejoinRunning := true }
  else if d.state = .departing then setNodeState d.serial .departed s
  else s

/-- R38: the pending handshake is abandoned at a recovery. -/
def recoverHandshake (s : State) : State :=
  match s.line.handshake with
  | none => s
  | some h =>
      let s := endHandshake s
      match h.origin with
      | .created => removeNode h.serial s
      | .standing => s
      | .reused _ =>
          setNodeState h.serial .joining (s.onNode h.serial fun d => { d with rejoinRunning := true })

/-- R38: a LINE_RESET sent from FAULT has had a clean echo: the records in address order, and the pending handshake's last (DESIGN CHOICE,
log entry 48). -/
def recoverLine (s : State) : State :=
  recoverHandshake (forAll s.line.nodes (recoverNode (s.line.handshake.map (·.serial))) s)

/-- R37, R38: the walk starts again at the lowest address. -/
def restartCycle (s : State) : State := s.onLine fun l => { l with walk := 1, repoll := none }

/-- R46: a poll that carried the commands `sent` has done with a one-shot STOP for a channel: it carried a STOP for it, or no command. One
handed over after the poll was built waits for the next. -/
def stopDone (sent : List WinchCmd) (channel : Nat) : Bool :=
  match sent[channel - 1]? with
  | some c => c == .stop
  | none => true

/-- R46: a poll to a node with a clean echo drops its one-shot STOPs. -/
def dropStops (serial : Nat) (sent : List WinchCmd) (s : State) : State :=
  s.onLine fun l => { l with stops := l.stops.filter fun x => !(x.1 == serial && stopDone sent x.2) }

/-- R35: the master waits for a reply to a frame. -/
def awaitReply (tx : TxFrame) (s : State) : State := s.onLine fun l => { l with phase := .awaiting tx }

/-- R37, R38, R46: the effects of a frame whose echo was clean. -/
def frameEffects (tx : TxFrame) (wasFault : Bool) (s : State) : State :=
  match tx with
  | .lineReset => turnaround (restartCycle (if wasFault then recoverLine s else s))
  | .pollWinch _ serial cs _ => awaitReply tx (dropStops serial cs s)
  | .pollBow _ serial _ _ => awaitReply tx (dropStops serial [] s)
  | .invite => awaitReply tx s
  | .assign _ _ => awaitReply tx s
  | .assignDeny _ => turnaround (endHandshake s)

/-- R37: the master's frame ends with a clean echo: the count returns to 0 and the line state to UP. -/
def masterFrameSent (s : State) : State :=
  match s.line.phase with
  | .sending tx =>
      frameEffects tx (s.line.state == .fault) (s.onLine fun l => { l with state := .up, failures := 0 })
  | .awaiting _ => s
  | .receiving _ => s
  | .turnaround => s
  | .quiet => s

def execMasterFrameSent (s : State) : Host.Outcome State Fault Refusal := whenUp s fun s => finish (masterFrameSent s)

/-- R37: the pending handshake is abandoned as the line goes DOWN. -/
def downHandshake (s : State) : State :=
  match s.line.handshake with
  | none => s
  | some h =>
      let s := endHandshake s
      match h.origin with
      | .created => removeNode h.serial s
      | .standing => s
      | .reused _ =>
          setNodeState h.serial (if (s.node? h.serial).any (·.departMark) then .departed else .lost) s

/-- R37: a record as the line goes DOWN, without an alarm of its own. -/
def downNode (d : Node) (s : State) : State :=
  if d.state = .active ∨ d.state = .silent ∨ d.state = .joining then
    setNodeState d.serial (if d.departMark then .departed else .lost) s
  else if d.state = .departing then setNodeState d.serial .departed s
  else s

/-- R37: entry into DOWN. The pending handshake's record comes first, then the others in address order (DESIGN CHOICE, log
entry 38). -/
def lineDown (s : State) : State :=
  let s := report .lineDown .nothing [] (s.onLine fun l => { l with state := .down })
  let s := downHandshake s
  forAll s.line.nodes downNode s

/-- R36, R37: an echo failure: the frame is abandoned, and the line goes to FAULT, or at the third failure in a row to DOWN. -/
def echoFailure (s : State) : State :=
  match s.line.phase with
  | .sending _ =>
      let n := min 3 (s.line.failures + 1)
      let t := s.onLine fun l => { l with failures := n, phase := .quiet }
      if s.line.state = .down then t
      else if n = 3 then lineDown t
      else t.onLine fun l => { l with state := .fault }
  | .awaiting _ => s
  | .receiving _ => s
  | .turnaround => s
  | .quiet => s

def execEchoFailure (s : State) : Host.Outcome State Fault Refusal := whenUp s fun s => finish (echoFailure s)

/-- R36, R38: 500 ms after an echo failure in FAULT the master sends LINE_RESET. -/
def faultRecoveryExpiry (s : State) : State :=
  if s.line.state = .fault ∧ s.line.phase = .quiet then send .lineReset s else s

def execFaultRecoveryExpiry (s : State) : Host.Outcome State Fault Refusal := whenUp s faultRecoveryExpiry

/-- R37: every 5 s in DOWN the master sends LINE_RESET. -/
def downRetryExpiry (s : State) : State :=
  if s.line.state = .down ∧ s.line.phase = .quiet then send .lineReset s else s

def execDownRetryExpiry (s : State) : Host.Outcome State Fault Refusal := whenUp s downRetryExpiry

/-- R38: a pending handshake on the record goes on as the reuse of a LOST or DEPARTED record. -/
def Handshake.expired (h : Handshake) (serial : Nat) (marked : Bool) : Handshake :=
  match h.origin with
  | .reused _ => if h.serial = serial then { h with origin := .reused (if marked then .departed else .lost) } else h
  | .created => h
  | .standing => h

/-- R38: the rejoin timer of a JOINING record runs out. -/
def rejoinTimerExpiry (serial : Nat) (s : State) : State :=
  match s.node? serial with
  | none => s
  | some d =>
      if d.state = .joining ∧ d.rejoinRunning then
        loseNode serial (s.onLine fun l => { l with handshake := l.handshake.map (·.expired serial d.departMark) })
      else s

def execRejoinTimerExpiry (serial : Nat) (s : State) : Host.Outcome State Fault Refusal :=
  whenUp s fun s => finish (rejoinTimerExpiry serial s)

end Sys2Proof.Machine
end

