-- ==== Sys2Proof/Machine/FuelAccount.lean ====
section
/-! DEFINITION. The commands of the Fuel Account (R123 to R143): meter pulses, the accounting interval, soundings, and the reads. -/

namespace Sys2Proof.Machine

/-! ### Meters -/

/-- Update one meter. -/
def State.onMeter (s : State) (m : Fin 10) (f : Meter → Meter) : State :=
  s.onFuel fun t => { t with meters := t.meters.set m (f t.meters[m]) }

/-- R123: a pulse raises the interval count, held at 65,535. -/
def meterPulse (m : Fin 10) (s : State) : State := s.onMeter m fun x => { x with count := min 65535 (x.count + 1) }

def execMeterPulse (m : Fin 10) (s : State) : Host.Outcome State Fault Refusal := whenUp s (meterPulse m)

/-- R124: the status of a channel and the correction temperature, from a reading or a failure. -/
def temperatureOf : Option Int → TempStatus × Int
  | none => (.failed, 150)
  | some r => if r < -200 then (.clamped, -200) else if 900 < r then (.clamped, 900) else (.inRange, r)

/-- R124: the TEMP_RANGE alarm: the status and the reading. -/
def tempAlarm (m : Fin 10) (status : TempStatus) (reading : Option Int) (s : State) : State :=
  report .tempRange (.meter (m.val + 1)) (unsigned 1 status.code ++ optional 2 (signed 2) reading) s

/-- R124, R125 step 1: a channel's temperature is taken; the mark follows the status, and setting it raises the alarm. -/
def takeTemperature (m : Fin 10) (reading : Option Int) (s : State) : State :=
  let (status, t10) := temperatureOf reading
  let was := s.fuel.meters[m].mark
  let s := s.onMeter m fun x => { x with reading := reading, status := status, t10 := t10, mark := status != .inRange }
  if status != .inRange && !was then tempAlarm m status reading s else s

/-- R126, step 2: the correction term c. -/
def correctionTerm (alpha t10 : Int) : Int := roundHalfAway (alpha * (t10 - 150)) 10

/-- R126, step 4: the sum Q. -/
def correctionSum (count : Nat) (k c r : Int) : Int := (count * k) * (1000000 - c) + r

/-- R126, R125 step 2: the correction of a meter: the count is taken, and the remainder carried. -/
def correctMeter (m : Fin 10) (s : State) : State :=
  let c := correctionTerm s.settings.fuel.alpha s.fuel.meters[m].t10
  s.onMeter m fun x =>
    let q := correctionSum x.count s.settings.fuel.meterK[m] c x.remainder
    { x with
      lastCount := x.count, count := 0, term := c, lastVolume := q / 1000000, remainder := q % 1000000 }

/-! ### Booking -/

/-- R123: the supply meter, or with `base` 4 the return meter, of an engine. -/
def engineMeter (base : Nat) (e : Fin 4) : Fin 10 := ⟨(base + e.val) % 10, Nat.mod_lt _ (by decide)⟩

/-- R128: the net consumption of an engine in the interval. -/
def State.netOf (s : State) (e : Fin 4) : Int :=
  s.fuel.meters[engineMeter 0 e].lastVolume - s.fuel.meters[engineMeter 4 e].lastVolume

/-- R128: the supply tank of an engine, where its setting names a tank. -/
def State.supplyTank (s : State) (e : Fin 4) : Option (Fin 8) := index? (s.settings.fuel.supplyTank[e]).toNat 1 8

/-- R128: a net is booked to the engine's total, to the open leg and to the supply tank. -/
def bookNet (e : Fin 4) (s : State) : State :=
  let net := s.netOf e
  let s := s.onFuel fun f =>
    { f with
      lastNet := f.lastNet.set e net
      consumption := f.consumption.set e (fit64 (f.consumption[e] + net)) }
  let s := s.onLeg fun l => { l with net := l.net.set e (fit64 (l.net[e] + net)) }
  match s.supplyTank e with
  | some k => takeFromBook k net s
  | none => s

/-- R129: a running engine adds a second to the open leg. An absent one adds none (R79). -/
def addRunning (e : Fin 4) (s : State) : State :=
  if s.settings.enginePresent e && s.chans[e].running.level then
    s.onLeg fun l => { l with running := l.running.set e (l.running[e] + 1) }
  else s

/-- R125, step 3. -/
def bookEngine (e : Fin 4) (s : State) : State := addRunning e (bookNet e s)

/-- R123: the transfer meter is meter 9 and the bunker meter meter 10 (R198). -/
def transferMeter : Fin 10 := 8
def bunkerMeter : Fin 10 := 9

/-- Replace the work of the order of a slot. -/
def State.setWork (s : State) (i : Fin 16) (w : Work) : State :=
  s.onOrders fun t => { t with slots := t.slots.set i (t.slots[i].map fun o => { o with work := w }) }

/-- The book of a tank named by its number, and its change. -/
def State.bookAt (s : State) (n : Nat) : Int :=
  match index? n 1 8 with
  | some k => s.fuel.tanks[k].book
  | none => 0

/-- R131: take `x` from the book of a tank named by its number. -/
def takeFromTank (n : Nat) (x : Int) (s : State) : State :=
  match index? n 1 8 with
  | some k => takeFromBook k x s
  | none => s

/-- R125 step 4, R136, R127: the transfer meter's volume moves from the source book to the destination book, or is stray. -/
def bookTransfer (s : State) : State :=
  let v := s.fuel.meters[transferMeter].lastVolume
  match s.transferOrder with
  | some (i, _, t) =>
      (takeFromTank t.dest (-v) (takeFromTank t.source v s)).setWork i (.transfer { t with moved := fitNat64 (t.moved + v) })
  | none => s.onFuel fun f => { f with strayTransfer := fit64 (f.strayTransfer + v) }

/-- R125 step 5, R139, R127: the bunker meter's volume is booked to the order, the tank, the account and the leg, or is stray. -/
def bookBunker (s : State) : State :=
  let v := s.fuel.meters[bunkerMeter].lastVolume
  match s.bunkerOrder with
  | some (i, _, b) =>
      let s := (takeFromTank b.dest (-v) s).setWork i (.bunker { b with volume := fitNat64 (b.volume + v) })
      (s.onFuel fun f => { f with bunkered := fitNat64 (f.bunkered + v) }).onLeg fun l =>
        { l with bunkered := fitNat64 (l.bunkered + v) }
  | none => s.onFuel fun f => { f with strayBunker := fit64 (f.strayBunker + v) }

/-! ### Stop tests -/

/-- R136, R140: a count of intervals in a row without a pulse. -/
def silentFor (count n : Nat) : Nat := if count = 0 then n + 1 else 0

/-- R136, R140: the destination book is at or above its capacity. -/
def State.destFull (s : State) (n : Nat) : Bool := litres (entry s.settings.fuel.capacityL n) ≤ s.bookAt n

/-- R136: the first stop test that holds for a pumping transfer. -/
def transferStop (s : State) (t : TransferWork) : Option OrderResult :=
  if litres t.litres ≤ t.moved then some .done
  else if s.bookAt t.source = 0 then some .sourceEmpty
  else if s.destFull t.dest then some .destFull
  else if s.settings.fuel.noFlowS ≤ t.noFlow then some .noFlow
  else none

/-- R137: whether the coast ends at this expiry, the `sinceStop`-th after the stop. After a stop between two expiries the first of
them comes within a second of it. -/
def coastEnds (coastS : Int) (t : TransferWork) : Bool :=
  if t.stopBetween then coastS ≤ (t.sinceStop : Int) - 1 else coastS ≤ t.sinceStop

/-- R136, R137: the transfer after an interval: stop tests while PUMPING, a further second of the coast while COASTING. -/
def transferNext (s : State) (t : TransferWork) : TransferWork :=
  if t.coasting then { t with sinceStop := t.sinceStop + 1 }
  else
    let t := { t with noFlow := silentFor s.fuel.meters[transferMeter].lastCount t.noFlow }
    match transferStop s t with
    | some r => { t with coasting := true, result := some r, sinceStop := 0, stopBetween := false }
    | none => t

/-- R125 step 6, R136, R137: the tests of a transfer; a coast that ends completes the order. -/
def testTransfer (s : State) : State :=
  match s.transferOrder with
  | none => s
  | some (i, _, t) =>
      let t := transferNext s t
      let s := s.setWork i (.transfer t)
      if t.coasting && coastEnds s.settings.fuel.coastS t then
        completeOrder i ⟨t.result.getD .done, none, 0, t.moved⟩ s
      else s

/-- R140: the first test that holds for an ACTIVE bunkering. -/
def bunkerStop (s : State) (b : BunkerWork) : Option OrderResult :=
  if s.destFull b.dest then some .destFull
  else if b.volume ≠ 0 ∧ s.settings.fuel.bunkerEndS ≤ b.silence then some .done
  else if b.volume = 0 ∧ s.settings.fuel.bunkerWaitS ≤ b.silence then some .noFlow
  else none

/-- R125 step 6, R140, R141: the tests of a bunkering; an aborting one completes. -/
def testBunker (s : State) : State :=
  match s.bunkerOrder with
  | none => s
  | some (i, o, b) =>
      if o.state = .aborting then completeOrder i ⟨.aborted, none, 0, b.volume⟩ s
      else
        let b := { b with silence := silentFor s.fuel.meters[bunkerMeter].lastCount b.silence }
        let s := s.setWork i (.bunker b)
        match bunkerStop s b with
        | some r => completeOrder i ⟨r, none, 0, b.volume⟩ s
        | none => s

/-- R125: the steps of an accounting interval, in turn. Steps 1 and 7 take the meters and the tanks in number order (DESIGN CHOICE, log
entry 50). -/
def accountingInterval (temperatures : Vector (Option Int) 10) (s : State) : State :=
  let s := forAll allMeters (fun m => takeTemperature m temperatures[m]) s
  let s := forAll allMeters correctMeter s
  let s := forAll allEngines bookEngine s
  let s := testBunker (testTransfer (bookBunker (bookTransfer s)))
  finish (fcapRecompute (forAll allTanks tankTests s))

def execAccountingIntervalExpiry (temperatures : Vector (Option Int) 10) (s : State) :
    Host.Outcome State Fault Refusal := whenUp s (accountingInterval temperatures)

/-! ### Requests -/

/-- R132: an order that is ACTIVE or ABORTING moves fuel in or out of the tank. -/
def State.tankBusy (s : State) (k : Fin 8) : Bool := (s.tankOrder k).any (·.working)

/-- R132: SET_SOUNDING. -/
def setSounding (n quantity : Nat) (s : State) : State × Answer :=
  match index? n 1 8 with
  | none => refuse s .badValue
  | some k =>
      if 1000000 < quantity then refuse s .badValue
      else if !s.settings.tankPresent k then refuse s .noSuch
      else if s.tankBusy k then refuse s .notNow
      else
        let old := s.fuel.tanks[k].book
        let new := litres quantity
        (finish (tankReport k (fcapRecompute (tankTests k (soundTo k new s)))),
          accept (signed 8 old ++ signed 8 new ++ signed 8 (new - old)))

def execSetSounding (n quantity : Nat) (s : State) : Host.Outcome State Fault Refusal :=
  answerRequest s (setSounding n quantity)

/-- R142: the engines assigned to a tank. -/
def State.tankEngines (s : State) (k : Fin 8) : List Nat :=
  (allEngines.filter fun e => s.supplyTank e == some k).map (·.val + 1)

/-- R142: the stage of a TRANSFER: PUMPING 1, COASTING 2. A queued one has none. -/
def Order.stage (o : Order) : Option Nat :=
  match o.work with
  | .transfer t => if o.working then some (if t.coasting then 2 else 1) else none
  | _ => none

/-- R142: READ_TANK changes nothing. -/
def readTank (n : Nat) (s : State) : State × Answer :=
  match index? n 1 8 with
  | none => refuse s .badValue
  | some k =>
      if !s.settings.tankPresent k then refuse s .noSuch
      else
        let t := s.fuel.tanks[k]
        let f := s.settings.fuel
        (s, accept (unsigned 1 n ++ unsigned 1 (f.role[k]).toNat ++ unsigned 4 (f.capacityL[k]).toNat ++
          unsigned 4 (f.lowLevelL[k]).toNat ++ signed 8 t.book ++ counted (unsigned 1) (s.tankEngines k) ++
          yesNo t.low ++ yesNo t.overfull ++
          optional 6 (fun o => unsigned 2 o.tag ++ unsigned 1 o.work.code ++ unsigned 1 o.state.code ++
            optional 1 (unsigned 1) o.stage) (s.tankOrder k) ++
          signed 8 s.bookSum ++ unsigned 2 s.fuel.fcap.toNat))

def execReadTank (n : Nat) (s : State) : Host.Outcome State Fault Refusal := answerRequest s (readTank n)

/-- R143: a meter in parts 1 and 2 of READ_METERS. -/
def State.meterBytes (s : State) (m : Fin 10) : List Byte :=
  let x := s.fuel.meters[m]
  unsigned 4 (s.settings.fuel.meterK[m]).toNat ++ unsigned 2 x.lastCount ++ signed 8 x.lastVolume ++
    signed 8 x.remainder ++ unsigned 2 x.count

/-- R143: a temperature channel in part 3 of READ_METERS. -/
def State.channelBytes (s : State) (m : Fin 10) : List Byte :=
  let x := s.fuel.meters[m]
  optional 2 (signed 2) x.reading ++ unsigned 1 x.status.code ++ signed 2 x.t10 ++ signed 4 x.term ++ yesNo x.mark

/-- R143: part 4 of READ_METERS. -/
def State.accountBytes (s : State) : List Byte :=
  let f := s.fuel
  allEngines.flatMap (fun e => signed 8 f.lastNet[e] ++ signed 8 f.consumption[e]) ++ signed 8 f.bunkered ++
    signed 8 f.adjustments ++ signed 8 f.strayTransfer ++ signed 8 f.strayBunker ++ signed 8 s.bookSum ++
    unsigned 4 s.settings.fuel.voyageReserveL.toNat ++ yesNo f.reserveMark ++ unsigned 2 f.fcap.toNat ++
    yesNo s.pumpOn ++ yesNo s.bunkerOpen

/-- R143: READ_METERS changes nothing. -/
def readMeters (part : Nat) (s : State) : State × Answer :=
  match part with
  | 1 => (s, accept ((allMeters.take 5).flatMap s.meterBytes))
  | 2 => (s, accept ((allMeters.drop 5).flatMap s.meterBytes))
  | 3 => (s, accept (allMeters.flatMap s.channelBytes))
  | 4 => (s, accept s.accountBytes)
  | _ => refuse s .badValue

def execReadMeters (part : Nat) (s : State) : Host.Outcome State Fault Refusal := answerRequest s (readMeters part)

end Sys2Proof.Machine
end

