-- ==== Sys2Proof/Machine/Makeup.lean ====
section
/-! DEFINITION. The requests on the Makeup Table and the Coupling Table (R3 to R10). -/

namespace Sys2Proof.Machine

/-! ### Barges -/

/-- R3: a position of the convoy grid. -/
def Pos.inGrid (p : Pos) : Bool := 1 ≤ p.col && p.col ≤ 5 && 1 ≤ p.row && p.row ≤ 6

/-- R3: a record is put in its place in position order. -/
def insertBarge (b : Barge) : List Barge → List Barge
  | [] => [b]
  | x :: xs => if Pos.before x.pos b.pos then x :: insertBarge b xs else b :: x :: xs

/-- R4: the bow node serial is already named, by a barge or by a coupling as its winch. -/
def State.serialTaken (s : State) (serial : Nat) : Bool :=
  s.sup.barges.any (fun b => b.bow == some serial) || s.sup.couplings.any (fun c => c.serial == serial)

/-- R4: the checks of DECLARE_BARGE, in order. -/
def State.bargeRefusal (s : State) (p : Pos) (hull light cargo : Nat) (bow : Option Nat) : Option Status :=
  if !Pos.inGrid p ∨ 2000 < light ∨ 6000 < cargo then some .badValue
  else if (s.barge? p).isSome then some .positionTaken
  else if s.sup.barges.any (·.hull == hull) || bow.any s.serialTaken then some .duplicate
  else if Config.maxBarges ≤ s.sup.barges.length then some .tableFull
  else if bow.isSome && decide (Config.maxBowUnits ≤ (s.sup.barges.filter (·.bow.isSome)).length) then some .tableFull
  else none

/-- R4, R40, R115: the bow node of a declared barge is listed and claimed. -/
def claimBow (p : Pos) (bow : Option Nat) (s : State) : State :=
  match bow with
  | some serial => newClaim serial (addBow (.new p serial (s.node? serial)) s)
  | none => s

/-- The holding analysis is due before the command ends (R19). -/
def dueAnalysis (s : State) : State := s.onSettling fun x => { x with analysis := true }

/-- R4: an accepted declaration. -/
def addBarge (p : Pos) (hull light cargo : Nat) (bow : Option Nat) (s : State) : State :=
  let b : Barge := ⟨p, hull, light, cargo, bow, .expected, true, false⟩
  dueAnalysis (claimBow p bow (askCheckpoint (bargeReport p (s.onSup fun u =>
    { u with barges := insertBarge b u.barges }))))

/-- R4: DECLARE_BARGE. -/
def declareBarge (p : Pos) (hull light cargo : Nat) (bow : Option Nat) (s : State) : State × Answer :=
  match s.bargeRefusal p hull light cargo bow with
  | some c => refuse s c
  | none => (finish (addBarge p hull light cargo bow s), accept [])

def execDeclareBarge (p : Pos) (hull light cargo : Nat) (bow : Option Nat) (s : State) :
    Host.Outcome State Fault Refusal := answerRequest s (declareBarge p hull light cargo bow)

/-! ### Withdrawing couplings -/

/-- R46: a one-shot STOP is handed to the master. -/
def oneShotStop (serial channel : Nat) (s : State) : State :=
  s.onLine fun l => { l with stops := l.stops.insert (serial, channel) }

/-- R9: a coupling record is removed, with its report. `c` is the record with the command it had (R5, R9). -/
def dropCoupling (c : Coupling) (s : State) : State :=
  let s := s.onSup fun u => { u with couplings := u.couplings.filter fun x => x.number != c.number }
  let s := if c.command = .none then s else oneShotStop c.serial c.channel s
  askCheckpoint (couplingReport c.number s)

/-- R9, R30: the winches that withdrawn couplings leave; a face winch is given no notice for its face coupling. A node that tended a
withdrawn coupling between barges is given its notice even where it is the winch of a face coupling too (DEDUCED, log entry 37). -/
def leftWinches (cs : List Coupling) : List Nat := (cs.filter (!·.isFace)).map (·.serial)

/-- R9: WITHDRAW_COUPLING. -/
def withdrawCoupling (n : Nat) (s : State) : State × Answer :=
  match s.coupling? n with
  | none => refuse s .noSuch
  | some c =>
      if (s.orderOn n).isSome then refuse s .notNow
      else if c.state.holding && s.touchesTow c then refuse s .notNow
      else (finish (giveDepartures (leftWinches [c]) (dueAnalysis (dropCoupling c s))), accept [])

def execWithdrawCoupling (n : Nat) (s : State) : Host.Outcome State Fault Refusal :=
  answerRequest s (withdrawCoupling n)

/-! ### Removing barges -/

/-- The couplings with an end at a position. -/
def State.couplingsAt (s : State) (p : Pos) : List Coupling := s.sup.couplings.filter (·.endsAt p)

/-- R5: the end of a coupling other than a position lies at an IN_TOW barge. -/
def State.otherEndInTow (s : State) (p : Pos) (c : Coupling) : Bool :=
  if c.endB = p then (match c.endA with | .pushboat => false | .barge q => s.inTowAt q) else s.inTowAt c.endB

/-- R5: a coupling keeps an EXPECTED or CAST_OFF barge from removal. -/
def State.keepsBarge (s : State) (p : Pos) (c : Coupling) : Bool :=
  (s.orderOn c.number).isSome || (c.state.holding && s.otherEndInTow p c)

/-- R5: the record is removed, with the couplings `cs` that end at it; the nodes that lost their last barge are given notices (R30):
those of the barge, then the winches of its couplings. Couplings go in number order (DESIGN CHOICE, log entries 47 and 50). -/
def removeRecord (p : Pos) (cs : List Coupling) (s : State) : State :=
  let serials := s.nodesOf p ++ leftWinches cs
  let s := forAll cs dropCoupling s
  let s := s.onSup fun u => { u with barges := u.barges.filter fun b => b.pos != p }
  giveDepartures serials (dueAnalysis (askCheckpoint (bargeReport p (dropBow p s))))

/-- R168: a live order whose coupling has an end at the position. -/
def State.orderEndsAt (s : State) (p : Pos) (o : Order) : Bool :=
  o.work.coupling?.any fun n => (s.coupling? n).any (·.endsAt p)

/-- R5, R168: a breakaway: the orders at the barge complete CANCELLED in slot order, then the record goes. The commands that decide the
one-shot STOPs are those before the cancellations. -/
def breakaway (p : Pos) (s : State) : State :=
  let cs := s.couplingsAt p
  let orders := s.liveOrders.filter fun x => s.orderEndsAt p x.2
  let s := forAll orders (fun x => completeOrder x.1 (.ofWire .cancelled none)) s
  (removeRecord p cs s).onSettling fun x => { x with makeup := true }

/-- R5: REMOVE_BARGE. -/
def removeBarge (p : Pos) (s : State) : State × Answer :=
  if !Pos.inGrid p then refuse s .badValue
  else
    match s.barge? p with
    | none => refuse s .noSuch
    | some b =>
        if b.state = .inTow then
          if b.held then refuse s .notNow else (finish (breakaway p s), accept [])
        else if (s.couplingsAt p).any (s.keepsBarge p) then refuse s .notNow
        else (finish (removeRecord p (s.couplingsAt p) s), accept [])

def execRemoveBarge (p : Pos) (s : State) : Host.Outcome State Fault Refusal := answerRequest s (removeBarge p)

/-! ### Declaring couplings -/

/-- R8: two places lie next to each other. -/
def adjacent (a : CouplingEnd) (b : Pos) : Bool :=
  match a with
  | .pushboat => b.row == 1
  | .barge p => p != b && p.col ≤ b.col + 1 && b.col ≤ p.col + 1 && p.row ≤ b.row + 1 && b.row ≤ p.row + 1

/-- R8: an end is the pushboat or a declared position. -/
def State.endDeclared (s : State) : CouplingEnd → Bool
  | .pushboat => true
  | .barge p => (s.barge? p).isSome

/-- R8: the first check of DECLARE_COUPLING. -/
def State.goodCoupling (s : State) (n : Nat) (a : CouplingEnd) (b : Pos) (channel winchEnd cls : Nat) : Bool :=
  1 ≤ n && n ≤ 32 && 1 ≤ channel && channel ≤ 2 && 1 ≤ cls && cls ≤ 4 && winchEnd ≤ 1 && s.endDeclared a &&
    s.endDeclared (.barge b) && adjacent a b

/-- R8: the second check of DECLARE_COUPLING. -/
def State.couplingDuplicate (s : State) (n serial channel : Nat) : Bool :=
  (s.coupling? n).isSome || s.sup.couplings.any (fun c => c.serial == serial && c.channel == channel) ||
    s.sup.barges.any (fun b => b.bow == some serial)

/-- R7: a record is put in its place in number order. -/
def insertCoupling (c : Coupling) : List Coupling → List Coupling
  | [] => [c]
  | x :: xs => if x.number < c.number then x :: insertCoupling c xs else c :: x :: xs

/-- R8, R23, R46: an accepted coupling; a pending one-shot STOP becomes its command. -/
def addCoupling (n : Nat) (a : CouplingEnd) (b : Pos) (serial channel winchEnd cls : Nat) (s : State) : State :=
  let cmd : WinchCmd := if s.line.stops.contains (serial, channel) then .stop else .none
  let c : Coupling := ⟨n, a, b, serial, channel, winchEnd == 1, cls, .unconfirmed, 0, none, cmd, true⟩
  let s := s.onLine fun l => { l with stops := l.stops.filter (· != (serial, channel)) }
  let s := s.onSup fun u => { u with couplings := insertCoupling c u.couplings }
  dueAnalysis (newClaim serial (askCheckpoint (couplingReport n s)))

/-- R8: DECLARE_COUPLING. -/
def declareCoupling (n : Nat) (a b : CouplingEnd) (serial channel winchEnd cls : Nat) (s : State) : State × Answer :=
  match b with
  | .pushboat => refuse s .badValue
  | .barge q =>
      if !s.goodCoupling n a q channel winchEnd cls then refuse s .badValue
      else if s.couplingDuplicate n serial channel then refuse s .duplicate
      else (finish (addCoupling n a q serial channel winchEnd cls s), accept [])

def execDeclareCoupling (n : Nat) (a b : CouplingEnd) (serial channel winchEnd cls : Nat) (s : State) :
    Host.Outcome State Fault Refusal := answerRequest s (declareCoupling n a b serial channel winchEnd cls)

/-! ### Reading the tables -/

/-- R10: a barge record as READ_BARGE returns it. -/
def Barge.bytes (b : Barge) : List Byte :=
  Pos.byte b.pos ++ unsigned 4 b.hull ++ unsigned 2 b.light ++ unsigned 2 b.cargo ++ optional 4 (unsigned 4) b.bow ++
    unsigned 1 b.state.code ++ yesNo b.changed ++ yesNo b.held

/-- R10: READ_BARGE clears the changed flag. -/
def readBarge (p : Pos) (s : State) : State × Answer :=
  if !Pos.inGrid p then refuse s .badValue
  else
    match s.barge? p with
    | none => refuse s .noSuch
    | some b => (s.onBarge p fun b => { b with changed := false }, accept b.bytes)

def execReadBarge (p : Pos) (s : State) : Host.Outcome State Fault Refusal := answerRequest s (readBarge p)

/-- R10: a coupling record as READ_COUPLING returns it. The winch end is 0 for A, 1 for B (R198). The channel command has
R203's numbers, NONE 0 to STOP 3 (DESIGN CHOICE, log entry 11). -/
def Coupling.bytes (c : Coupling) : List Byte :=
  unsigned 1 c.number ++ endByte c.endA ++ Pos.byte c.endB ++ unsigned 4 c.serial ++ unsigned 1 c.channel ++
    unsigned 1 c.winchAtB.toNat ++ unsigned 1 c.cls ++ unsigned 1 c.state.code ++ unsigned 2 c.tension ++
    optional 1 (fun f : WinchFlags => unsigned 1 f.code) c.flags ++ unsigned 1 c.command.code ++ yesNo c.changed

/-- R10: READ_COUPLING clears the changed flag. -/
def readCoupling (n : Nat) (s : State) : State × Answer :=
  match s.coupling? n with
  | none => refuse s .noSuch
  | some c => (s.onCoupling n fun c => { c with changed := false }, accept c.bytes)

def execReadCoupling (n : Nat) (s : State) : Host.Outcome State Fault Refusal := answerRequest s (readCoupling n)

/-- R10: LIST_MAKEUP changes nothing. -/
def listMakeup (s : State) : State × Answer :=
  (s, accept (
    counted (fun b : Barge => Pos.byte b.pos ++ unsigned 1 b.state.code ++ yesNo b.held ++ yesNo b.changed) s.sup.barges ++
    counted (fun c : Coupling => unsigned 1 c.number ++ unsigned 1 c.state.code ++ yesNo c.changed) s.sup.couplings ++
    unsigned 4 s.sup.tonnage.toNat ++ unsigned 4 s.sup.tonnageClass ++ unsigned 2 s.sup.ccap.toNat))

def execListMakeup (s : State) : Host.Outcome State Fault Refusal := answerRequest s listMakeup

end Sys2Proof.Machine
end

