-- ==== Sys2Proof/Machine/Propulsion.lean ====
section
/-! DEFINITION. The commands of the Propulsion Controller (R57 to R78), and SET_HELM (R101), which ends a bridge silence as SET_LEVER
does. -/

namespace Sys2Proof.Machine

/-! ### Lever and helm -/

/-- R61, steps 1 to 5. -/
def takeLever (v : Int) (s : State) : State :=
  let lever := clamp (-1000) 1000 v
  recomputeLe (endSilence (restartSilence (clearLatch lever (s.onProp fun p => { p with lever := lever }))))

/-- R61, R199: SET_LEVER. -/
def setLever (v : Int) (s : State) : State × Answer :=
  if s.prop.source = .backup then refuse s .notInCommand
  else
    let t := finish (takeLever v s)
    (t, accept (signed 2 t.prop.lever ++ signed 2 t.prop.sourceLever ++ yesNo t.prop.latch))

def execSetLever (v : Int) (s : State) : Host.Outcome State Fault Refusal := answerRequest s (setLever v)

/-- R101, R199: SET_HELM. -/
def setHelm (v : Int) (s : State) : State × Answer :=
  if s.prop.source = .backup then refuse s .notInCommand
  else
    let t := endSilence (restartSilence (setHelmTo (clamp (-1000) 1000 v) s))
    (t, accept (signed 2 t.steer.helm ++ unsigned 1 t.steer.mode.code ++ yesNo t.steer.degraded ++
      signed 2 t.steer.trim ++ signed 2 t.steer.bowDemand))

def execSetHelm (v : Int) (s : State) : Host.Outcome State Fault Refusal := answerRequest s (setHelm v)

/-! ### Bridge silence -/

/-- R63: the hold time has run: lever and helm become 0. -/
def zeroCommand (s : State) : State :=
  let s := s.onProp fun p => { p with phase := .zeroed, holdTimer := none, lever := 0 }
  sourceReport (recomputeLe (setHelmTo 0 s))

/-- R62: the silence limit runs out. The alarm carries the silence limit, as the setting stands (DESIGN CHOICE, log entry 39), and
the lever held. A hold time of 0 has run at once. -/
def silenceLimitExpiry (s : State) : State :=
  if s.prop.silenceTimer.isSome && s.prop.source == .bridge && s.prop.phase == .normal then
    let t := s.settings.backup
    let u := s.onProp fun p => { p with phase := .hold, silenceTimer := none, holdTimer := seconds t.holdTimeS }
    let u := sourceReport (report .bridgeSilent .nothing (unsigned 2 t.silenceLimitS.toNat ++ signed 2 s.prop.lever) u)
    if t.holdTimeS ≤ 0 then zeroCommand u else u
  else s

def execSilenceLimitExpiry (s : State) : Host.Outcome State Fault Refusal :=
  whenUp s fun s => finish (silenceLimitExpiry s)

/-- R63: the hold time runs out. -/
def holdTimeExpiry (s : State) : State :=
  if s.prop.holdTimer.isSome && s.prop.phase == .hold then zeroCommand s else s

def execHoldTimeExpiry (s : State) : Host.Outcome State Fault Refusal := whenUp s fun s => finish (holdTimeExpiry s)

/-! ### The control period -/

/-- R57: the command source follows the takeover input. -/
def followTakeover (backup : Bool) (s : State) : State :=
  match s.prop.source, backup with
  | .bridge, true =>
      sourceReport (s.onProp fun p =>
        { p with source := .backup, silenceTimer := none, holdTimer := none, phase := .normal })
  | .backup, false =>
      sourceReport (restartSilence (s.onProp fun p => { p with source := .bridge, phase := .normal }))
  | .bridge, false => s
  | .backup, true => s

/-- R59: a raw backup value converted, clamped and deadbanded. -/
def convertBackup (raw : Nat) (mid span deadband : Int) : Int :=
  let v := clamp (-1000) 1000 (roundHalfAway ((raw - mid) * 1000) span)
  if (v.natAbs : Int) ≤ deadband then 0 else v

/-- R59, R60, R102: in BACKUP the lever and the helm are converted and delivered. -/
def deliverBackup (rawLever rawHelm : Nat) (s : State) : State :=
  let t := s.settings.backup
  if s.prop.source = .backup then
    let lever := convertBackup rawLever t.leverMid t.leverSpan t.deadband
    let s := recomputeLe (clearLatch lever (s.onProp fun p => { p with lever := lever }))
    setHelmTo (convertBackup rawHelm t.helmMid t.helmSpan t.deadband) s
  else s

/-- R68: an engine that is present, IN_USE and neither STOPPED nor in FAULT has a share. -/
def State.hasShare (s : State) (e : Fin 4) : Bool :=
  let c := s.chans[e]
  s.settings.enginePresent e && c.mode == .inUse && c.gear != .stopped && c.gear != .fault

/-- R68: the share of an engine, 0 for one that has none. Side 1 is PORT, 2 CENTRE, 3 STARBOARD (R198). -/
def State.shareOf (s : State) (e : Fin 4) : Int :=
  if s.hasShare e && s.dir != .neutral then
    let side := s.settings.engine.side[e]
    clamp 0 1000 (if side = 1 then s.absLe + s.steer.trim else if side = 3 then s.absLe - s.steer.trim else s.absLe)
  else 0

/-- R69: the gear has confirmed the direction of Le. -/
def gearFollows (d : Dir) (g : Gear) : Bool := (d == .ahead && g == .ahead) || (d == .astern && g == .astern)

/-- R69: the share laid out between idle and full speed: the pre-sync target. -/
def layOut (p ni nmax : Int) : Int := clamp ni nmax (ni + roundHalfUp (p * (nmax - ni)) 1000)

/-- R71: a ramp step, in rpm per control period. -/
def rampStep (rate q : Int) : Int := max 1 (rate / (10 * q))

/-- R68, R69: share, pre-sync target and target of an engine. Without a share the pre-sync target is Ni (DESIGN CHOICE, log entry 49). -/
def setTarget (e : Fin 4) (s : State) : State :=
  let t := s.settings.engine
  let p := s.shareOf e
  let pre := if s.hasShare e then layOut p t.idle[e] t.maxSpeed[e] else t.idle[e]
  let n := if s.hasShare e && gearFollows s.dir s.chans[e].gear
    then clamp t.idle[e] t.maxSpeed[e] (pre + s.chans[e].trim) else t.idle[e]
  s.onChan e fun c => { c with share := p, preSync := pre, target := n }

/-- R70, R71: the demand moves toward the target by the ramp steps of the tonnage class. STOPPED and FAULT hold it at idle. -/
def rampDemand (e : Fin 4) (s : State) : State :=
  let t := s.settings.engine
  let q := rampDivisor s.sup.tonnageClass
  s.onChan e fun c =>
    if c.gear = .stopped ∨ c.gear = .fault then c
    else { c with demand := approach c.demand c.target (rampStep t.riseRate q) (rampStep t.fallRate q) }

/-- R58, step 3, and R88: share, target and ramp of a present engine; the new demand may disengage its gear. -/
def engineControl (e : Fin 4) (s : State) : State :=
  if s.settings.enginePresent e then disengageTest e (rampDemand e (setTarget e s)) else s

/-- R58: the steps of a control period. What steps 1 and 2 leave due is settled before step 3, which takes engines 1 to 4 in order
(DESIGN CHOICE, log entry 50). -/
def controlPeriodExpiry (backup : Bool) (rawLever rawHelm : Nat) (s : State) : State :=
  finish (forAll allEngines engineControl (settle (deliverBackup rawLever rawHelm (followTakeover backup s))))

def execControlPeriodExpiry (backup : Bool) (rawLever rawHelm : Nat) (s : State) :
    Host.Outcome State Fault Refusal := whenUp s (controlPeriodExpiry backup rawLever rawHelm)

/-! ### Sync -/

/-- R74: SET_SYNC. -/
def setSync (v : Nat) (s : State) : State × Answer :=
  if v = 0 then (if s.prop.sync then clearTrims (s.onProp fun p => { p with sync := false }) else s, accept [])
  else if v = 1 then (s.onProp fun p => { p with sync := true }, accept [])
  else refuse s .badValue

def execSetSync (v : Nat) (s : State) : Host.Outcome State Fault Refusal := answerRequest s (setSync v)

/-- R72: the candidates of the sync group, in engine order. -/
def State.syncCandidates (s : State) : List (Fin 4) :=
  allEngines.filter fun e =>
    s.settings.enginePresent e && s.chans[e].mode == .inUse && gearFollows s.dir s.chans[e].gear

/-- R72: a candidate lies within the sync window of the lead. -/
def State.follows (s : State) (lead e : Fin 4) : Bool :=
  e != lead && ((s.chans[e].preSync - s.chans[lead].preSync).natAbs : Int) ≤ s.settings.engine.syncWindow

/-- R73: the sync trim of a follower after its step. -/
def State.steppedTrim (s : State) (lead e : Fin 4) : Int :=
  let t := s.settings.engine
  let diff : Int := (s.chans[lead].rpm.natAbs : Int) - s.chans[e].rpm.natAbs
  let y := s.chans[e].trim
  clamp (-t.syncLimit) t.syncLimit (if t.syncBand < diff then y + t.syncStep else if diff < -t.syncBand then y - t.syncStep else y)

/-- R72 to R74: the sync trims after a sync period; 0 for every engine that is not a follower. -/
def syncPeriodExpiry (s : State) : State :=
  let cands := if s.prop.sync then s.syncCandidates else []
  match cands with
  | [] => clearTrims (s.onProp fun p => { p with lead := 0 })
  | lead :: rest =>
      let step (e : Fin 4) (u : State) : State :=
        u.onChan e fun c => { c with trim := if rest.contains e && s.follows lead e then s.steppedTrim lead e else 0 }
      forAll allEngines step (s.onProp fun p => { p with lead := lead.val + 1 })

def execSyncPeriodExpiry (s : State) : Host.Outcome State Fault Refusal := whenUp s syncPeriodExpiry

/-! ### Reading the controller -/

/-- R75: the entry of an engine in READ_PROPULSION; zeros beside absent. -/
def State.engineEntry (s : State) (e : Fin 4) : List Byte :=
  let c := s.chans[e]
  if s.settings.enginePresent e then
    yesNo true ++ unsigned 1 s.settings.engine.side[e].toNat ++ unsigned 1 c.mode.code ++ unsigned 1 c.gear.code ++
      signed 2 c.share ++ signed 2 c.target ++ signed 2 c.demand ++ signed 2 c.trim ++ signed 2 c.rpm
  else yesNo false ++ List.replicate 13 0

/-- R75: READ_PROPULSION changes nothing. -/
def readPropulsion (s : State) : State × Answer :=
  (s, accept (unsigned 1 s.prop.source.code ++ unsigned 1 s.prop.phase.code ++ yesNo s.prop.latch ++
    signed 2 s.prop.lever ++ signed 2 s.prop.sourceLever ++ signed 2 s.prop.le ++ unsigned 1 s.dir.code ++
    unsigned 2 s.sup.ccap.toNat ++ unsigned 2 s.fuel.fcap.toNat ++ unsigned 2 s.settings.engine.asternLimit.toNat ++
    unsigned 4 s.sup.tonnageClass ++ unsigned 4 (rampDivisor s.sup.tonnageClass).toNat ++ yesNo s.prop.sync ++
    unsigned 1 s.prop.lead ++ allEngines.flatMap s.engineEntry))

def execReadPropulsion (s : State) : Host.Outcome State Fault Refusal := answerRequest s readPropulsion

end Sys2Proof.Machine
end

