-- ==== Sys2Proof/Machine/SettingsStore.lean ====
section
/-! DEFINITION. The Settings Store (R184 to R188) with what each owner does at an accepted write (R6, R22, R71, R76, R79, R121, R144,
R162), and the writes of the Checkpoint Area (R190). -/

namespace Sys2Proof.Machine

/-! ### Checks of a write -/

/-- R185: the setting a request names, with its working value. -/
def State.settingNamed (s : State) (sec num idx : Nat) : Option (Sec × Int) :=
  (Sec.ofNat? sec).bind fun c => (s.settings.get c num idx).map fun v => (c, v)

/-- R185: a present engine's channel is in a gear state other than NEUTRAL or STOPPED. -/
def State.enginesBusy (s : State) : Bool :=
  allEngines.any fun e => s.settings.enginePresent e && s.chans[e].gear != .neutral && s.chans[e].gear != .stopped

/-- R185: the test of a section as a whole. -/
def State.sectionBlocked (s : State) : Sec → Bool
  | .engine => s.enginesBusy
  | .steering => s.prop.le != 0 || s.steer.helm != 0
  | .coupling => false
  | .fuel => false
  | .backup => false

/-- R144: a FUEL write that an order on the tank forbids: one that makes it absent or changes its role, capacity or low level. -/
def State.tankHeldByOrder (s : State) (num idx : Nat) (old value : Int) : Bool :=
  value != old && (num == 3 || num == 4 || num == 5 || num == 6) && (index? idx 1 8).any fun k => (s.tankOrder k).isSome

/-- R185: the checks of WRITE_SETTING after the first, in order. -/
def State.writeRefusal (s : State) (c : Sec) (num idx : Nat) (old value : Int) : Option Status :=
  if s.sectionBlocked c then some .notNow
  else if !inRange c num value then some .badValue
  else if !(s.settings.put c num idx value).consistent c then some .badValue
  else if c == .fuel && s.tankHeldByOrder num idx old value then some .notNow
  else none

/-! ### What the owners do -/

/-- R79: an engine is made present or absent. -/
def engineTaken (e : Fin 4) (s : State) : State :=
  let ni := s.settings.engine.idle[e]
  if s.settings.enginePresent e then
    engagementTest e (engineReport e (s.onChan e fun c => c.broughtUp c.mode ni))
  else engineReport e (s.onChan e fun c => c.quiet ni)

/-- R71, R76, R79: the Propulsion Controller and the Engine Channels act on an ENGINE write. -/
def ownerEngine (num idx : Nat) (old value : Int) (s : State) : State :=
  match num, index? idx 1 4 with
  | 1, some e => if value = old then s else engineTaken e s
  | 3, some e => s.onChan e fun c => { c with demand := value }
  | 7, _ => recomputeLe s
  | _, _ => s

/-- R121: a rudder channel whose presence changed is dropped, or comes up. -/
def rudderTaken (was : Settings) (r : Fin 8) (s : State) : State :=
  if was.rudderPresent r = s.settings.rudderPresent r then s else s.onRudder r fun _ => .atStart

/-- R121: the Steering Controller acts on a STEERING write. -/
def ownerSteering (was : Settings) (num : Nat) (s : State) : State :=
  if num = 1 ∨ num = 2 then steeringRecompute (degradedTest (forAll allRudders (rudderTaken was) s))
  else if num = 7 ∨ num = 8 ∨ num = 12 ∨ num = 13 then steeringRecompute s
  else s

/-- R6: the class is taken again from the current tonnage. -/
def takeClass (s : State) : State :=
  s.onSup fun u => { u with tonnageClass := classOf s.settings.coupling u.tonnage }

/-- R6, R22, R162: the supervisor and the Order Table act on a COUPLING write. -/
def ownerCoupling (num : Nat) (s : State) : State :=
  if num = 1 ∨ num = 2 then takeClass s
  else if num = 7 ∨ num = 8 ∨ num = 9 then ccapRecompute false s
  else if num = 12 then s.onSettling fun x => { x with retest := true }
  else s

/-- R144: a tank is made present or absent: sounded to 0 first, then its record made or removed. -/
def tankTaken (k : Fin 8) (s : State) : State :=
  let s := if s.settings.tankPresent k then s else soundTo k 0 s
  tankReport k (s.onTank k fun _ => ⟨0, false, false⟩)

/-- R134, R144: the Fuel Account acts on a FUEL write. -/
def ownerFuel (num idx : Nat) (old value : Int) (s : State) : State :=
  match num, index? idx 1 8 with
  | 3, some k => fcapRecompute (if value = old then s else tankTaken k s)
  | 5, some k => tankTests k s
  | 6, some k => tankTests k s
  | 8, _ => fcapRecompute s
  | 9, _ => fcapRecompute s
  | _, _ => s

/-- R185: the owner acts on the new value. BACKUP settings act from their next use (R77). -/
def ownerActs (c : Sec) (num idx : Nat) (old value : Int) (was : Settings) (s : State) : State :=
  match c with
  | .engine => ownerEngine num idx old value s
  | .steering => ownerSteering was num s
  | .coupling => ownerCoupling num s
  | .fuel => ownerFuel num idx old value s
  | .backup => s

/-- R184, R185, R188: the working value is replaced, the section marked unsaved, and a save in flight remembers the write. -/
def storeValue (c : Sec) (num idx : Nat) (value : Int) (s : State) : State :=
  s.onStore fun t =>
    { t with
      working := t.working.put c num idx value
      unsaved := c.put t.unsaved true
      save := t.save.map fun j => { j with touched := c.put j.touched true } }

/-- R185: WRITE_SETTING. -/
def writeSetting (sec num idx : Nat) (value : Int) (s : State) : State × Answer :=
  match s.settingNamed sec num idx with
  | none => refuse s .badValue
  | some (c, old) =>
      match s.writeRefusal c num idx old value with
      | some r => refuse s r
      | none =>
          (finish (ownerActs c num idx old value s.settings (storeValue c num idx value s)),
            accept (signed 4 old ++ signed 4 value))

def execWriteSetting (sec num idx : Nat) (value : Int) (s : State) : Host.Outcome State Fault Refusal :=
  answerRequest s (writeSetting sec num idx value)

/-- R186: READ_SETTING changes nothing. -/
def readSetting (sec num idx : Nat) (s : State) : State × Answer :=
  match s.settingNamed sec num idx with
  | none => refuse s .badValue
  | some (c, v) =>
      (s, accept (signed 4 v ++ signed 4 ((Settings.defaults.get c num idx).getD 0) ++ signed 4 (settingRange c num).1 ++
        signed 4 (settingRange c num).2 ++ yesNo (c.pick s.store.unsaved)))

def execReadSetting (sec num idx : Nat) (s : State) : Host.Outcome State Fault Refusal :=
  answerRequest s (readSetting sec num idx)

/-! ### Saving -/

/-- R198: the choice of a number. -/
def choiceOf : Nat → Option SaveChoice
  | 0 => some .keep
  | 1 => some .apply
  | 2 => some .default
  | _ => none

/-- R187: the choices of a request, unless one of them is none. -/
def choicesOf (n : PerSection Nat) : Option (PerSection SaveChoice) := do
  let a ← choiceOf n.engine
  let b ← choiceOf n.steering
  let c ← choiceOf n.coupling
  let d ← choiceOf n.fuel
  let e ← choiceOf n.backup
  pure ⟨a, b, c, d, e⟩

/-- R188: the result of a section: KEPT 1, WRITTEN 2, FAILED 3. -/
def saveResult (j : SaveJob) (differs : PerSection Bool) (c : Sec) : Nat :=
  if c.pick j.choices = .keep then 1 else if c.pick differs then 3 else 2

/-- R188: the SETTINGS_SAVED report. -/
def savedReport (j : SaveJob) (differs : PerSection Bool) (s : State) : State :=
  report .settingsSaved .nothing (Sec.all.flatMap fun c => unsigned 1 (saveResult j differs c)) s

/-- R187: the section as a save writes it. `good` says whether the read-back equals what was written (R188). -/
def SaveJob.written (j : SaveJob) (old : StoredSection) (good : Bool) : SaveChoice → StoredSection
  | .keep => old
  | .apply => ⟨good, .apply, j.snapshot⟩
  | .default => ⟨good, .default, old.values⟩

/-- R188: one section at the completion of a save. The unsaved mark clears where the result is WRITTEN by APPLY, and not where it is FAILED
(DEDUCED, log entry 55). -/
def saveSection (j : SaveJob) (differs : PerSection Bool) (c : Sec) (s : State) : State :=
  s.onStore fun t =>
    { t with
      image := c.put t.image (j.written (c.pick t.image) (!c.pick differs) (c.pick j.choices))
      unsaved :=
        if c.pick j.choices = .apply ∧ !c.pick differs ∧ !c.pick j.touched then c.put t.unsaved false else t.unsaved }

/-- R187: the save that a request starts. -/
def newJob (cs : PerSection SaveChoice) (s : State) : SaveJob :=
  ⟨cs, s.settings, ⟨false, false, false, false, false⟩⟩

/-- R187: SAVE_SETTINGS. A save of five KEEPs completes in the same event. -/
def saveSettings (n : PerSection Nat) (s : State) : State × Answer :=
  match choicesOf n with
  | none => refuse s .badValue
  | some cs =>
      if s.store.save.isSome then refuse s .notNow
      else
        let j := newJob cs s
        (if Sec.all.all (fun c => c.pick cs == .keep) then savedReport j ⟨false, false, false, false, false⟩ s
         else s.onStore fun t => { t with save := some j },
          accept (Sec.all.flatMap fun c => unsigned 1 (c.pick n)))

def execSaveSettings (n : PerSection Nat) (s : State) : Host.Outcome State Fault Refusal :=
  answerRequest s (saveSettings n)

/-- R188: the save in flight completes. `differs` says which read-backs differed from what was written. -/
def saveComplete (differs : PerSection Bool) (s : State) : State :=
  match s.store.save with
  | none => s
  | some j =>
      let s := forAll Sec.all (saveSection j differs) s
      savedReport j differs (s.onStore fun t => { t with save := none })

def execSaveComplete (differs : PerSection Bool) (s : State) : Host.Outcome State Fault Refusal :=
  whenUp s (saveComplete differs)

/-! ### The Checkpoint Area -/

/-- R190: the checkpoint period expires. -/
def checkpointPeriodExpiry (s : State) : State := finish (askCheckpoint s)

def execCheckpointPeriodExpiry (s : State) : Host.Outcome State Fault Refusal := whenUp s checkpointPeriodExpiry

/-- R190: a due write starts. -/
def startDue (s : State) : State :=
  if s.ckpt.due then startWrite (s.onCkpt fun c => { c with due := false }) else s

/-- R192: the stage of a RESTART. -/
def setStage (r : RestartStage) (s : State) : State := s.onCtl fun c => { c with restart := r }

/-- R190, R192: a write completes. The final write of a RESTART starts in place of a due one; after it the reply is sent, and a
due write starts no more (log entry 18). -/
def checkpointWriteComplete (s : State) : State :=
  match s.ckpt.writing with
  | none => s
  | some r =>
      let s := s.onCkpt fun c => { c with record := r, good := true, writing := none }
      match s.ctl.restart with
      | .awaitingWrite => setStage .finalWrite (startWrite (s.onCkpt fun c => { c with due := false }))
      | .finalWrite => setStage .sendingReply s
      | .none => startDue s
      | .sendingReply => s

def execCheckpointWriteComplete (s : State) : Host.Outcome State Fault Refusal := whenUp s checkpointWriteComplete

end Sys2Proof.Machine
end

