-- ==== Sys2Proof/Machine/StartUp.lean ====
section
/-! DEFINITION. Start Control (R191 to R195): the causes, what a start loads and restores, and how each block comes up (R31, R56,
R78, R100, R122, R145, R156, R170, R183). -/

namespace Sys2Proof.Machine

/-! ### Causes -/

/-- R191: the place of a cause in the table. -/
def StartCause.rank : StartCause → Nat
  | .powerOn => 0
  | .supplyDip => 1
  | .resetLine => 2
  | .restart => 3

/-- R191: of two causes of one start, the first in the order of the table. -/
def firstCause (a : Option StartCause) (b : StartCause) : StartCause :=
  match a with
  | none => b
  | some c => if c.rank ≤ b.rank then c else b

/-- R191: a cause begins a start: from now on the part is down. -/
def comeDown (cause : StartCause) (s : State) : State :=
  s.onCtl fun c => { c with coming := some (firstCause c.coming cause) }

/-- R191: the supply comes up with the retained logic lost. -/
def execPowerOn (s : State) : Host.Outcome State Fault Refusal := .next (comeDown .powerOn s)

/-- R191: the supply monitor trips. -/
def execSupplyDip (s : State) : Host.Outcome State Fault Refusal := .next (comeDown .supplyDip s)

/-- R191: the reset line is asserted. -/
def execResetLineAsserted (s : State) : Host.Outcome State Fault Refusal :=
  .next (comeDown .resetLine (s.onCtl fun c => { c with resetHeld := true }))

/-- R191: the reset line is released; the start may begin. -/
def execResetLineReleased (s : State) : Host.Outcome State Fault Refusal :=
  .next (s.onCtl fun c => { c with resetHeld := false })

/-- R192: RESTART. Its reply is held by the port until the final write has completed (Machine/BridgeLink.lean). -/
def restart (s : State) : State × Answer :=
  if s.store.save.isSome then refuse s .notNow
  else if s.ckpt.writing.isNone then (setStage .finalWrite (startWrite s), accept [])
  else (setStage .awaitingWrite s, accept [])

/-! ### Loading the settings -/

/-- R188: the sections a save writes, in its order. -/
def SaveJob.sections (j : SaveJob) : List Sec := Sec.all.filter fun c => c.pick j.choices != .keep

/-- R188: a start cuts a save off after `n` sections: those are written, the next fails its CRC, the rest keep their content. -/
def cutSave (n : Nat) (t : Store) : PerSection StoredSection :=
  match t.save with
  | none => t.image
  | some j =>
      let whole := (j.sections.take n).foldl
        (fun im c => c.put im (j.written (c.pick im) true (c.pick j.choices))) t.image
      ((j.sections.drop n).take 1).foldl (fun im c => c.put im { c.pick im with good := false }) whole

/-- R193: worn cells spoil the CRC of their sections. -/
def wearSections (worn : PerSection Bool) (im : PerSection StoredSection) : PerSection StoredSection :=
  Sec.all.foldl (fun im c => c.put im { c.pick im with good := (c.pick im).good && !c.pick worn }) im

/-- R193, R195: how a section is listed: LOADED 1, DEFAULT_MARKED 2, DEFAULT_CHECK 3, DEFAULT_VALUE 4 (R200). -/
def loadOutcome (x : StoredSection) (c : Sec) : Nat :=
  if !x.good then 3
  else
    match x.marker with
    | .default => 2
    | .apply => if x.values.valid c then 1 else 4

/-- R193: the working values after loading. -/
def loadSettings (im : PerSection StoredSection) : Settings :=
  Sec.all.foldl (fun t c => if loadOutcome (c.pick im) c = 1 then t.take (c.pick im).values c else t) .defaults

/-! ### Restoring the blocks -/

/-- R31: a barge record as restored. Held is given by the first analysis. -/
def SavedBarge.restored (b : SavedBarge) : Barge := ⟨b.pos, b.hull, b.light, b.cargo, b.bow, b.state, true, false⟩

/-- R31: a coupling record as restored. -/
def SavedCoupling.restored (c : SavedCoupling) : Coupling :=
  ⟨c.number, c.endA, c.endB, c.serial, c.channel, c.winchAtB, c.cls, .unconfirmed, c.tension, none, .none, true⟩

/-- R31: the tables with the first holding analysis, tonnage and class; Ccap follows once they stand. -/
def startSupervisor (t : Settings) (r : Record) : Supervisor :=
  let cs := r.couplings.map SavedCoupling.restored
  let held := chained CouplingState.holding cs
  let bs := (r.barges.map SavedBarge.restored).map fun b => { b with held := held.contains b.pos }
  ⟨bs, cs, tonnageOf bs, classOf t.coupling (tonnageOf bs), 1000, bs.any fun b => b.state == .inTow && !b.held⟩

/-- R145: a tank after a start: a present tank takes its restored book, or 0. -/
def startTank (t : Settings) (r : Record) (k : Fin 8) : Tank :=
  ⟨if t.tankPresent k then (r.books[k]).getD 0 else 0, false, false⟩

/-- R145: the books dropped because their tanks are not present. -/
def droppedBooks (t : Settings) (r : Record) : Int :=
  (allTanks.map fun k => if t.tankPresent k then 0 else (r.books[k]).getD 0).sum

/-- R145: the Fuel Account after a start; Fcap follows once the books stand. -/
def startFuel (t : Settings) (r : Record) : Fuel where
  meters := mapVec Meter.atStart r.remainders
  tanks := #v[startTank t r 0, startTank t r 1, startTank t r 2, startTank t r 3, startTank t r 4, startTank t r 5,
    startTank t r 6, startTank t r 7]
  consumption := r.consumption
  lastNet := #v[0, 0, 0, 0]
  bunkered := r.bunkered
  adjustments := fit64 (r.adjustments - droppedBooks t r)
  strayTransfer := 0
  strayBunker := 0
  fcap := 1000
  reserveMark := false

/-- R79, R100: a channel after a start. -/
def startChannel (t : Settings) (e : Fin 4) (c : Channel) : Channel :=
  if t.enginePresent e then c.broughtUp .inUse t.engine.idle[e] else ({ c with mode := .inUse }).quiet t.engine.idle[e]

/-- R122: the Bow Unit List built from the Makeup Table. -/
def startBows (bs : List Barge) : List BowUnit :=
  bs.filterMap fun b => b.bow.map fun serial => .new b.pos serial none

/-- R122: the Steering Controller after a start. -/
def startSteering (bs : List Barge) : Steering where
  helm := 0
  mode := .rudderDiff
  rudders := #v[.atStart, .atStart, .atStart, .atStart, .atStart, .atStart, .atStart, .atStart]
  degraded := false
  trim := 0
  bowDemand := 0
  bows := startBows bs

/-- R191: the voyage clock after a start. -/
def startClock (cause : StartCause) (clock : Stamp) : Stamp :=
  match cause with
  | .powerOn => ⟨0, false⟩
  | .supplyDip => ⟨0, false⟩
  | .resetLine => clock
  | .restart => clock

/-- R194: the figures a start takes: the record, or those of a lost checkpoint. -/
def startRecord (good : Bool) (clock : Stamp) (r : Record) : Record :=
  if good then r
  else
    { books := #v[none, none, none, none, none, none, none, none], consumption := #v[0, 0, 0, 0], bunkered := 0,
      adjustments := 0, remainders := #v[0, 0, 0, 0, 0, 0, 0, 0, 0, 0], legs := .fresh clock, barges := [],
      couplings := [] }

/-- R78, R31, R145: Ccap and Fcap as handed at a start, with no report. -/
def startCaps (s : State) : State :=
  (s.onSup fun u => { u with ccap := s.ccapNow }).onFuel fun f => { f with fcap := s.fcapNow }

/-- R195, R200: the body of the START report. -/
def startBody (cause : StartCause) (im : PerSection StoredSection) (good : Bool) (clock : Stamp) (leg : Nat) : List Byte :=
  unsigned 1 cause.code ++ Sec.all.flatMap (fun c => unsigned 1 (loadOutcome (c.pick im) c)) ++
    unsigned 1 (if good then 1 else 2) ++ clock.bytes ++ unsigned 4 leg

/-- R194: a start of a cause. A record that is lost is replaced by a write asked for at once (R190). -/
def startPart (cause : StartCause) (x : StartInputs) (s : State) : State :=
  let image := wearSections x.worn (cutSave x.sectionsWritten s.store)
  let t := loadSettings image
  let clock := startClock cause s.clock
  let good := s.ckpt.good && s.ckpt.writing.isNone
  let r := startRecord good clock s.ckpt.record
  let sup := startSupervisor t r
  let started : State :=
    { port :=
        { receiving := [], inHand := none, buffer := none,
          queue := [⟨.started, .nothing, clock, startBody cause image good clock r.legs.current.number⟩],
          reportsLost := false, linkError := false, overrun := false, answer := none }
      prop :=
        { source := if x.takeoverBackup then .backup else .bridge, lever := 0, latch := true, phase := .normal,
          silenceTimer := none, holdTimer := none, le := 0, sync := false, lead := 0 }
      chans := #v[startChannel t 0 s.chans[0], startChannel t 1 s.chans[1], startChannel t 2 s.chans[2],
        startChannel t 3 s.chans[3]]
      steer := startSteering sup.barges
      sup := sup
      line :=
        { state := .up, failures := 0, phase := .sending .lineReset, walk := 1, repoll := none, nodes := [],
          handshake := none, stops := [] }
      orders :=
        { slots := #v[none, none, none, none, none, none, none, none, none, none, none, none, none, none, none, none],
          lastFace := none, lastPump := none, lastBunker := none }
      fuel := startFuel t r
      legs := r.legs
      store := { working := t, image := image, unsaved := ⟨false, false, false, false, false⟩, save := none }
      ckpt := { record := s.ckpt.record, good := good, writing := none, due := false }
      ctl := { cause := cause, coming := none, resetHeld := false, restart := .none }
      clock := clock
      settling := ⟨false, false, false, false⟩
      readings := s.readings
      pending := s.pending }
  let started := startCaps started
  if good then started else startWrite started

/-- R191, R194: the start that is coming takes place, once the reset line is released. -/
def start (x : StartInputs) (s : State) : State :=
  match s.ctl.coming with
  | none => s
  | some cause => if s.ctl.resetHeld then s else startPart cause x s

def execStart (x : StartInputs) (s : State) : Host.Outcome State Fault Refusal := .next (start x s)

end Sys2Proof.Machine
end

