-- ==== Sys2Proof/Machine/BridgeLink.lean ====
section
/-! DEFINITION. The Bridge Link Port (R171 to R183): its own requests, the flow of frames, the dispatch of a request to its owner, and
the sending of replies. -/

namespace Sys2Proof.Machine

/-! ### The port's own requests -/

/-- R182: ECHO. A body above 240 bytes is no length the kind allows (R198). -/
def echo (body : List Byte) (s : State) : State × Answer :=
  if body.length ≤ Config.maxBody then (s, accept body) else refuse s .badLength

def execEcho (body : List Byte) (s : State) : Host.Outcome State Fault Refusal := answerRequest s (echo body)

/-- R180: the body of a READ_STATUS of `n` bytes. -/
def State.statusBody (s : State) (n : Nat) : List Byte := (s.snapshot ++ List.replicate 40 0).take n

/-- R181: the three latched flags clear. -/
def clearFlags (s : State) : State :=
  s.onPort fun p => { p with reportsLost := false, linkError := false, overrun := false }

/-- R180, R181: READ_STATUS. The flags clear when the whole snapshot is returned. -/
def readStatus (n : Nat) (s : State) : State × Answer :=
  if 64 < n then refuse s .badValue
  else if n = 0 then (clearFlags s, accept (s.statusBody 24))
  else (if 24 ≤ n then clearFlags s else s, accept (s.statusBody n))

def execReadStatus (n : Nat) (s : State) : Host.Outcome State Fault Refusal := answerRequest s (readStatus n)

/-- R177: the fetch order: the highest class first, and within a class the oldest first. -/
def fetchOrder (q : List Report) : List Report :=
  [1, 2, 3, 4, 5].flatMap fun c => q.filter fun r => r.kind.cls == c

/-- R177: how many of the reports, each with its bytes, fit in `room` bytes, one after another. -/
def fitCount (room : Nat) (l : List Report) : Nat := (takeFitting room (l.map Report.bytes)).length

/-- R177: the reports a fetch of `n` takes. Five bytes of the body carry the counts: four the reports still queued, an integer
with no size of its own, and one the reports taken (R196, R199). -/
def fetched (n : Nat) (q : List Report) : List Report :=
  let l := (fetchOrder q).take n
  l.take (fitCount (Config.maxBody - 5) l)

/-- R177: the queue after reports have been taken from it. -/
def queueWithout (taken q : List Report) : List Report := taken.foldl (fun q r => q.erase r) q

/-- R177, R199: FETCH_REPORTS. -/
def fetchReports (n : Nat) (s : State) : State × Answer :=
  if 1 ≤ n ∧ n ≤ 8 then
    let taken := fetched n s.port.queue
    let rest := queueWithout taken s.port.queue
    (s.onPort fun p => { p with queue := rest },
      accept (unsigned 4 rest.length ++ counted Report.bytes taken))
  else refuse s .badValue

def execFetchReports (n : Nat) (s : State) : Host.Outcome State Fault Refusal := answerRequest s (fetchReports n)

/-- R197: the kind byte of RESTART. -/
def kindRestart : Nat := 0x04

/-- R192: RESTART. The reply of an accepted one is held in the port (log entry 7). -/
def restartRequest (s : State) : State × Answer :=
  let r := restart s
  if r.2.status = .accepted ∧ s.port.inHand.isNone then
    (r.1.onPort fun p => { p with inHand := some ⟨kindRestart, 0, r.2⟩ }, r.2)
  else r

def execRestart (s : State) : Host.Outcome State Fault Refusal := answerRequest s restartRequest

/-! ### Dispatch of a request frame -/

/-- R174, step 2: the length is the one the kind allows. -/
def sized (n : Nat) (body : List Byte) (owner : State → State × Answer) (s : State) : State × Answer :=
  if body.length = n then owner s else refuse s .badLength

/-- R196: the unsigned field of `n` bytes from byte `i` on. -/
def uAt (body : List Byte) (i n : Nat) : Nat := natOf (field body i n)

/-- R196: the signed field of `n` bytes from byte `i` on. -/
def sAt (body : List Byte) (i n : Nat) : Int := intOf (field body i n)

/-- R198: the position at byte `i`. -/
def posAt (body : List Byte) (i : Nat) : Pos := posOf (uAt body i 1)

/-- R198: the order of a POST_ORDER body, from its kind byte and its length. -/
def specOf (body : List Byte) : OrderSpec :=
  match uAt body 2 1, body.length with
  | 1, 4 => .haul (uAt body 3 1)
  | 2, 5 => .release (uAt body 3 1) (uAt body 4 1)
  | 3, 9 => .transfer (uAt body 3 1) (uAt body 4 1) (uAt body 5 4)
  | 4, 4 => .bunker (uAt body 3 1)
  | _, _ => .malformed

/-- R198: DECLARE_BARGE of 9 or 13 bytes. -/
def declareBargeFrame (b : List Byte) (s : State) : State × Answer :=
  if b.length = 9 then declareBarge (posAt b 0) (uAt b 1 4) (uAt b 5 2) (uAt b 7 2) none s
  else if b.length = 13 then declareBarge (posAt b 0) (uAt b 1 4) (uAt b 5 2) (uAt b 7 2) (some (uAt b 9 4)) s
  else refuse s .badLength

/-- R198: POST_ORDER of 4, 5 or 9 bytes. -/
def postOrderFrame (b : List Byte) (s : State) : State × Answer :=
  if b.length = 4 ∨ b.length = 5 ∨ b.length = 9 then postOrder (uAt b 0 2) (specOf b) s else refuse s .badLength

/-- R174, R198: a request is checked for kind and length and handed to its owner. -/
def handleRequest (kind : Nat) (b : List Byte) (s : State) : State × Answer :=
  match kind with
  | 0x01 => echo b s
  | 0x02 => sized 1 b (readStatus (uAt b 0 1)) s
  | 0x03 => sized 1 b (fetchReports (uAt b 0 1)) s
  | 0x04 => sized 0 b restart s
  | 0x10 => sized 2 b (setLever (sAt b 0 2)) s
  | 0x11 => sized 2 b (setHelm (sAt b 0 2)) s
  | 0x12 => sized 1 b (setSteerMode (uAt b 0 1)) s
  | 0x13 => sized 5 b (setEngineModes (uAt b 0 1) (uAt b 1 1) (uAt b 2 1) (uAt b 3 1) (uAt b 4 1)) s
  | 0x14 => sized 1 b (setSync (uAt b 0 1)) s
  | 0x15 => sized 0 b readPropulsion s
  | 0x16 => sized 1 b (readEngine (uAt b 0 1)) s
  | 0x17 => sized 0 b readSteering s
  | 0x20 => declareBargeFrame b s
  | 0x21 => sized 1 b (removeBarge (posAt b 0)) s
  | 0x22 => sized 10 b (declareCoupling (uAt b 0 1) (endOf (uAt b 1 1)) (endOf (uAt b 2 1)) (uAt b 3 4) (uAt b 7 1)
      (uAt b 8 1) (uAt b 9 1)) s
  | 0x23 => sized 1 b (withdrawCoupling (uAt b 0 1)) s
  | 0x24 => sized 1 b (readBarge (posAt b 0)) s
  | 0x25 => sized 1 b (readCoupling (uAt b 0 1)) s
  | 0x26 => sized 0 b listMakeup s
  | 0x28 => sized 4 b (readNode (uAt b 0 4)) s
  | 0x29 => sized 1 b (listNodes (uAt b 0 1)) s
  | 0x2A => sized 4 b (forgetNode (uAt b 0 4)) s
  | 0x30 => postOrderFrame b s
  | 0x31 => sized 2 b (abortOrder (uAt b 0 2)) s
  | 0x32 => sized 1 b (listOrders (uAt b 0 1)) s
  | 0x38 => sized 5 b (setSounding (uAt b 0 1) (uAt b 1 4)) s
  | 0x39 => sized 1 b (readTank (uAt b 0 1)) s
  | 0x3A => sized 1 b (readMeters (uAt b 0 1)) s
  | 0x40 => sized 4 b (closeLegRequest (uAt b 0 4)) s
  | 0x41 => sized 4 b (readLeg (uAt b 0 4)) s
  | 0x42 => sized 4 b (releaseLeg (uAt b 0 4)) s
  | 0x43 => sized 4 b (setVoyageClock (uAt b 0 4)) s
  | 0x48 => sized 7 b (writeSetting (uAt b 0 1) (uAt b 1 1) (uAt b 2 1) (sAt b 3 4)) s
  | 0x49 => sized 3 b (readSetting (uAt b 0 1) (uAt b 1 1) (uAt b 2 1)) s
  | 0x4A => sized 5 b (saveSettings ⟨uAt b 0 1, uAt b 1 1, uAt b 2 1, uAt b 3 1, uAt b 4 1⟩) s
  | _ => refuse s .unknownRequest

/-! ### The flow of frames -/

/-- R173, R174: a frame becomes the request in hand and is handled; its reply is built. -/
def takeInHand (f : Frame) (s : State) : State :=
  let r := handleRequest f.kind f.body s
  r.1.onPort fun p => { p with inHand := some ⟨f.kind, f.mark, r.2⟩, answer := some r.2 }

/-- R173: a good frame completes. -/
def takeFrame (f : Frame) (s : State) : State :=
  if s.port.inHand.isNone then takeInHand f s
  else if s.port.buffer.isNone then s.onPort fun p => { p with buffer := some f }
  else s.onPort fun p => { p with overrun := true }

/-- R172: the receiver holds the bytes of a frame not yet complete; with none it is hunting. -/
def receive (bytes : List Byte) (s : State) : State := s.onPort fun p => { p with receiving := bytes }

/-- R172: the frame being received is dropped with LINK_ERROR, and the receiver returns to hunting. -/
def dropFrame (s : State) : State := s.onPort fun p => { p with receiving := [], linkError := true }

/-- R172: a frame is dropped at a fault inside it. While hunting there is no frame, and nothing is marked. -/
def dropReceiving (s : State) : State := if s.port.receiving.isEmpty then s else dropFrame s

/-- R172, R173: all the bytes of a frame have arrived. With a CRC that checks it is good; otherwise it is dropped. -/
def frameComplete (bytes : List Byte) (s : State) : State :=
  match readRequestFrame bytes with
  | some f => takeFrame f (receive [] s)
  | none => dropFrame s

/-- R171, R172: a frame goes on with the bytes it has so far. Its second byte is the length, and four more bytes and the start
byte and length themselves stand beside a body. -/
def frameGrows (bytes : List Byte) (s : State) : State :=
  match bytes with
  | _ :: len :: _ =>
      if Config.maxBody < len.toNat then dropFrame s
      else if bytes.length = len.toNat + 6 then frameComplete bytes s
      else receive bytes s
  | _ => receive bytes s

/-- R172: one byte arrives whole. While hunting only 0xA5 opens a frame and every other byte is discarded; inside a frame a byte
is data. -/
def receiveByte (b : Byte) (s : State) : State :=
  if s.port.receiving.isEmpty then (if b = 0xA5#8 then receive [b] s else s)
  else frameGrows (s.port.receiving ++ [b]) s

/-- R172, R173: bytes arrive one after another, each with its stop bit and with no gap between them (log entry 12). -/
def bridgeFrameReceived (bytes : List Byte) (s : State) : State := forAll bytes receiveByte s

def execBridgeFrameReceived (bytes : List Byte) (s : State) : Host.Outcome State Fault Refusal :=
  whenUp s (bridgeFrameReceived bytes)

/-- R172: more than 5 ms pass after a byte of a frame. The byte that ends the gap comes in a row of its own. -/
def execBridgeByteGap (s : State) : Host.Outcome State Fault Refusal := whenUp s dropReceiving

/-- R172: a byte arrives without its stop bit, or a length above 240 arrives (which `frameGrows` also tests of a length byte). -/
def bridgeByteFault (s : State) : State := dropReceiving s

def execBridgeByteFault (s : State) : Host.Outcome State Fault Refusal := whenUp s bridgeByteFault

/-- R192: the reply is that of an accepted RESTART. -/
def Reply.startsPart (r : Reply) : Bool := r.kind == kindRestart && r.answer.status == .accepted

/-- R173: the port has no request in hand, and takes a buffered frame. -/
def nextInHand (s : State) : State :=
  match s.port.buffer with
  | some f => takeInHand f (s.onPort fun p => { p with inHand := none, buffer := none })
  | none => s.onPort fun p => { p with inHand := none }

/-- R173, R183, R192: the last byte of a reply has been sent. The reply of a RESTART is sent only after the final write, and its last
byte begins the start. -/
def replySent (s : State) : State :=
  match s.port.inHand with
  | some r =>
      if r.startsPart then (if s.finalRecordStands then comeDown .restart s else s) else nextInHand s
  | none => if s.finalRecordStands then comeDown .restart s else s

def execReplySent (s : State) : Host.Outcome State Fault Refusal := whenUp s replySent

/-- R171, R197: the bytes of a reply as the port sends them. -/
def Reply.bytes (r : Reply) : List Byte := replyFrame r.kind r.mark r.answer.status.code r.answer.body

end Sys2Proof.Machine
end

