-- ==== Sys2Proof/Machine/Dispatch.lean ====
section
/-! DEFINITION. The dispatch of a command to its meaning: one arm for each constructor of Instr, in the table's order. -/

namespace Sys2Proof.Machine

/-- The effect of a command on everything but the queue of waiting commands. -/
def exec (i : Instr) (s : State) : Host.Outcome State Fault Refusal :=
  match i with
  | .echo body => Sys2Proof.Machine.execEcho body s
  | .readStatus length => Sys2Proof.Machine.execReadStatus length s
  | .fetchReports count => Sys2Proof.Machine.execFetchReports count s
  | .restart => Sys2Proof.Machine.execRestart s
  | .setLever lever => Sys2Proof.Machine.execSetLever lever s
  | .setHelm helm => Sys2Proof.Machine.execSetHelm helm s
  | .setSteerMode mode => Sys2Proof.Machine.execSetSteerMode mode s
  | .setEngineModes mask mode1 mode2 mode3 mode4 => Sys2Proof.Machine.execSetEngineModes mask mode1 mode2 mode3 mode4 s
  | .setSync onOff => Sys2Proof.Machine.execSetSync onOff s
  | .readPropulsion => Sys2Proof.Machine.execReadPropulsion s
  | .readEngine engine => Sys2Proof.Machine.execReadEngine engine s
  | .readSteering => Sys2Proof.Machine.execReadSteering s
  | .declareBarge pos hull light cargo bow => Sys2Proof.Machine.execDeclareBarge pos hull light cargo bow s
  | .removeBarge pos => Sys2Proof.Machine.execRemoveBarge pos s
  | .declareCoupling number endA endB serial channel winchEnd cls => Sys2Proof.Machine.execDeclareCoupling number endA endB serial channel winchEnd cls s
  | .withdrawCoupling number => Sys2Proof.Machine.execWithdrawCoupling number s
  | .readBarge pos => Sys2Proof.Machine.execReadBarge pos s
  | .readCoupling number => Sys2Proof.Machine.execReadCoupling number s
  | .listMakeup => Sys2Proof.Machine.execListMakeup s
  | .readNode serial => Sys2Proof.Machine.execReadNode serial s
  | .listNodes address => Sys2Proof.Machine.execListNodes address s
  | .forgetNode serial => Sys2Proof.Machine.execForgetNode serial s
  | .postOrder tag spec => Sys2Proof.Machine.execPostOrder tag spec s
  | .abortOrder tag => Sys2Proof.Machine.execAbortOrder tag s
  | .listOrders slot => Sys2Proof.Machine.execListOrders slot s
  | .setSounding tank litres => Sys2Proof.Machine.execSetSounding tank litres s
  | .readTank tank => Sys2Proof.Machine.execReadTank tank s
  | .readMeters part => Sys2Proof.Machine.execReadMeters part s
  | .closeLeg number => Sys2Proof.Machine.execCloseLeg number s
  | .readLeg number => Sys2Proof.Machine.execReadLeg number s
  | .releaseLeg number => Sys2Proof.Machine.execReleaseLeg number s
  | .setVoyageClock seconds => Sys2Proof.Machine.execSetVoyageClock seconds s
  | .writeSetting sec number index value => Sys2Proof.Machine.execWriteSetting sec number index value s
  | .readSetting sec number index => Sys2Proof.Machine.execReadSetting sec number index s
  | .saveSettings choices => Sys2Proof.Machine.execSaveSettings choices s
  | .bridgeFrameReceived bytes => Sys2Proof.Machine.execBridgeFrameReceived bytes s
  | .bridgeByteGap => Sys2Proof.Machine.execBridgeByteGap s
  | .replySent => Sys2Proof.Machine.execReplySent s
  | .powerOn => Sys2Proof.Machine.execPowerOn s
  | .supplyDip => Sys2Proof.Machine.execSupplyDip s
  | .resetLineAsserted => Sys2Proof.Machine.execResetLineAsserted s
  | .resetLineReleased => Sys2Proof.Machine.execResetLineReleased s
  | .start inputs => Sys2Proof.Machine.execStart inputs s
  | .saveComplete readBackDiffers => Sys2Proof.Machine.execSaveComplete readBackDiffers s
  | .checkpointPeriodExpiry => Sys2Proof.Machine.execCheckpointPeriodExpiry s
  | .checkpointWriteComplete => Sys2Proof.Machine.execCheckpointWriteComplete s
  | .voyageClockTick => Sys2Proof.Machine.execVoyageClockTick s
  | .controlPeriodExpiry takeoverBackup rawLever rawHelm => Sys2Proof.Machine.execControlPeriodExpiry takeoverBackup rawLever rawHelm s
  | .silenceLimitExpiry => Sys2Proof.Machine.execSilenceLimitExpiry s
  | .holdTimeExpiry => Sys2Proof.Machine.execHoldTimeExpiry s
  | .syncPeriodExpiry => Sys2Proof.Machine.execSyncPeriodExpiry s
  | .governorPeriodEnd engine => Sys2Proof.Machine.execGovernorPeriodEnd engine s
  | .shaftPulse engine secondPhaseHigh => Sys2Proof.Machine.execShaftPulse engine secondPhaseHigh s
  | .shaftWindowExpiry engine => Sys2Proof.Machine.execShaftWindowExpiry engine s
  | .inputFilterExpiry engine input => Sys2Proof.Machine.execInputFilterExpiry engine input s
  | .engageConfirmExpiry engine => Sys2Proof.Machine.execEngageConfirmExpiry engine s
  | .neutralDwellExpiry engine => Sys2Proof.Machine.execNeutralDwellExpiry engine s
  | .dwellTimeoutExpiry engine => Sys2Proof.Machine.execDwellTimeoutExpiry engine s
  | .wrongWayExpiry engine => Sys2Proof.Machine.execWrongWayExpiry engine s
  | .followExpiry engine => Sys2Proof.Machine.execFollowExpiry engine s
  | .steeringControlPeriod samples => Sys2Proof.Machine.execSteeringControlPeriod samples s
  | .turnaroundExpiry => Sys2Proof.Machine.execTurnaroundExpiry s
  | .masterFrameSent => Sys2Proof.Machine.execMasterFrameSent s
  | .echoFailure => Sys2Proof.Machine.execEchoFailure s
  | .faultRecoveryExpiry => Sys2Proof.Machine.execFaultRecoveryExpiry s
  | .downRetryExpiry => Sys2Proof.Machine.execDownRetryExpiry s
  | .rejoinTimerExpiry serial => Sys2Proof.Machine.execRejoinTimerExpiry serial s
  | .replyWindowExpiry => Sys2Proof.Machine.execReplyWindowExpiry s
  | .bargeFrameReceived chars stopBitLost => Sys2Proof.Machine.execBargeFrameReceived chars stopBitLost s
  | .bargeFrameSilence => Sys2Proof.Machine.execBargeFrameSilence s
  | .haulTimerExpiry coupling => Sys2Proof.Machine.execHaulTimerExpiry coupling s
  | .releaseTimerExpiry coupling => Sys2Proof.Machine.execReleaseTimerExpiry coupling s
  | .releaseWaitExpiry tag => Sys2Proof.Machine.execReleaseWaitExpiry tag s
  | .meterPulse meter => Sys2Proof.Machine.execMeterPulse meter s
  | .accountingIntervalExpiry temperatures => Sys2Proof.Machine.execAccountingIntervalExpiry temperatures s
  | .logPulse => Sys2Proof.Machine.execLogPulse s
  | .engineInputChange engine input level => Sys2Proof.Machine.execEngineInputChange engine input level s
  | .bridgeByteFault => Sys2Proof.Machine.execBridgeByteFault s
  | .bargeReplyStart => Sys2Proof.Machine.execBargeReplyStart s

end Sys2Proof.Machine
end

