-- ==== Sys2Proof/Machine/Step.lean ====
section
/-! DEFINITION. The step: the waiting commands are taken first in, first out. The 2440 fetches no program; a command comes to run by
being put in the queue from outside (log entry 1). -/

namespace Sys2Proof.Machine

/-- The state with another queue of waiting commands. -/
def State.withPending (s : State) (cs : List Instr) : State := { s with pending := cs }

/-- Take the command at the front of the queue and run it on the state with the queue's rest. With an empty queue the 2440 idles: time
passes for it only through the timer commands of the table (log entry 1). -/
def step (s : State) : Host.Outcome State Fault Refusal :=
  match s.pending with
  | [] => .next s
  | c :: rest => exec c (s.withPending rest)

/-- Put the command that a word spells at the front of the queue. No row of the table gives bits, so no word spells one. -/
def State.withFetchWord (s : State) (nbits w : Nat) : State :=
  match decodeTableWord nbits w with
  | some c => s.withPending (c :: s.pending)
  | none => s

end Sys2Proof.Machine
end

