-- ==== Sys2Proof/Safety.lean ====
section
/-! DEFINITION. What counts as a safe run, and the invariants of the tables, in the terms the statements use. -/

namespace Sys2Proof.Machine

/-- A safe step ends in a next state: no fault and no refusal. -/
def Safe : Host.Outcome State Fault Refusal → Prop
  | .next _ => True
  | .fault _ => False
  | .refused _ => False

/-- The state with the owner's answer at the port, and nothing else changed (R174, step 3). -/
def State.answered (s : State) (a : Answer) : State := s.onPort fun p => { p with answer := some a }

/-- Between commands nothing is left to settle (log entry 8). -/
def State.quiet (s : State) : Prop := s.settling = ⟨false, false, false, false⟩

/-- The Settings Store, Start Control, the voyage clock and the queue of waiting commands stand as they were. -/
def SameStores (s t : State) : Prop :=
  t.store = s.store ∧ t.ctl = s.ctl ∧ t.clock = s.clock ∧ t.pending = s.pending

/-! ### The Report Queue (R176) -/

/-- R176: no two CHANGE reports of one subject stand in the queue. -/
def changesDistinct (q : List Report) : Prop :=
  q.Pairwise fun a b => ¬(a.kind = .change ∧ b.kind = .change ∧ a.subject = b.subject)

/-- R176: at most 32 reports, and at most one CHANGE report of each subject. -/
def ReportQueueOk (s : State) : Prop := s.port.queue.length ≤ 32 ∧ changesDistinct s.port.queue

/-! ### The Leg Log (R150) -/

/-- R146, R148, R150: at most 12 closed legs, their numbers rising, all below the number of the open leg. -/
def LegsOk (l : Legs) : Prop :=
  l.log.length ≤ 12 ∧ (l.log.map (·.leg.number)).Pairwise (· < ·) ∧ ∀ c ∈ l.log, c.leg.number < l.current.number

/-- The legs the part runs with, those of the checkpoint record, and those of the record being written. -/
def LegLogOk (s : State) : Prop :=
  LegsOk s.legs ∧ LegsOk s.ckpt.record.legs ∧ ∀ r, s.ckpt.writing = some r → LegsOk r.legs

/-! ### The settings (R185, R193) -/

/-- R185: every working value is in range and every constraint among the settings of a section is met. -/
def SettingsOk (s : State) : Prop := ∀ sec : Sec, s.settings.valid sec = true

/-! ### The Makeup Table and the Coupling Table (R3, R7) -/

/-- R3: position order, which is a strict order. -/
def posLt (a b : Pos) : Prop := a.col < b.col ∨ a.col = b.col ∧ a.row < b.row

/-- R3: at most 24 records in strict position order, no hull number twice, and at most 2 bow nodes. -/
def MakeupOk (ps : List Pos) (hulls : List Nat) (bows : List (Option Nat)) : Prop :=
  ps.length ≤ 24 ∧ ps.Pairwise posLt ∧ hulls.Nodup ∧ (bows.filter (·.isSome)).length ≤ 2

/-- R7: the numbers of the Coupling Table lie in 1..32 and rise. -/
def CouplingsOk (ns : List Nat) : Prop := (∀ n ∈ ns, 1 ≤ n ∧ n ≤ 32) ∧ ns.Pairwise (· < ·)

/-- The two tables as a checkpoint record holds them. -/
def RecordTablesOk (r : Record) : Prop :=
  MakeupOk (r.barges.map (·.pos)) (r.barges.map (·.hull)) (r.barges.map (·.bow)) ∧ CouplingsOk (r.couplings.map (·.number))

/-- The two tables as the supervisor holds them, in the checkpoint record, and in the record being written. -/
def TablesOk (s : State) : Prop :=
  MakeupOk (s.sup.barges.map (·.pos)) (s.sup.barges.map (·.hull)) (s.sup.barges.map (·.bow)) ∧
    CouplingsOk (s.sup.couplings.map (·.number)) ∧ RecordTablesOk s.ckpt.record ∧
    ∀ r, s.ckpt.writing = some r → RecordTablesOk r

/-! ### The Node Table (R39) -/

/-- R39: the records stand in order of address, each with an address of 1..40 of its own and a serial of its own. -/
def NodesOk (s : State) : Prop :=
  (s.line.nodes.map (·.address)).Pairwise (· < ·) ∧ (∀ d ∈ s.line.nodes, 1 ≤ d.address ∧ d.address ≤ 40) ∧
    (s.line.nodes.map (·.serial)).Nodup

/-! ### The Order Table (R158, R160) -/

/-- R158: two live orders share no tag, no coupling and no tank. -/
def OrdersDistinct (s : State) : Prop :=
  ∀ (i j : Fin 16) (o p : Order), s.orders.slots[i] = some o → s.orders.slots[j] = some p → i ≠ j →
    o.tag ≠ p.tag ∧ (∀ c, o.work.coupling? = some c → p.work.coupling? ≠ some c) ∧ ∀ k ∈ o.work.tanks, k ∉ p.work.tanks

/-- R160: the resource an order of each kind can need: the pump for a TRANSFER, the bunker meter for a BUNKER, and the face-winch pool or
none for a HAUL or RELEASE. -/
def Work.needs (r : Option Resource) : Work → Prop
  | .haul _ => r = none ∨ r = some .facePool
  | .release _ _ _ => r = none ∨ r = some .facePool
  | .transfer _ => r = some .pump
  | .bunker _ => r = some .bunkerMeter

/-- R157, R158, R160: live orders are distinct, a coupling that one names is in the Coupling Table, and the resource of each is that of
its kind. -/
def OrdersOk (s : State) : Prop :=
  OrdersDistinct s ∧ (∀ (i : Fin 16) (o : Order) (n : Nat), s.orders.slots[i] = some o → o.work.coupling? = some n →
    (s.coupling? n).isSome = true) ∧
    ∀ (i : Fin 16) (o : Order), s.orders.slots[i] = some o → o.work.needs o.resource

/-- R160: no arbiter has more places taken than it has: 2 for the face-winch pool, 1 for the pump, 1 for the bunker meter. -/
def PlacesOk (s : State) : Prop :=
  (s.placeHolders .facePool).length ≤ 2 ∧ (s.placeHolders .pump).length ≤ 1 ∧ (s.placeHolders .bunkerMeter).length ≤ 1

/-! ### The figures of the tow (R6, R22) -/

/-- R6, R22: the tonnage is the sum over the IN_TOW barges, its class follows the thresholds, and Ccap is the smallest value that
applies; nothing is left to settle. -/
def TowFiguresOk (s : State) : Prop :=
  s.quiet ∧ s.sup.tonnage = tonnageOf s.sup.barges ∧
    s.sup.tonnageClass = classOf s.settings.coupling s.sup.tonnage ∧ s.sup.ccap = s.ccapNow

/-! ### Propulsion (R66, R70) -/

/-- R60, R66: Le is the source lever, limited to the smaller cap, and astern to the astern limit. -/
def LeverOk (s : State) : Prop :=
  let l := if s.prop.latch then 0 else s.prop.lever
  let m := min (l.natAbs : Int) (min s.sup.ccap s.fuel.fcap)
  s.prop.le = if l < 0 then -(min m s.settings.engine.asternLimit) else m

/-- R88, R89: a dwell timer runs in DISENGAGING alone. -/
abbrev DwellOk (s : State) : Prop :=
  ∀ e : Fin 4, s.chans[e].dwellTimer ≠ none ∨ s.chans[e].dwellTimeout ≠ none → s.chans[e].gear = .disengaging

/-- R70: the demand of a present engine lies between its idle and its maximum speed, and is its idle speed in every gear state other than
AHEAD and ASTERN. With it stands that the dwell timers run in DISENGAGING alone, on which it rests at their ends. -/
def DemandOk (s : State) : Prop :=
  (∀ e : Fin 4, s.settings.engine.present[e] = 1 →
    s.settings.engine.idle[e] ≤ s.chans[e].demand ∧ s.chans[e].demand ≤ s.settings.engine.maxSpeed[e] ∧
      (s.chans[e].gear ≠ .ahead → s.chans[e].gear ≠ .astern → s.chans[e].demand = s.settings.engine.idle[e])) ∧
  DwellOk s

/-- R85, R86: the gear state that entry into NEUTRAL ends in: engaged or engaging in D where the mode is IN_USE, NEUTRAL otherwise. -/
def neutralOutcome (s : State) (e : Fin 4) (mode : EngineMode) (aheadFb asternFb : Bool) : Gear :=
  if s.settings.engine.present[e] = 1 ∧ mode = .inUse then
    if 0 < s.prop.le then (if aheadFb && !asternFb then .ahead else .engagingAhead)
    else if s.prop.le < 0 then (if asternFb && !aheadFb then .astern else .engagingAstern)
    else .neutral
  else .neutral

/-! ### Steering (R107, R114, R118) -/

/-- R107, R113, R114, R118: the targets of the present rudders, the trim T and the bow demand are those of the helm, the direction, the mode and
the gains as they stand. -/
def SteeringOk (s : State) : Prop :=
  let p := s.settings.steering
  let h := s.steer.helm
  let g := if s.steer.degraded then 2 * p.diffGain else p.diffGain
  let ahead := clamp (-200) 200 (roundHalfAway (h * g) 1000)
  (s.steer.trim = if s.prop.le = 0 ∨ (s.steer.mode = .rudder ∧ s.steer.degraded = false) then 0
    else if 0 < s.prop.le then ahead else -ahead) ∧
  (s.steer.bowDemand = if s.steer.mode = .full ∨ s.steer.degraded = true then
    clamp (-1000) 1000 (roundHalfAway (h * p.bowGain) 1000) else 0) ∧
  ∀ r : Fin 8, s.settings.rudderPresent r = true → s.steer.rudders[r].target =
    if r.val < 4 then roundHalfAway (h * p.maxSteering) 1000
    else if s.prop.le < 0 then roundHalfAway (-h * p.maxFlanking) 1000 else 0

/-! ### Fuel (R131) -/

/-- R131: what the law of the books keeps: the books and the consumption, less the bunkered total and the adjustments. -/
def fuelBalance (s : State) : Int :=
  s.fuel.tanks.toList.foldl (fun a k => a + k.book) 0 + s.fuel.consumption.toList.foldl (· + ·) 0 - s.fuel.bunkered -
    s.fuel.adjustments

/-- The accumulators stand far inside 64 bits, the interval counts and remainders inside their ranges (R123, R126). -/
def FuelBounded (s : State) : Prop :=
  (∀ k : Fin 8, 0 ≤ s.fuel.tanks[k].book ∧ s.fuel.tanks[k].book ≤ 2 ^ 60) ∧
    (∀ e : Fin 4, -(2 ^ 60) ≤ s.fuel.consumption[e] ∧ s.fuel.consumption[e] ≤ 2 ^ 60) ∧
    0 ≤ s.fuel.bunkered ∧ s.fuel.bunkered ≤ 2 ^ 60 ∧ -(2 ^ 60) ≤ s.fuel.adjustments ∧ s.fuel.adjustments ≤ 2 ^ 60 ∧
    ∀ m : Fin 10, s.fuel.meters[m].count ≤ 65535 ∧ 0 ≤ s.fuel.meters[m].remainder ∧ s.fuel.meters[m].remainder < 1000000

/-- R158: a live order names tanks 1 to 8 alone. -/
def OrderTanksOk (s : State) : Prop :=
  ∀ (i : Fin 16) (o : Order) (n : Nat), s.orders.slots[i] = some o → n ∈ o.work.tanks → 1 ≤ n ∧ n ≤ 8

end Sys2Proof.Machine
end

