-- ==== Sys2Proof/Certificates/Slice0/Obligations.lean ====
section
/-! DEFINITION. The statements for the provers. Each formalises what the manual's rules say a command or the whole machine does; where a
clause rests on a choice of the model, the docstring names the log entry. `s.answered a` is `s` with what the port answers (log entry 7). -/

open Sys2Proof Sys2Proof.Machine

/-! ## The Bridge Link -/

/-- Log entry 1, the model's choice: a step takes the command at the front of the queue and is the command's effect on the state with the
queue's rest; with nothing waiting the state stands. -/
def Obligations.StepRunsTheFrontCommand : Prop :=
  (∀ (c : Instr) (rest : List Instr) (s : State),
    step { s with pending := c :: rest } = exec c { s with pending := rest }) ∧
  ∀ s : State, step { s with pending := [] } = .next { s with pending := [] }

/-- Every command of the table, with every operand and in every state, ends in a next state: none faults and none is refused. The queue
of waiting commands is left alone (log entry 1, the model's choice). -/
def Obligations.EveryCommandCompletes : Prop :=
  ∀ (c : Instr) (s : State), ∃ t, exec c s = .next t ∧ t.pending = s.pending

/-- R183, R191: from a start's cause until the start, every output is released, the Barge Line not driven among them, and the Bridge Link
receives nothing. The causes bring the part down; of two causes of one start the first in R191's table is recorded. That no other command
but the voyage clock's second and a level at a pin changes anything meanwhile is the model's reading (log entry 24, DEDUCED); so are
START with no cause (log entry 23) and RESET_LINE joining a cause that came before it and waiting for its release (log entry 32). -/
def Obligations.DownPartWaitsForItsStart : Prop :=
  ∀ (s : State),
    (s.up = false →
      (∀ c : Instr, (match c with
          | .powerOn | .supplyDip | .resetLineAsserted | .resetLineReleased | .start _ | .voyageClockTick
          | .engineInputChange _ _ _ => True
          | _ => exec c s = .next s)) ∧
      s.attention = false ∧ s.pumpOn = false ∧ s.bunkerOpen = false ∧ (∀ r : Fin 8, s.valveOutput r = .none) ∧
      s.lineDriven = none ∧
      ∀ e : Fin 4, s.aheadClutch e = false ∧ s.asternClutch e = false ∧ s.governorHighUs e = 0) ∧
    (s.up = true → ∀ f, s.line.phase = .sending f → s.lineDriven = some f) ∧
    exec .powerOn s = .next { s with ctl := { s.ctl with coming := some .powerOn } } ∧
    exec .supplyDip s = .next { s with ctl := { s.ctl with
      coming := some (if s.ctl.coming = some .powerOn then .powerOn else .supplyDip) } } ∧
    exec .resetLineAsserted s = .next { s with ctl := { s.ctl with
      resetHeld := true,
      coming := some (match s.ctl.coming with
        | some .powerOn => .powerOn
        | some .supplyDip => .supplyDip
        | _ => .resetLine) } } ∧
    exec .resetLineReleased s = .next { s with ctl := { s.ctl with resetHeld := false } } ∧
    ∀ x, (s.ctl.coming = none ∨ s.ctl.resetHeld = true) → exec (.start x) s = .next s

/-- R182: ECHO carries a body of up to 240 bytes, is accepted in either command source with the same body, and changes nothing but the
answer: no timer, the silence timer included. -/
def Obligations.EchoReturnsItsBody : Prop :=
  ∀ (s : State) (body : List Byte), s.up = true → body.length ≤ 240 →
    exec (.echo body) s = .next (s.answered ⟨.accepted, body⟩)

/-- R180: a length above 64 is refused BAD_VALUE; 0 is taken as 24; otherwise the body is the first bytes of the snapshot of 24 bytes, or
the whole snapshot with zeros after it. R181: the three latched flags clear after the snapshot when the whole of it is returned, and no
flag clears when part of it is. The flags are clear after every start. R179, R201: the layout of the 24 bytes, figure by figure, for
every figure that fits its field; R120's T and bow demand have no place in it (log entry 40, the model's choice). -/
def Obligations.ReadStatusClearsWhatItShows : Prop :=
  (∀ (s : State) (n : Nat), s.up = true →
    s.snapshot.length = 24 ∧
    (64 < n → exec (.readStatus n) s = .next (s.answered ⟨.badValue, []⟩)) ∧
    (1 ≤ n ∧ n ≤ 23 → exec (.readStatus n) s = .next (s.answered ⟨.accepted, s.snapshot.take n⟩)) ∧
    (n = 0 ∨ 24 ≤ n ∧ n ≤ 64 → exec (.readStatus n) s = .next
      ({ s with port := { s.port with reportsLost := false, linkError := false, overrun := false } }.answered
        ⟨.accepted, s.snapshot ++ List.replicate (n - 24) 0⟩))) ∧
  (∀ (s : State),
    let num (i n : Nat) := natOf (field s.snapshot i n)
    let int (i n : Nat) := intOf (field s.snapshot i n)
    ((num 0 1).testBit 0 = true ↔ s.prop.source = .backup) ∧
    num 0 1 / 2 % 4 = (if 0 < s.prop.le then 1 else if s.prop.le < 0 then 2 else 0) ∧
    num 0 1 / 8 % 4 = (match s.line.state with | .up => 0 | .fault => 1 | .down => 2) ∧
    (num 0 1).testBit 5 = s.port.reportsLost ∧ (num 0 1).testBit 6 = s.port.linkError ∧ (num 0 1).testBit 7 = s.port.overrun ∧
    (-32768 ≤ s.prop.le ∧ s.prop.le ≤ 32767 → int 1 2 = s.prop.le) ∧
    (-32768 ≤ s.steer.helm ∧ s.steer.helm ≤ 32767 → int 3 2 = s.steer.helm) ∧
    (0 ≤ s.sup.ccap ∧ s.sup.ccap ≤ 65535 → (num 5 2 : Int) = s.sup.ccap) ∧
    (0 ≤ s.fuel.fcap ∧ s.fuel.fcap ≤ 65535 → (num 7 2 : Int) = s.fuel.fcap) ∧
    (∀ e : Fin 4, num 9 2 / 16 ^ (3 - e.val) % 16 = if s.settings.engine.present[e] = 1 then
      (match s.chans[e].gear with
        | .stopped => 0 | .neutral => 1 | .engagingAhead => 2 | .ahead => 3 | .engagingAstern => 4 | .astern => 5 | .disengaging => 6
        | .fault => 7) else 15) ∧
    (s.sup.couplings.length ≤ 32 →
      let among (l : List CouplingState) := (s.sup.couplings.filter fun c => c.state ∈ l).length
      num 11 3 / 64 ^ 3 = among [.fast] ∧ num 11 3 / 64 ^ 2 % 64 = among [.unconfirmed, .slack, .hauling, .releasing] ∧
        num 11 3 / 64 % 64 = among [.overload, .lost, .fault] ∧ num 11 3 % 64 = among [.released]) ∧
    (0 ≤ s.sup.tonnage ∧ s.sup.tonnage < 16777216 → (num 14 3 : Int) = s.sup.tonnage) ∧
    (s.port.queue.length ≤ 32 → num 17 1 = s.port.queue.length) ∧ num 18 1 = s.liveOrders.length ∧
    (num 19 1).testBit 0 = s.prop.latch ∧ ((num 19 1).testBit 1 = true ↔ s.prop.phase ≠ .normal) ∧
    (num 19 1).testBit 2 = s.prop.sync ∧
    ((num 19 1).testBit 3 = true ↔ ∃ e : Fin 4, s.settings.engine.present[e] = 1 ∧ s.chans[e].gear = .fault) ∧
    (num 19 1).testBit 4 = s.steer.degraded ∧ (num 19 1).testBit 5 = s.legs.current.pendingClose ∧
    (num 19 1).testBit 6 = !s.clock.isSet ∧ ((num 19 1).testBit 7 = true ↔ s.store.save ≠ none) ∧
    (s.legs.current.number < 4294967296 → num 20 4 = s.legs.current.number)) ∧
  ∀ (s : State) (x : StartInputs), s.ctl.coming ≠ none → s.ctl.resetHeld = false → ∃ t, exec (.start x) s = .next t ∧
    t.port.reportsLost = false ∧ t.port.linkError = false ∧ t.port.overrun = false

/-- R177: FETCH_REPORTS of 0 or above 8 is refused BAD_VALUE. Otherwise it takes reports in fetch order, the highest class first and
within a class the oldest first, until it has N, the queue is empty or the next in that order does not fit in 240 bytes, and what it
takes fits; they leave the queue, the rest keeps its order, and the body carries both counts and the reports. That the reports still
queued are an integer of 4 bytes, and so the head of the body 5, is the model's choice (log entry 11). -/
def Obligations.FetchTakesTheHighestClassFirst : Prop :=
  ∀ (s : State) (n : Nat), s.up = true →
    (n = 0 ∨ 9 ≤ n → exec (.fetchReports n) s = .next (s.answered ⟨.badValue, []⟩)) ∧
    (1 ≤ n ∧ n ≤ 8 → ∃ taken rest : List Report,
      exec (.fetchReports n) s = .next ({ s with port := { s.port with queue := rest } }.answered
        ⟨.accepted, unsigned 4 rest.length ++ unsigned 1 taken.length ++ taken.flatMap Report.bytes⟩) ∧
      (taken ++ rest).Perm s.port.queue ∧ rest.Sublist s.port.queue ∧ taken.length ≤ n ∧
      taken.Pairwise (fun a b => a.kind.cls ≤ b.kind.cls) ∧ (∀ a ∈ taken, ∀ b ∈ rest, a.kind.cls ≤ b.kind.cls) ∧
      (∀ k, taken.filter (·.kind.cls == k) <+: s.port.queue.filter (·.kind.cls == k)) ∧
      5 + (taken.flatMap Report.bytes).length ≤ 240 ∧
      (taken.length = n ∨ rest = [] ∨ ∃ r ∈ rest, (∀ q ∈ rest, r.kind.cls ≤ q.kind.cls) ∧
        (rest.filter (·.kind.cls == r.kind.cls)).head? = some r ∧
        240 < 5 + (taken.flatMap Report.bytes).length + r.bytes.length))

/-- R176: a CHANGE whose subject is queued replaces that report in its place, with the new stamp; otherwise a report joins a queue of
fewer than 32 as the newest; in a full queue the oldest report of the lowest class goes where that class is lower than the new report's,
and the new report is discarded where it is not, with REPORTS_LOST set. The queue holds no more than 32 reports, nor two CHANGEs of one
subject. -/
def Obligations.ReportsEnterTheQueueInSteps : Prop :=
  ∀ (s : State) (kind : ReportKind) (subject : Subject) (body : List Byte),
    let r : Report := ⟨kind, subject, s.clock, body⟩
    let q := s.port.queue
    let t := report kind subject body s
    let twin (x : Report) := kind = .change ∧ x.kind = .change ∧ x.subject = subject
    (∀ a x b, q = a ++ x :: b → twin x → (∀ y ∈ a, ¬twin y) → t = { s with port := { s.port with queue := a ++ r :: b } }) ∧
    ((∀ x ∈ q, ¬twin x) → q.length < 32 → t = { s with port := { s.port with queue := q ++ [r] } }) ∧
    ((∀ x ∈ q, ¬twin x) → 32 ≤ q.length →
      (∀ a x b, q = a ++ x :: b → kind.cls < x.kind.cls → (∀ y ∈ q, y.kind.cls ≤ x.kind.cls) → (∀ y ∈ a, y.kind.cls ≠ x.kind.cls) →
        t = { s with port := { s.port with queue := a ++ b ++ [r], reportsLost := true } }) ∧
      ((∀ x ∈ q, x.kind.cls ≤ kind.cls) → t = { s with port := { s.port with reportsLost := true } })) ∧
    (ReportQueueOk s → ReportQueueOk t)

/-- R176: the Report Queue never holds more than 32 reports, nor two CHANGE reports of the same subject, after any step from a state of
which this is true. R150: the Leg Log holds at most 12 closed legs in ascending leg number, all lower than the open leg's number, after
any step, given that the checkpoint that a start restores holds its legs so as well. -/
def Obligations.QueueAndLegLogStayBounded : Prop :=
  (∀ s t : State, ReportQueueOk s → step s = .next t → ReportQueueOk t) ∧
  (∀ s t : State, LegLogOk s → step s = .next t → LegLogOk t)

/-- R10, R54, R75, R97, R120, R142, R143, R154, R169: these requests change nothing but the answer (and, log entry 5, the model's counter
of free readings of timers). Each is refused for what its rule names, and its body begins as the rule gives; widths and numbers that the
layout chapter leaves open are those of log entry 11. -/
def Obligations.ReadsChangeNothing : Prop :=
  ∀ (s : State) (n : Nat), s.up = true →
    let reads (c : Instr) (k : Nat) (start : List Byte) := ∃ more,
      exec c s = .next ({ s with readings := s.readings + k }.answered ⟨.accepted, start ++ more⟩)
    let refused (c : Instr) (why : Status) := exec c s = .next (s.answered ⟨why, []⟩)
    reads .readPropulsion 0 (unsigned 1 s.prop.source.code ++ unsigned 1 s.prop.phase.code ++ yesNo s.prop.latch ++
      signed 2 s.prop.lever ++ signed 2 s.prop.sourceLever ++ signed 2 s.prop.le) ∧
    reads .readSteering 0 (unsigned 1 s.prop.source.code ++ signed 2 s.steer.helm ++ unsigned 1 s.steer.mode.code) ∧
    reads .listMakeup 0 (unsigned 1 s.sup.barges.length) ∧
    (∀ e : Fin 4, n = e.val + 1 →
      let p := s.settings.engine
      let c := s.chans[e]
      (p.present[e] = 1 → reads (.readEngine n) 5 (yesNo true ++ unsigned 1 p.side[e].toNat ++ signed 2 p.idle[e] ++
        signed 2 p.maxSpeed[e] ++ unsigned 2 p.ppr[e].toNat ++ unsigned 1 c.mode.code ++ unsigned 1 c.gear.code ++
        unsigned 1 c.fault.code ++ yesNo c.follow)) ∧
      (p.present[e] ≠ 1 → reads (.readEngine n) 5 (List.replicate 8 0 ++ unsigned 1 c.mode.code ++ List.replicate 43 0))) ∧
    (n < 1 ∨ 4 < n → refused (.readEngine n) .badValue) ∧
    (1 ≤ n ∧ n ≤ 40 → reads (.listNodes n) 0 (unsigned 1 s.line.state.code ++ unsigned 4 s.line.nodes.length)) ∧
    (n < 1 ∨ 40 < n → refused (.listNodes n) .badValue) ∧
    (n ≤ 15 → reads (.listOrders n) 16 (s.arbiterBytes .facePool ++ s.arbiterBytes .pump ++ s.arbiterBytes .bunkerMeter ++
      unsigned 4 s.liveOrders.length ++ unsigned 2 s.prop.le.natAbs ++ unsigned 2 s.settings.coupling.releaseLimit.toNat)) ∧
    (15 < n → refused (.listOrders n) .badValue) ∧
    (∀ k : Fin 8, n = k.val + 1 →
      (s.settings.fuel.tankPresent[k] = 1 → reads (.readTank n) 0 (unsigned 1 n ++ unsigned 1 s.settings.fuel.role[k].toNat ++
        unsigned 4 s.settings.fuel.capacityL[k].toNat ++ unsigned 4 s.settings.fuel.lowLevelL[k].toNat ++
        signed 8 s.fuel.tanks[k].book)) ∧
      (s.settings.fuel.tankPresent[k] ≠ 1 → refused (.readTank n) .noSuch)) ∧
    (n < 1 ∨ 8 < n → refused (.readTank n) .badValue) ∧
    (
      let meter (m : Fin 10) := unsigned 4 s.settings.fuel.meterK[m].toNat ++ unsigned 2 s.fuel.meters[m].lastCount ++
        signed 8 s.fuel.meters[m].lastVolume ++ signed 8 s.fuel.meters[m].remainder ++ unsigned 2 s.fuel.meters[m].count
      (n = 1 → reads (.readMeters n) 0 (meter 0 ++ meter 1 ++ meter 2 ++ meter 3 ++ meter 4)) ∧
      (n = 2 → reads (.readMeters n) 0 (meter 5 ++ meter 6 ++ meter 7 ++ meter 8 ++ meter 9)) ∧
      (n = 3 → reads (.readMeters n) 0 (optional 2 (signed 2) s.fuel.meters[(0 : Fin 10)].reading)) ∧
      (n = 4 → reads (.readMeters n) 0 (signed 8 s.fuel.lastNet[(0 : Fin 4)] ++ signed 8 s.fuel.consumption[(0 : Fin 4)]))) ∧
    (n < 1 ∨ 4 < n → refused (.readMeters n) .badValue) ∧
    (n = 0 ∨ n = s.legs.current.number → reads (.readLeg n) 0 (unsigned 4 s.legs.current.number)) ∧
    (n ≠ 0 → n ≠ s.legs.current.number →
      (∀ c ∈ s.legs.log, c.leg.number = n → reads (.readLeg n) 0 (unsigned 4 n)) ∧
      ((∀ c ∈ s.legs.log, c.leg.number ≠ n) → refused (.readLeg n) .noSuch))

/-- R186: READ_SETTING of what names no setting is refused BAD_VALUE; otherwise the reply returns the working value, the built-in
default, the lowest and highest values of the range and the unsaved mark, and nothing changes. R185: WRITE_SETTING of what names no
setting is BAD_VALUE; an ENGINE write with a present engine out of NEUTRAL and STOPPED, and a STEERING write with Le or the helm not 0,
NOT_NOW; a value out of range or against a constraint BAD_VALUE. Otherwise the working value is replaced, no other setting changes, the
section is marked unsaved, and the reply carries the old and the new value. -/
def Obligations.SettingsAreReadAndWritten : Prop :=
  (∀ (s : State) (sec num idx : Nat), s.up = true →
    (sec = 0 ∨ 6 ≤ sec → exec (.readSetting sec num idx) s = .next (s.answered ⟨.badValue, []⟩)) ∧
    ∀ c, Sec.ofNat? sec = some c →
      (s.settings.get c num idx = none → exec (.readSetting sec num idx) s = .next (s.answered ⟨.badValue, []⟩)) ∧
      ∀ v, s.settings.get c num idx = some v → ∃ d, Settings.defaults.get c num idx = some d ∧
        exec (.readSetting sec num idx) s = .next (s.answered ⟨.accepted, signed 4 v ++ signed 4 d ++
          signed 4 (settingRange c num).1 ++ signed 4 (settingRange c num).2 ++ yesNo (c.pick s.store.unsaved)⟩)) ∧
  (∀ (s : State) (sec num idx : Nat) (v : Int), s.up = true → s.quiet →
    let cmd := exec (.writeSetting sec num idx v) s
    (s.settingNamed sec num idx = none → cmd = .next (s.answered ⟨.badValue, []⟩)) ∧
    ∀ c old, Sec.ofNat? sec = some c → s.settings.get c num idx = some old →
      let blocked :=
        (c = .engine ∧ ∃ e : Fin 4, s.settings.engine.present[e] = 1 ∧ s.chans[e].gear ≠ .neutral ∧ s.chans[e].gear ≠ .stopped) ∨
        (c = .steering ∧ (s.prop.le ≠ 0 ∨ s.steer.helm ≠ 0))
      let outside := v < (settingRange c num).1 ∨ (settingRange c num).2 < v ∨
        (c = .steering ∧ num = 10 ∧ v % 100 ≠ 0) ∨ (s.settings.put c num idx v).consistent c = false
      (blocked → cmd = .next (s.answered ⟨.notNow, []⟩)) ∧
      (¬blocked ∧ outside → cmd = .next (s.answered ⟨.badValue, []⟩)) ∧
      (¬blocked ∧ ¬outside ∧ (c ≠ .fuel ∨ num < 3 ∨ 6 < num ∨ v = old) → ∃ t, cmd = .next t ∧
        t.port.answer = some ⟨.accepted, signed 4 old ++ signed 4 v⟩ ∧ t.settings = s.settings.put c num idx v ∧
        t.settings.get c num idx = some v ∧ (∀ d m i, (d, m, i) ≠ (c, num, idx) → t.settings.get d m i = s.settings.get d m i) ∧
        t.store.unsaved = c.put s.store.unsaved true ∧ t.store.image = s.store.image ∧ t.ctl = s.ctl ∧ t.clock = s.clock ∧
        (c = .backup → t = { s with store := t.store, port := t.port } ∧ t.port = (s.answered ⟨.accepted, signed 4 old ++ signed 4 v⟩).port)))

/-- R171, R172, R174, R197, R198: a frame with a good CRC, sent to a hunting receiver with no request in hand, does what its request
does, and its reply is in hand with the kind and the mark. This holds of every kind of R198, with its body as R198 lays it out, at each
length the kind allows; a length it does not allow is BAD_LENGTH, and a kind that is none of them UNKNOWN_REQUEST, with no owner reached.
The kind of a reply has its top bit set, also where the request's has it already. -/
def Obligations.FramesCarryTheirRequests : Prop :=
  (∀ (s : State) (mark : Byte) (body : List Byte), s.up = true → s.port.inHand = none → s.port.receiving = [] → body.length ≤ 240 →
    let framed (kind : Nat) : List Byte :=
      let inner := bytesOf 1 body.length ++ [BitVec.ofNat 8 kind, mark] ++ body
      0xA5#8 :: inner ++ bytesOf 2 (crc16 inner).toNat
    let does (kind : Nat) (c : Instr) := ∃ t a, exec c s = .next t ∧ t.port.answer = some a ∧
      exec (.bridgeFrameReceived (framed kind)) s = .next { t with port := { t.port with inHand := some ⟨kind, mark, a⟩ } }
    let turnedAway (kind : Nat) (why : Status) := exec (.bridgeFrameReceived (framed kind)) s =
      .next { s with port := { s.port with inHand := some ⟨kind, mark, ⟨why, []⟩⟩, answer := some ⟨why, []⟩ } }
    let u (i n : Nat) := natOf (field body i n)
    let z (i n : Nat) := intOf (field body i n)
    let size := body.length
    let order : OrderSpec :=
      if u 2 1 = 1 ∧ size = 4 then .haul (u 3 1)
      else if u 2 1 = 2 ∧ size = 5 then .release (u 3 1) (u 4 1)
      else if u 2 1 = 3 ∧ size = 9 then .transfer (u 3 1) (u 4 1) (u 5 4)
      else if u 2 1 = 4 ∧ size = 4 then .bunker (u 3 1)
      else .malformed
    let kinds : List (Nat × List Nat × Instr) :=
      [(0x01, List.range 241, .echo body), (0x02, [1], .readStatus (u 0 1)), (0x03, [1], .fetchReports (u 0 1)), (0x04, [0], .restart),
        (0x10, [2], .setLever (z 0 2)), (0x11, [2], .setHelm (z 0 2)), (0x12, [1], .setSteerMode (u 0 1)),
        (0x13, [5], .setEngineModes (u 0 1) (u 1 1) (u 2 1) (u 3 1) (u 4 1)), (0x14, [1], .setSync (u 0 1)), (0x15, [0], .readPropulsion),
        (0x16, [1], .readEngine (u 0 1)), (0x17, [0], .readSteering),
        (0x20, [9, 13], .declareBarge (posOf (u 0 1)) (u 1 4) (u 5 2) (u 7 2) (if size = 13 then some (u 9 4) else none)),
        (0x21, [1], .removeBarge (posOf (u 0 1))),
        (0x22, [10], .declareCoupling (u 0 1) (endOf (u 1 1)) (endOf (u 2 1)) (u 3 4) (u 7 1) (u 8 1) (u 9 1)),
        (0x23, [1], .withdrawCoupling (u 0 1)), (0x24, [1], .readBarge (posOf (u 0 1))), (0x25, [1], .readCoupling (u 0 1)),
        (0x26, [0], .listMakeup), (0x28, [4], .readNode (u 0 4)), (0x29, [1], .listNodes (u 0 1)), (0x2A, [4], .forgetNode (u 0 4)),
        (0x30, [4, 5, 9], .postOrder (u 0 2) order), (0x31, [2], .abortOrder (u 0 2)), (0x32, [1], .listOrders (u 0 1)),
        (0x38, [5], .setSounding (u 0 1) (u 1 4)), (0x39, [1], .readTank (u 0 1)), (0x3A, [1], .readMeters (u 0 1)),
        (0x40, [4], .closeLeg (u 0 4)), (0x41, [4], .readLeg (u 0 4)), (0x42, [4], .releaseLeg (u 0 4)),
        (0x43, [4], .setVoyageClock (u 0 4)), (0x48, [7], .writeSetting (u 0 1) (u 1 1) (u 2 1) (z 3 4)),
        (0x49, [3], .readSetting (u 0 1) (u 1 1) (u 2 1)), (0x4A, [5], .saveSettings ⟨u 0 1, u 1 1, u 2 1, u 3 1, u 4 1⟩)]
    (∀ x ∈ kinds, (size ∈ x.2.1 → does x.1 x.2.2) ∧ (size ∉ x.2.1 → turnedAway x.1 .badLength)) ∧
    ∀ kind, kind ≤ 255 → kind ∉ kinds.map (·.1) → turnedAway kind .unknownRequest) ∧
  ∀ (r : Reply), r.kind ≤ 255 → r.answer.body.length ≤ 240 →
    r.bytes.take 5 = [0xA5, BitVec.ofNat 8 r.answer.body.length, BitVec.ofNat 8 (if r.kind < 128 then r.kind + 128 else r.kind), r.mark,
      BitVec.ofNat 8 r.answer.status.code]

/-- R172: while hunting, the receiver discards every byte but 0xA5; a start byte opens a frame, of which it holds the bytes that have
arrived; bytes may come in any number of parts. A length above 240 drops the frame with LINK_ERROR, and so do a CRC that does not check,
and inside a frame a gap and a bad byte; while hunting neither of these changes anything. R173: a good frame that comes while a request
is in hand is buffered, not acted on; a third is dropped and OVERRUN set. When a reply has been sent, the buffered frame is handled,
whatever the receiver holds, or the port has no request in hand. That the row's bytes come whole and without a gap is the model's form of
it (log entry 12). -/
def Obligations.PortTakesFramesInOrder : Prop :=
  ∀ (s : State) (bytes : List Byte), s.up = true →
    let frame (bs : List Byte) := exec (.bridgeFrameReceived bs) s
    let dropped : State := { s with port := { s.port with receiving := [], linkError := true } }
    (s.port.receiving = [] →
      (∀ junk : List Byte, (∀ b ∈ junk, b ≠ 0xA5#8) → frame (junk ++ bytes) = frame bytes ∧ frame junk = .next s) ∧
      (∀ f, readRequestFrame bytes = some f →
        (∀ a b, bytes = a ++ b → b ≠ [] → frame a = .next { s with port := { s.port with receiving := a } }) ∧
        (s.port.inHand ≠ none → s.port.buffer = none → frame bytes = .next { s with port := { s.port with buffer := some f } }) ∧
        (s.port.inHand ≠ none → s.port.buffer ≠ none → frame bytes = .next { s with port := { s.port with overrun := true } })) ∧
      (∀ len rest, bytes = 0xA5#8 :: len :: rest → len.toNat ≤ 240 → rest.length = len.toNat + 4 → readRequestFrame bytes = none →
        frame bytes = .next dropped) ∧
      (∀ len : Byte, 240 < len.toNat → frame [0xA5#8, len] = .next dropped) ∧
      exec .bridgeByteGap s = .next s ∧ exec .bridgeByteFault s = .next s) ∧
    (s.port.receiving ≠ [] → exec .bridgeByteGap s = .next dropped ∧ exec .bridgeByteFault s = .next dropped) ∧
    (∀ more t, frame bytes = .next t → frame (bytes ++ more) = exec (.bridgeFrameReceived more) t) ∧
    ∀ r, s.port.inHand = some r → ¬(r.kind = 0x04 ∧ r.answer.status = .accepted) →
      (s.port.buffer = none → exec .replySent s = .next { s with port := { s.port with inHand := none } }) ∧
      (∀ f, s.port.buffer = some f → readRequestFrame bytes = some f → ∃ t,
        exec (.bridgeFrameReceived bytes) { s with port := { s.port with inHand := none, buffer := none, receiving := [] } } = .next t ∧
        exec .replySent s = .next { t with port := { t.port with receiving := s.port.receiving } })

/-! ## Settings and Start-Up -/

/-- R185, R193: every working value stays in its range and within the constraints of its section: a write that breaks one is refused, and
a start takes no section that breaks one. -/
def Obligations.SettingsStayValid : Prop := ∀ s t : State, SettingsOk s → step s = .next t → SettingsOk t

/-- R187: SAVE_SETTINGS with a choice that is none is BAD_VALUE, with a save in flight NOT_NOW; otherwise a save with a section to write
is in flight with a snapshot of the working values, and a save of five KEEPs only reports. R188: at completion each written section holds
its marker and its values, its unsaved mark clears where it was written APPLY with a clean read-back and no write since, and
SETTINGS_SAVED is queued. That a FAILED section keeps its mark is the model's reading (log entry 55, DEDUCED). -/
def Obligations.SaveWritesItsSnapshot : Prop :=
  ∀ (s : State) (n : PerSection Nat), s.up = true →
    let bad := ∃ c : Sec, 2 < c.pick n
    let kept := ∀ c : Sec, c.pick n = 0
    let cmd := exec (.saveSettings n) s
    let reply : Answer := ⟨.accepted, unsigned 1 n.engine ++ unsigned 1 n.steering ++ unsigned 1 n.coupling ++ unsigned 1 n.fuel ++
      unsigned 1 n.backup⟩
    (bad → cmd = .next (s.answered ⟨.badValue, []⟩)) ∧
    (¬bad → s.store.save ≠ none → cmd = .next (s.answered ⟨.notNow, []⟩)) ∧
    (¬bad → s.store.save = none → ¬kept → ∃ j, cmd = .next ({ s with store := { s.store with save := some j } }.answered reply) ∧
      j.snapshot = s.settings ∧ (∀ c : Sec, c.pick j.touched = false) ∧
      ∀ c : Sec, c.pick j.choices = (if c.pick n = 0 then .keep else if c.pick n = 1 then .apply else .default)) ∧
    (¬bad → s.store.save = none → kept →
      cmd = .next ((report .settingsSaved .nothing [1, 1, 1, 1, 1] s).answered reply)) ∧
    ∀ j (differs : PerSection Bool), s.store.save = some j → ∃ t, exec (.saveComplete differs) s = .next t ∧
      t = { s with store := t.store, port := t.port } ∧ t.store.save = none ∧ t.store.working = s.store.working ∧
      t.port = (report .settingsSaved .nothing (Sec.all.map fun c =>
        if c.pick j.choices = .keep then 1 else if c.pick differs then 3 else 2) s).port ∧
      ∀ c : Sec,
        (c.pick j.choices = .keep → c.pick t.store.image = c.pick s.store.image) ∧
        (c.pick j.choices = .apply → c.pick t.store.image = ⟨!c.pick differs, .apply, j.snapshot⟩) ∧
        (c.pick j.choices = .default → (c.pick t.store.image).good = !c.pick differs ∧ (c.pick t.store.image).marker = .default) ∧
        c.pick t.store.unsaved = (c.pick s.store.unsaved &&
          !(decide (c.pick j.choices = .apply) && !c.pick differs && !c.pick j.touched))

/-- R190: the checkpoint period asks for a write: it starts with a snapshot in IDLE, and sets the due mark in WRITING; at completion the
record holds the snapshot and a due write follows at once. R192: RESTART is NOT_NOW while a save is in flight; otherwise its final write
starts, or follows the write in flight in place of a due one; its reply is held until then, and the part goes down when the reply has
been sent. What changes after the final snapshot is not in the record: with the final write complete no further one starts, and an ask
then only sets the due mark (log entry 18). A RESTART that comes as a direct command has the mark 0 (log entry 7, the model's choice). -/
def Obligations.RestartFollowsItsFinalWrite : Prop :=
  ∀ (s : State), s.up = true → s.quiet →
    let done (r : Record) := { s.ckpt with record := r, good := true, writing := none }
    (s.ckpt.writing = none → s.ctl.restart ≠ .sendingReply →
      exec .checkpointPeriodExpiry s = .next { s with ckpt := { s.ckpt with writing := some s.snapshotRecord } }) ∧
    (s.ckpt.writing ≠ none ∨ s.ctl.restart = .sendingReply → exec .checkpointPeriodExpiry s = .next { s with ckpt := { s.ckpt with due := true } }) ∧
    (∀ r, s.ckpt.writing = some r → s.ctl.restart = .none →
      (s.ckpt.due = false → exec .checkpointWriteComplete s = .next { s with ckpt := done r }) ∧
      (s.ckpt.due = true → exec .checkpointWriteComplete s = .next { s with ckpt := { done r with
        writing := some s.snapshotRecord, due := false } })) ∧
    (s.store.save ≠ none → exec .restart s = .next (s.answered ⟨.notNow, []⟩)) ∧
    (s.store.save = none → s.port.inHand = none →
      let held (t : State) : State := { t with port := { t.port with
        inHand := some ⟨0x04, 0, ⟨.accepted, []⟩⟩, answer := some ⟨.accepted, []⟩ } }
      (s.ckpt.writing = none → exec .restart s = .next (held { s with
        ckpt := { s.ckpt with writing := some s.snapshotRecord }, ctl := { s.ctl with restart := .finalWrite } })) ∧
      (s.ckpt.writing ≠ none → exec .restart s = .next (held { s with ctl := { s.ctl with restart := .awaitingWrite } }))) ∧
    (∀ r, s.ckpt.writing = some r → s.ctl.restart = .awaitingWrite → exec .checkpointWriteComplete s = .next { s with
      ckpt := { done r with writing := some s.snapshotRecord, due := false }, ctl := { s.ctl with restart := .finalWrite } }) ∧
    (∀ r, s.ckpt.writing = some r → s.ctl.restart = .finalWrite →
      exec .checkpointWriteComplete s = .next { s with ckpt := done r, ctl := { s.ctl with restart := .sendingReply } }) ∧
    ∀ m, s.port.inHand = some ⟨0x04, m, ⟨.accepted, []⟩⟩ →
      (s.ctl.restart = .sendingReply →
        exec .replySent s = .next { s with ctl := { s.ctl with coming := some .restart } }) ∧
      (s.ctl.restart ≠ .sendingReply → exec .replySent s = .next s)

/-- R191 to R195, R183, R78, R56, R100, R122, R156, R170: a start, its reset line released. The receiver is hunting and the report queue
holds START alone; each section is loaded whole, or takes its built-in defaults; the clock is kept or set to 0 by the cause; a record
that checks is restored, every coupling UNCONFIRMED, and one that does not is replaced; lever, helm, trim, bow demand and sync trims are
0 and no node is known and no order live. R188: a save in flight ends: sections already written hold their new content, the one being
written fails its CRC, and those not reached keep their old. A start cut by any number of sections is an operand of START (log entry 15,
the model's choice). -/
def Obligations.StartBringsThePartUp : Prop :=
  ∀ (s : State) (x : StartInputs) (cause : StartCause), s.ctl.coming = some cause → s.ctl.resetHeld = false →
    ∃ t, exec (.start x) s = .next t ∧ t.up = true ∧ t.ctl.cause = cause ∧ t.ctl.restart = .none ∧
      (cause = .powerOn ∨ cause = .supplyDip → t.clock = ⟨0, false⟩) ∧ (cause = .resetLine ∨ cause = .restart → t.clock = s.clock) ∧
      (∀ c : Sec, ∃ x' : StoredSection,
        let before (j : SaveJob) := ((Sec.all.takeWhile (· != c)).filter fun d => d.pick j.choices != .keep).length
        (s.store.save = none → x' = c.pick s.store.image) ∧
        (∀ j, s.store.save = some j →
          (c.pick j.choices = .keep ∨ x.sectionsWritten < before j → x' = c.pick s.store.image) ∧
          (c.pick j.choices ≠ .keep → x.sectionsWritten = before j → x'.good = false) ∧
          (c.pick j.choices = .apply → before j < x.sectionsWritten → x' = ⟨true, .apply, j.snapshot⟩) ∧
          (c.pick j.choices = .default → before j < x.sectionsWritten → x'.good = true ∧ x'.marker = .default)) ∧
        c.pick t.store.image = { x' with good := x'.good && !c.pick x.worn } ∧
        let loaded := x'.good = true ∧ c.pick x.worn = false ∧ x'.marker = .apply ∧ x'.values.valid c = true
        (loaded → ∀ m i, t.settings.get c m i = x'.values.get c m i) ∧
        (¬loaded → ∀ m i, t.settings.get c m i = Settings.defaults.get c m i) ∧ c.pick t.store.unsaved = false) ∧
      t.store.save = none ∧
      t.port.receiving = [] ∧ t.port.inHand = none ∧ t.port.buffer = none ∧ t.port.reportsLost = false ∧ t.port.linkError = false ∧ t.port.overrun = false ∧
      (∃ r, t.port.queue = [r] ∧ r.kind = .started ∧ r.subject = .nothing ∧ r.stamp = t.clock ∧ t.attention = true) ∧
      t.prop.source = (if x.takeoverBackup then .backup else .bridge) ∧ t.prop.lever = 0 ∧ t.prop.latch = true ∧ t.prop.le = 0 ∧
      t.prop.phase = .normal ∧ t.prop.sync = false ∧ t.steer.helm = 0 ∧ t.steer.mode = .rudderDiff ∧ t.steer.degraded = false ∧
      t.steer.trim = 0 ∧ t.steer.bowDemand = 0 ∧ (∀ e : Fin 4, t.chans[e].trim = 0) ∧
      (∀ e : Fin 4, t.settings.engine.present[e] = 1 → t.chans[e].mode = .inUse ∧ t.chans[e].fault = .none ∧
        t.chans[e].demand = t.settings.engine.idle[e] ∧ t.chans[e].gear = (if s.chans[e].running.raw then .neutral else .stopped)) ∧
      t.line.state = .up ∧ t.line.phase = .sending .lineReset ∧ t.line.nodes = [] ∧ t.line.handshake = none ∧ t.liveOrders = [] ∧
      (∀ c ∈ t.sup.couplings, c.state = .unconfirmed ∧ c.changed = true ∧ c.flags = none ∧ c.command = .none) ∧
      (s.ckpt.good = true → s.ckpt.writing = none → t.legs = s.ckpt.record.legs ∧ t.ckpt.good = true ∧ t.ckpt.writing = none ∧
        t.sup.couplings.map (·.number) = s.ckpt.record.couplings.map (·.number) ∧
        t.sup.barges.map (fun b => (b.pos, b.state)) = s.ckpt.record.barges.map (fun b => (b.pos, b.state)) ∧
        t.fuel.bunkered = s.ckpt.record.bunkered ∧ t.fuel.consumption = s.ckpt.record.consumption ∧
        ∀ k : Fin 8, t.settings.fuel.tankPresent[k] = 1 → t.fuel.tanks[k].book = (s.ckpt.record.books[k]).getD 0) ∧
      (s.ckpt.good = false ∨ s.ckpt.writing ≠ none → t.legs = .fresh t.clock ∧ t.sup.barges = [] ∧ t.sup.couplings = [] ∧
        t.ckpt.good = false ∧ t.ckpt.writing ≠ none ∧ t.fuel.bunkered = 0 ∧ ∀ k : Fin 8, t.fuel.tanks[k].book = 0)

/-- The frame of the whole machine, from the rules that name what changes each figure (R61, R63, R57, R73, R102, R104, R131, R155, R173,
R185, R187, R190, R191): a command that is no writer of a figure leaves it. A request frame and the sending of a reply may run any
request, and a start sets everything. R4, R5, R8, R9, R43, R157: which barges, couplings, nodes and orders stand in the tables changes by
their own commands alone. With nothing left to settle, the tables, the Order Table, the open leg and the Leg Log change only where R17 to
R28, R67, R148 to R153 and R159 to R168 name the event; the events that can change a coupling or Le reach all of these through the
holding analysis and the re-test. -/
def Obligations.EachFigureHasItsWriters : Prop :=
  (∀ (c : Instr) (s t : State), exec c s = .next t →
    (match c with
      | .bridgeFrameReceived _ | .replySent | .start _ => True
      | _ =>
        (match c with
          | .writeSetting _ _ _ _ => True
          | _ => t.store.working = s.store.working) ∧
        (match c with
          | .writeSetting _ _ _ _ | .saveComplete _ => True
          | _ => t.store.unsaved = s.store.unsaved) ∧
        (match c with
          | .saveComplete _ => True
          | _ => t.store.image = s.store.image) ∧
        (match c with
          | .setVoyageClock _ | .voyageClockTick => True
          | _ => t.clock = s.clock) ∧
        (match c with
          | .checkpointWriteComplete => True
          | _ => t.ckpt.record = s.ckpt.record ∧ t.ckpt.good = s.ckpt.good) ∧
        (match c with
          | .restart => True
          | _ => t.port.inHand = s.port.inHand) ∧ t.port.buffer = s.port.buffer ∧
        t.ctl.cause = s.ctl.cause ∧
        (match c with
          | .setLever _ | .controlPeriodExpiry _ _ _ | .silenceLimitExpiry | .holdTimeExpiry => True
          | _ => t.prop.lever = s.prop.lever) ∧
        (match c with
          | .setHelm _ | .controlPeriodExpiry _ _ _ | .silenceLimitExpiry | .holdTimeExpiry => True
          | _ => t.steer.helm = s.steer.helm) ∧
        (match c with
          | .setSteerMode _ => True
          | _ => t.steer.mode = s.steer.mode) ∧
        (match c with
          | .setSync _ => True
          | _ => t.prop.sync = s.prop.sync) ∧
        (match c with
          | .controlPeriodExpiry _ _ _ => True
          | _ => t.prop.source = s.prop.source) ∧
        (match c with
          | .setSounding _ _ | .accountingIntervalExpiry _ | .writeSetting _ _ _ _ => True
          | _ => (∀ k : Fin 8, t.fuel.tanks[k] = s.fuel.tanks[k]) ∧ t.fuel.consumption = s.fuel.consumption ∧
            t.fuel.bunkered = s.fuel.bunkered ∧ t.fuel.adjustments = s.fuel.adjustments) ∧
        (match c with
          | .accountingIntervalExpiry _ | .meterPulse _ => True
          | _ => t.fuel.meters = s.fuel.meters) ∧
        (match c with
          | .declareBarge _ _ _ _ _ | .removeBarge _ => True
          | _ => t.sup.barges.map (fun b => (b.pos, b.hull, b.light, b.cargo, b.bow)) =
              s.sup.barges.map fun b => (b.pos, b.hull, b.light, b.cargo, b.bow)) ∧
        (match c with
          | .declareCoupling _ _ _ _ _ _ _ | .withdrawCoupling _ | .removeBarge _ => True
          | _ => t.sup.couplings.map (fun k => (k.number, k.endA, k.endB, k.serial, k.channel, k.winchAtB, k.cls)) =
              s.sup.couplings.map fun k => (k.number, k.endA, k.endB, k.serial, k.channel, k.winchAtB, k.cls)) ∧
        (match c with
          | .forgetNode _ | .masterFrameSent | .echoFailure | .bargeFrameReceived _ _ | .bargeFrameSilence | .replyWindowExpiry => True
          | _ => t.line.nodes.map (fun d => (d.serial, d.address)) = s.line.nodes.map fun d => (d.serial, d.address)) ∧
        (match c with
          | .postOrder _ _ => True
          | _ => ∀ x ∈ t.liveOrders, ∃ y ∈ s.liveOrders, y.1 = x.1 ∧ y.2.tag = x.2.tag))) ∧
  ∀ (c : Instr) (s t : State), s.quiet → exec c s = .next t →
    (match c with
      | .bridgeFrameReceived _ | .replySent | .start _ => True
      | .setLever _ | .controlPeriodExpiry _ _ _ | .silenceLimitExpiry | .holdTimeExpiry | .setSounding _ _ | .writeSetting _ _ _ _
      | .accountingIntervalExpiry _ | .postOrder _ _ | .abortOrder _ | .haulTimerExpiry _ | .releaseTimerExpiry _
      | .releaseWaitExpiry _ => t.line.nodes = s.line.nodes
      | .declareBarge _ _ _ _ _ | .removeBarge _ | .declareCoupling _ _ _ _ _ _ _ | .withdrawCoupling _ | .masterFrameSent | .echoFailure
      | .rejoinTimerExpiry _ | .replyWindowExpiry | .bargeFrameReceived _ _ | .bargeFrameSilence => True
      | _ =>
        (match c with
          | .readBarge _ => True
          | _ => t.sup.barges = s.sup.barges) ∧
        (match c with
          | .readCoupling _ => True
          | _ => t.sup.couplings = s.sup.couplings) ∧
        (match c with
          | .readNode _ | .forgetNode _ => True
          | _ => t.line.nodes = s.line.nodes) ∧
        (match c with
          | .closeLeg _ | .releaseLeg _ => True
          | _ => t.legs.log = s.legs.log ∧ (match c with | .logPulse => True | _ => t.legs.current = s.legs.current)) ∧
        t.orders = s.orders)

/-! ## The Barge Line -/

/-- R45, R46, R47: at the end of the turnaround the walk polls the record with the lowest address it has still to reach among those that
are ACTIVE, SILENT or DEPARTING, a winch with the command of each of its channels and a bow unit with the demand the Steering Controller
gives; with none left it fills the joining slot, with the pending handshake or an invitation (R41, R44). No repoll is earned. R35: the
first character of a reply within the window turns the wait into a reception. R36, R38: 500 ms after a failure in FAULT, and R37: every 5
s in DOWN, the master sends LINE_RESET. R38: a rejoin timer that runs out on a JOINING record makes it LOST, or DEPARTED when it carries
a departure mark. -/
def Obligations.LineTimersAndTurnsSendFrames : Prop :=
  (∀ (s : State), s.up = true → NodesOk s → s.line.phase = .turnaround → s.line.repoll = none →
    let due (d : Node) := s.line.walk ≤ d.address ∧ (d.state = .active ∨ d.state = .silent ∨ d.state = .departing)
    (∀ d ∈ s.line.nodes, due d → (∀ e ∈ s.line.nodes, due e → d.address ≤ e.address) →
      ∃ t, exec .turnaroundExpiry s = .next t ∧ t = { s with line := t.line, steer := t.steer } ∧
        (d.kind = .winch → t = { s with line := { s.line with
          walk := d.address + 1, repoll := none, phase := .sending (.pollWinch d.address d.serial
            (s.channelCommand d.serial 1 :: if d.abilities.dual then [s.channelCommand d.serial 2] else []) false) } }) ∧
        (d.kind = .bow → t.line = { s.line with
          walk := d.address + 1, repoll := none,
          phase := .sending (.pollBow d.address d.serial (s.bowDemandFor d.serial) false) })) ∧
    ((∀ d ∈ s.line.nodes, ¬due d) → exec .turnaroundExpiry s = .next { s with line := { s.line with
      walk := 1, repoll := none, phase := .sending (match s.line.handshake with
        | none => .invite
        | some h => if h.deny then .assignDeny h.serial else .assign h.serial h.address) } })) ∧
  (∀ (s : State), s.up = true →
    (∀ tx, s.line.phase = .awaiting tx →
      exec .bargeReplyStart s = .next { s with line := { s.line with phase := .receiving tx } }) ∧
    (s.line.state = .fault → s.line.phase = .quiet →
      exec .faultRecoveryExpiry s = .next { s with line := { s.line with phase := .sending .lineReset } }) ∧
    (s.line.state = .down → s.line.phase = .quiet →
      exec .downRetryExpiry s = .next { s with line := { s.line with phase := .sending .lineReset } }) ∧
    (∀ d, s.node? d.serial = some d → d.state = .joining → d.rejoinRunning = true →
      ∃ t e, exec (.rejoinTimerExpiry d.serial) s = .next t ∧ SameStores s t ∧ t.node? d.serial = some e ∧
        e.state = (if d.departMark then .departed else .lost) ∧ e.rejoinRunning = false))

/-- R37, R46: a poll, an invitation or an ASSIGN whose echo is clean leaves the line UP with no failures counted, and the master awaits a
reply; a poll drops the one-shot STOPs for its node that it carried, or had no command for (one handed over after the poll was built
waits, log entry 34, DEDUCED). An ASSIGN_DENY ends the handshake (R44), and a LINE_RESET sent in UP or DOWN starts the cycle at the
lowest address (R37, R38). R38: a LINE_RESET sent from FAULT with a clean echo. The line is UP with no failures counted and a fresh
cycle; each ACTIVE or SILENT record is JOINING with its miss count 0 and its rejoin timer running, each DEPARTING one DEPARTED, and LOST,
DEPARTED and REJECTED ones stand. The pending handshake is abandoned: a record it created is removed, marked or not (log entry 28,
DEDUCED), one it reused is JOINING with its rejoin timer. R36, R37: an echo failure abandons the frame and adds one to the count, at most
3. Below 3 in UP or FAULT the line is in FAULT and nothing else changes; in DOWN it stays DOWN; at 3 it goes DOWN, where every record is
LOST, DEPARTED or REJECTED. -/
def Obligations.EchoDecidesTheLineState : Prop :=
  (∀ (s : State) (a serial : Nat) (cs : List WinchCmd) (v : Int) (again : Bool), s.up = true → s.quiet →
    let ok := { s.line with state := .up, failures := 0 }
    let after (tx : TxFrame) (l : Line) := s.line.phase = .sending tx → exec .masterFrameSent s = .next { s with line := l }
    after (.pollWinch a serial cs again) { ok with
      phase := .awaiting (.pollWinch a serial cs again),
      stops := s.line.stops.filter fun x => !(x.1 == serial && (cs[x.2 - 1]?).all (· == .stop)) } ∧
    after (.pollBow a serial v again) { ok with
      phase := .awaiting (.pollBow a serial v again), stops := s.line.stops.filter fun x => x.1 != serial } ∧
    after .invite { ok with phase := .awaiting .invite } ∧
    after (.assign serial a) { ok with phase := .awaiting (.assign serial a) } ∧
    after (.assignDeny serial) { ok with phase := .turnaround, handshake := none } ∧
    (s.line.state ≠ .fault → after .lineReset { ok with phase := .turnaround, walk := 1, repoll := none })) ∧
  (∀ (s : State), s.up = true → NodesOk s → s.line.phase = .sending .lineReset → s.line.state = .fault →
    ∃ t, exec .masterFrameSent s = .next t ∧ SameStores s t ∧ t.line.state = .up ∧ t.line.failures = 0 ∧ t.line.phase = .turnaround ∧
      t.line.walk = 1 ∧ t.line.repoll = none ∧ t.line.handshake = none ∧
      ∀ d, s.node? d.serial = some d →
        let kept := t.node? d.serial = some d
        let rejoins (misses : Nat) := ∃ e, t.node? d.serial = some e ∧ e.state = .joining ∧ e.rejoinRunning = true ∧ e.misses = misses ∧
          e.address = d.address ∧ e.departMark = d.departMark
        ((∀ h, s.line.handshake = some h → h.serial ≠ d.serial) →
          (d.state = .active ∨ d.state = .silent → rejoins 0) ∧
          (d.state = .joining → rejoins d.misses) ∧
          (d.state = .departing → ∃ e, t.node? d.serial = some e ∧ e.state = .departed ∧ e.address = d.address) ∧
          (d.state = .lost ∨ d.state = .departed ∨ d.state = .rejected → kept)) ∧
        ∀ h, s.line.handshake = some h → h.serial = d.serial →
          (h.origin = .created → t.node? d.serial = none) ∧
          (h.origin = .standing → d.state = .rejected → kept) ∧
          (∀ was, h.origin = .reused was → d.state = .joining → rejoins d.misses)) ∧
  (∀ (s : State) (tx : TxFrame), s.up = true → s.quiet → NodesOk s → s.line.phase = .sending tx →
    let cmd := exec .echoFailure s
    (s.line.state ≠ .down ∧ s.line.failures < 2 → cmd = .next { s with line := { s.line with
      state := .fault, failures := s.line.failures + 1, phase := .quiet } }) ∧
    (s.line.state = .down → cmd = .next { s with line := { s.line with
      failures := min 3 (s.line.failures + 1), phase := .quiet } }) ∧
    (s.line.state ≠ .down ∧ 2 ≤ s.line.failures → ∃ t, cmd = .next t ∧ SameStores s t ∧ t.line.state = .down ∧
      t.line.failures = 3 ∧ t.line.phase = .quiet ∧ t.line.handshake = none ∧
      ∀ d ∈ t.line.nodes, d.state = .lost ∨ d.state = .departed ∨ d.state = .rejected))

/-- R50: a miss on a poll adds one to the miss count, clears the held flag and makes an ACTIVE node SILENT; at 4 the node is LOST, or
DEPARTED when it was DEPARTING. A silence in a reply, a window with no reply begun and a frame with an error mark are misses (R35). R48:
a good reply to a winch poll sets the miss count to 0, makes a SILENT node ACTIVE, stores the content as the last reply, and sets the
fault-seen flag where a reported channel shows the winch-fault flag. R13: each coupling of the node takes its channel's tension and flags
and is classified. No live order names a coupling of the node. -/
def Obligations.PollsEndInAReplyOrAMiss : Prop :=
  (∀ (s : State) (tx : TxFrame) (d : Node) (chars : List Byte) (lost : Bool), s.up = true → NodesOk s →
    s.node? d.serial = some d → (d.state = .active ∨ d.state = .silent ∨ d.state = .departing) →
    ((∃ cs again, d.kind = .winch ∧ tx = .pollWinch d.address d.serial cs again) ∨
      ∃ v again, d.kind = .bow ∧ tx = .pollBow d.address d.serial v again) →
    let missed (t : State) := ∃ e, t.node? d.serial = some e ∧ e.misses = d.misses + 1 ∧ e.heldFlag = false ∧
      e.address = d.address ∧ e.last = d.last ∧ e.faultSeen = d.faultSeen ∧
      e.state = (if 4 ≤ d.misses + 1 then (if d.state = .departing then .departed else .lost)
        else if d.state = .active then .silent else d.state)
    (s.line.phase = .receiving tx → ∃ t, exec .bargeFrameSilence s = .next t ∧ SameStores s t ∧ missed t ∧
      t.line.phase = .turnaround) ∧
    (s.line.phase = .awaiting tx → ∃ t, exec .replyWindowExpiry s = .next t ∧ SameStores s t ∧ missed t) ∧
    (s.line.phase = .receiving tx → markOf chars lost ≠ .none →
      ∃ t, exec (.bargeFrameReceived chars lost) s = .next t ∧ SameStores s t ∧ missed t ∧ t.line.phase = .turnaround)) ∧
  (∀ (s : State) (d : Node) (cs : List WinchCmd) (again : Bool) (chars : List Byte) (f : LineFrame), s.up = true → NodesOk s → TablesOk s →
    s.node? d.serial = some d → s.ordersOf d.serial = [] →
    s.line.phase = .receiving (.pollWinch d.address d.serial cs again) → goodFrame chars false = some f →
    f.address = d.address → f.kind = 2 → f.body.length = (if cs.length = 2 then 7 else 4) →
    ∃ t e, exec (.bargeFrameReceived chars false) s = .next t ∧ SameStores s t ∧ t.node? d.serial = some e ∧ e.misses = 0 ∧
      e.state = (if d.state = .silent then .active else d.state) ∧ e.last = some (.winch (winchReports f.body)) ∧
      e.faultSeen = (d.faultSeen || (winchReports f.body).any (·.flags.fault)) ∧ e.heldFlag = d.heldFlag ∧
      t.line.phase = .turnaround ∧
      ∀ n c r, s.coupling? n = some c → c.serial = d.serial → 1 ≤ c.channel → (winchReports f.body)[c.channel - 1]? = some r →
        ∃ c', t.coupling? n = some c' ∧ c'.tension = r.tension ∧ c'.flags = some r.flags ∧
          c'.state = classify (s.settings.coupling.thresholds c.cls) r.tension r.flags c.state)

/-- R41, R42, R43: a good JOIN of a serial with no record creates one at the lowest free address, JOINING, or REJECTED where the required
ability is missing, with the wanted abilities of its kind and the role resolved; the handshake is pending. No other record changes. R43:
a JOIN of a REJECTED record leaves it and is denied; one of any other record reuses it: kind, abilities and role are those of the JOIN,
the miss count is 0, the state JOINING or REJECTED, and address, flags, mark and last reply stay. A JOIN with no record and no free
address is ignored. R44: a good acknowledgement ends the handshake: the JOINING record is ACTIVE, or DEPARTING when it is marked, with
its miss count 0 and its rejoin timer stopped. R44: a silence, another frame or no reply in the window ends the handshake with failure: a
created record is removed; a reused one returns to LOST or DEPARTED, or is LOST with the NODE_LOST alarm, or DEPARTED when it is marked.
That a marked record is DEPARTED whatever it held, and a created one removed, is the model's reading (log entry 28, DEDUCED). -/
def Obligations.JoinAndAcknowledgementMakeANode : Prop :=
  (∀ (s : State) (chars : List Byte) (f : LineFrame) (serial address code : Nat) (k : NodeKind), s.up = true → NodesOk s →
    s.line.phase = .receiving .invite → goodFrame chars false = some f → f.address = 0 → f.kind = 4 →
    f.body = bytesOf 4 serial ++ [if k = .winch then 1 else 2, BitVec.ofNat 8 code] → serial < 2 ^ 32 → code < 256 →
    s.node? serial = none → 1 ≤ address → address ≤ 40 → (∀ d ∈ s.line.nodes, d.address ≠ address) →
    (∀ a, 1 ≤ a → a < address → ∃ d ∈ s.line.nodes, d.address = a) →
    let lacks := code.testBit 0 = false
    let winch := decide (k = .winch)
    let bow := decide (k = .bow)
    ∃ t e, exec (.bargeFrameReceived chars false) s = .next t ∧ SameStores s t ∧ t.node? serial = some e ∧ e.kind = k ∧
      e.address = address ∧ (lacks → e.state = .rejected) ∧ (¬lacks → e.state = .joining) ∧ e.misses = 0 ∧
      e.heldFlag = false ∧ e.faultSeen = false ∧ e.last = none ∧ e.departMark = false ∧
      e.abilities = {
        tension := winch && code.testBit 0, haul := winch && code.testBit 1, release := winch && code.testBit 2
        dual := winch && code.testBit 3, urgent := code.testBit 4, thrust := bow && code.testBit 0
        feedback := bow && code.testBit 1 } ∧
      (k = .winch → (e.role = .full ↔ code.testBit 1 = true ∧ code.testBit 2 = true)) ∧ (k = .bow → e.role = .full) ∧
      t.line.handshake = some ⟨serial, address, !code.testBit 0, .created⟩ ∧ ∀ n, n ≠ serial → t.node? n = s.node? n) ∧
  (∀ (s : State) (chars : List Byte) (f : LineFrame) (serial code : Nat) (k : NodeKind), s.up = true → NodesOk s →
    s.line.phase = .receiving .invite → goodFrame chars false = some f → f.address = 0 → f.kind = 4 →
    f.body = bytesOf 4 serial ++ [if k = .winch then 1 else 2, BitVec.ofNat 8 code] → serial < 2 ^ 32 → code < 256 →
    let winch := decide (k = .winch)
    let bow := decide (k = .bow)
    (∀ d, s.node? serial = some d → ∃ t e, exec (.bargeFrameReceived chars false) s = .next t ∧ SameStores s t ∧
      t.node? serial = some e ∧ (∀ n, n ≠ serial → t.node? n = s.node? n) ∧
      (d.state = .rejected → e = d ∧ t.line.handshake = some ⟨serial, d.address, true, .standing⟩) ∧
      (d.state ≠ .rejected → e.state = (if code.testBit 0 then .joining else .rejected) ∧ e.kind = k ∧
        e.abilities = {
          tension := winch && code.testBit 0, haul := winch && code.testBit 1, release := winch && code.testBit 2
          dual := winch && code.testBit 3, urgent := code.testBit 4, thrust := bow && code.testBit 0
          feedback := bow && code.testBit 1 } ∧
        e.role = (if winch && !(code.testBit 1 && code.testBit 2) then .monitor else .full) ∧ e.misses = 0 ∧
        e.address = d.address ∧ e.heldFlag = d.heldFlag ∧ e.faultSeen = d.faultSeen ∧ e.departMark = d.departMark ∧ e.last = d.last ∧
        (d.state = .joining → code.testBit 0 = true → e.rejoinRunning = d.rejoinRunning) ∧
        t.line.handshake = some ⟨serial, d.address, !code.testBit 0, .reused d.state⟩)) ∧
    (s.quiet → s.node? serial = none → (∀ a, 1 ≤ a → a ≤ 40 → ∃ d ∈ s.line.nodes, d.address = a) →
      exec (.bargeFrameReceived chars false) s = .next { s with line := { s.line with phase := .turnaround } })) ∧
  (∀ (s : State) (h : Handshake) (d : Node) (a : Nat) (chars : List Byte) (f : LineFrame), s.up = true → NodesOk s →
    s.line.handshake = some h → s.node? h.serial = some d → d.state = .joining → s.line.phase = .receiving (.assign h.serial a) →
    goodFrame chars false = some f → f.address = a → f.kind = 7 → f.body.length = 4 → natOf f.body = h.serial →
    ∃ t e, exec (.bargeFrameReceived chars false) s = .next t ∧ SameStores s t ∧ t.line.handshake = none ∧
      t.node? h.serial = some e ∧ e.state = (if d.departMark then .departing else .active) ∧ e.misses = 0 ∧
      e.rejoinRunning = false ∧ e.address = d.address ∧ e.heldFlag = d.heldFlag ∧ e.last = d.last) ∧
  (∀ (s : State) (h : Handshake) (d : Node) (a : Nat), s.up = true → NodesOk s → s.line.handshake = some h → s.node? h.serial = some d →
    let failed (o : Host.Outcome State Fault Refusal) := ∃ t, o = .next t ∧ SameStores s t ∧ t.line.handshake = none ∧
      (∀ n, n ≠ h.serial → t.node? n = s.node? n) ∧ (h.origin = .created → t.node? h.serial = none) ∧
      ∀ prior, h.origin = .reused prior → ∃ e, t.node? h.serial = some e ∧ e.address = d.address ∧ e.last = d.last ∧
        e.state = (if d.departMark = true ∨ prior = .departed then .departed else .lost) ∧
        (d.departMark = false → prior ≠ .lost → prior ≠ .departed →
          t.port.reportsLost = true ∨ ∃ r ∈ t.port.queue, r.kind = .nodeLost ∧ r.subject = .serial h.serial)
    (s.line.phase = .awaiting (.assign h.serial a) → failed (exec .replyWindowExpiry s)) ∧
    (s.line.phase = .receiving (.assign h.serial a) → failed (exec .bargeFrameSilence s) ∧
      ∀ chars lost, (∀ f, goodFrame chars lost = some f → f.address ≠ a ∨ f.kind ≠ 7 ∨ f.body.length ≠ 4 ∨ natOf f.body ≠ h.serial) →
        failed (exec (.bargeFrameReceived chars lost) s)))

/-- R53: READ_NODE returns the record, then re-arms the held flag of an ACTIVE record and clears the fault-seen flag; R55: FORGET_NODE
removes a LOST, REJECTED or DEPARTED record and no other; both refuse a serial with no record. R10: READ_BARGE and READ_COUPLING return
the record, clear its changed flag, and change nothing else; an empty position or an unused number is refused NO_SUCH. -/
def Obligations.RecordsAreReadAndForgotten : Prop :=
  (∀ (s : State) (serial : Nat), s.up = true →
    (s.node? serial = none → exec (.readNode serial) s = .next (s.answered ⟨.noSuch, []⟩) ∧
      exec (.forgetNode serial) s = .next (s.answered ⟨.noSuch, []⟩)) ∧
    ∀ d, s.node? serial = some d →
      (∃ t, exec (.readNode serial) s = .next t ∧ t.port.answer = some ⟨.accepted, s.nodeBytes d⟩ ∧
        t.node? serial = some { d with heldFlag := d.heldFlag || d.state == .active, faultSeen := false } ∧
        (∀ n, n ≠ serial → t.node? n = s.node? n) ∧
        t = { s with port := { s.port with answer := t.port.answer }, line := { s.line with nodes := t.line.nodes } }) ∧
      (d.state ≠ .lost ∧ d.state ≠ .rejected ∧ d.state ≠ .departed →
        exec (.forgetNode serial) s = .next (s.answered ⟨.notNow, []⟩)) ∧
      (d.state = .lost ∨ d.state = .rejected ∨ d.state = .departed →
        ∃ t, exec (.forgetNode serial) s = .next t ∧ SameStores s t ∧ t.port.answer = some ⟨.accepted, []⟩ ∧
          t.node? serial = none ∧ ∀ n, n ≠ serial → t.node? n = s.node? n)) ∧
  (∀ (s : State), s.up = true →
    (∀ p : Pos, ¬(1 ≤ p.col ∧ p.col ≤ 5 ∧ 1 ≤ p.row ∧ p.row ≤ 6) →
      exec (.readBarge p) s = .next (s.answered ⟨.badValue, []⟩)) ∧
    (∀ p : Pos, 1 ≤ p.col ∧ p.col ≤ 5 ∧ 1 ≤ p.row ∧ p.row ≤ 6 →
      (s.barge? p = none → exec (.readBarge p) s = .next (s.answered ⟨.noSuch, []⟩)) ∧
      ∀ b, s.barge? p = some b → ∃ t, exec (.readBarge p) s = .next t ∧ t.port.answer = some ⟨.accepted, b.bytes⟩ ∧
        t.barge? p = some { b with changed := false } ∧
        (∀ q, q ≠ p → t.barge? q = s.barge? q) ∧
        t = { s with port := t.port, sup := { s.sup with barges := t.sup.barges } } ∧
        t.port = { s.port with answer := t.port.answer }) ∧
    (∀ n : Nat,
      (s.coupling? n = none → exec (.readCoupling n) s = .next (s.answered ⟨.noSuch, []⟩)) ∧
      ∀ c, s.coupling? n = some c → ∃ t, exec (.readCoupling n) s = .next t ∧ t.port.answer = some ⟨.accepted, c.bytes⟩ ∧
        t.coupling? n = some { c with changed := false } ∧
        (∀ m, m ≠ n → t.coupling? m = s.coupling? m) ∧
        t = { s with port := t.port, sup := { s.sup with couplings := t.sup.couplings } } ∧
        t.port = { s.port with answer := t.port.answer }))

/-- R39: the Node Table keeps its address order, each address of 1..40 and each serial once, after any step. R3, R7: the two tables keep
their order, their unique positions, hull numbers and coupling numbers, and their limits. The checkpoint, which a start restores the
tables from, keeps them too. -/
def Obligations.RecordTablesStayInOrder : Prop :=
  (∀ s t : State, NodesOk s → step s = .next t → NodesOk t) ∧
  (∀ s t : State, TablesOk s → step s = .next t → TablesOk t)

/-- R48, R115, R116, R204: a good reply of a bow unit is stored, and its entry of the Bow Unit List takes its running and fault flags,
and its actual thrust where the node has FEEDBACK; no other entry changes. R49: a reply with its urgent flag, of a node with URGENT, to a
poll that was no repoll, earns a repoll, which is the next frame; the walk does not move. R116: a bow unit that falls SILENT has its
flags unknown. R115: an accepted declaration of a bow node adds its entry, with flags unknown, and a removal takes it out. -/
def Obligations.BowRepliesReachTheList : Prop :=
  (∀ (s : State) (d : Node) (v : Int) (again : Bool) (chars : List Byte) (f : LineFrame), s.up = true → NodesOk s →
    s.node? d.serial = some d → d.kind = .bow → s.line.phase = .receiving (.pollBow d.address d.serial v again) →
    goodFrame chars false = some f → f.address = d.address → f.kind = 2 → f.body.length = 3 →
    let flag (n : Nat) := (natOf (f.body.take 1)).testBit n
    let actual : Option Int := if d.abilities.feedback then some (intOf (f.body.drop 1)) else none
    ∃ t e, exec (.bargeFrameReceived chars false) s = .next t ∧ SameStores s t ∧ t.line.phase = .turnaround ∧
      t.node? d.serial = some e ∧ e.misses = 0 ∧ e.state = (if d.state = .silent then .active else d.state) ∧
      e.last = some (.bow actual (flag 1) (flag 2)) ∧ e.faultSeen = (d.faultSeen || flag 2) ∧ e.heldFlag = d.heldFlag ∧
      (∀ u ∈ s.steer.bows, u.serial = d.serial → ∃ w ∈ t.steer.bows, w.pos = u.pos ∧ w.serial = u.serial ∧ w.running = some (flag 1) ∧
        w.fault = some (flag 2) ∧ w.actual = actual ∧ w.commanded = u.commanded) ∧
      (∀ u ∈ s.steer.bows, u.serial ≠ d.serial → u ∈ t.steer.bows) ∧
      t.line.repoll = (if flag 0 && d.abilities.urgent && !again then some d.address else s.line.repoll)) ∧
  (∀ (s : State) (d : Node) (cs : List WinchCmd) (again : Bool) (chars : List Byte) (f : LineFrame), s.up = true → NodesOk s →
    s.node? d.serial = some d → d.kind = .winch → s.line.phase = .receiving (.pollWinch d.address d.serial cs again) →
    goodFrame chars false = some f → f.address = d.address → f.kind = 2 → f.body.length = (if cs.length = 2 then 7 else 4) →
    ∃ t, exec (.bargeFrameReceived chars false) s = .next t ∧ SameStores s t ∧
      t.line.repoll = (if (natOf (f.body.take 1)).testBit 0 && d.abilities.urgent && !again then some d.address else s.line.repoll)) ∧
  (∀ (s : State) (d : Node), s.up = true → NodesOk s → d ∈ s.line.nodes → s.line.phase = .turnaround → s.line.repoll = some d.address →
    (d.state = .active ∨ d.state = .silent ∨ d.state = .departing) →
    ∃ t, exec .turnaroundExpiry s = .next t ∧ t = { s with line := t.line, steer := t.steer } ∧
      t.line = { s.line with
        repoll := none, phase := .sending (match d.kind with
          | .winch => .pollWinch d.address d.serial
              (s.channelCommand d.serial 1 :: if d.abilities.dual then [s.channelCommand d.serial 2] else []) true
          | .bow => .pollBow d.address d.serial (s.bowDemandFor d.serial) true) }) ∧
  (∀ (s : State) (d : Node) (v : Int) (again : Bool), s.up = true → NodesOk s → s.node? d.serial = some d → d.kind = .bow →
    d.state = .active → d.misses < 3 → s.line.phase = .receiving (.pollBow d.address d.serial v again) →
    ∃ t, exec .bargeFrameSilence s = .next t ∧ SameStores s t ∧
      ∀ u ∈ s.steer.bows, u.serial = d.serial → ∃ w ∈ t.steer.bows, w.pos = u.pos ∧ w.serial = u.serial ∧ w.nodeState = some .silent ∧
        w.running = none ∧ w.fault = none ∧ w.actual = none ∧ w.commanded = u.commanded) ∧
  ∀ (s t : State) (p : Pos) (hull light cargo n : Nat), s.up = true →
    (exec (.declareBarge p hull light cargo (some n)) s = .next t → t.port.answer = some ⟨.accepted, []⟩ →
      ∃ u ∈ t.steer.bows, u.pos = p ∧ u.serial = n ∧ u.running = none ∧ u.fault = none ∧ u.actual = none ∧ u.commanded = 0) ∧
    (exec (.removeBarge p) s = .next t → t.port.answer = some ⟨.accepted, []⟩ → ∀ u ∈ t.steer.bows, u.pos ≠ p)

/-! ## Convoy Makeup and Couplings -/

/-- R4: DECLARE_BARGE is checked in the order of the table, a refusal changes nothing but the answer, and an accepted declaration adds
the record with its changed flag set. With no coupling ending at its position the record is EXPECTED. -/
def Obligations.DeclareBargeIsCheckedInOrder : Prop :=
  ∀ (s : State) (p : Pos) (hull light cargo : Nat) (bow : Option Nat), s.up = true →
    let bad := p.col < 1 ∨ 5 < p.col ∨ p.row < 1 ∨ 6 < p.row ∨ 2000 < light ∨ 6000 < cargo
    let taken := ∃ x ∈ s.sup.barges, x.pos = p
    let twice := (∃ x ∈ s.sup.barges, x.hull = hull) ∨
      ∃ n, bow = some n ∧ ((∃ x ∈ s.sup.barges, x.bow = some n) ∨ ∃ c ∈ s.sup.couplings, c.serial = n)
    let full := 24 ≤ s.sup.barges.length ∨ (bow ≠ none ∧ 2 ≤ (s.sup.barges.filter (·.bow.isSome)).length)
    let cmd := exec (.declareBarge p hull light cargo bow) s
    (bad → cmd = .next (s.answered ⟨.badValue, []⟩)) ∧
    (¬bad ∧ taken → cmd = .next (s.answered ⟨.positionTaken, []⟩)) ∧
    (¬bad ∧ ¬taken ∧ twice → cmd = .next (s.answered ⟨.duplicate, []⟩)) ∧
    (¬bad ∧ ¬taken ∧ ¬twice ∧ full → cmd = .next (s.answered ⟨.tableFull, []⟩)) ∧
    (¬bad ∧ ¬taken ∧ ¬twice ∧ ¬full → ∃ t, cmd = .next t ∧ SameStores s t ∧
      t.port.answer = some ⟨.accepted, []⟩ ∧ t.sup.barges.map (·.pos) = (insertBarge
        ⟨p, hull, light, cargo, bow, .expected, true, false⟩ s.sup.barges).map (·.pos) ∧
      ∃ b ∈ t.sup.barges, b.pos = p ∧ b.hull = hull ∧ b.light = light ∧ b.cargo = cargo ∧ b.bow = bow ∧ b.changed = true ∧
        ((∀ c ∈ s.sup.couplings, c.endsAt p = false) → b.state = .expected))

/-- R5: REMOVE_BARGE of a position with no record, and of an IN_TOW barge that is held, is refused and changes nothing but the answer; an
EXPECTED or CAST_OFF barge whose couplings neither a live order names nor an IN_TOW barge holds is removed with every coupling that ends
at it, and so is an IN_TOW barge that is unheld. -/
def Obligations.RemoveBargeStrikesTheRecord : Prop :=
  ∀ (s : State) (p : Pos), s.up = true →
    let cmd := exec (.removeBarge p) s
    let grid := 1 ≤ p.col ∧ p.col ≤ 5 ∧ 1 ≤ p.row ∧ p.row ≤ 6
    (¬grid → cmd = .next (s.answered ⟨.badValue, []⟩)) ∧ (grid →
    ((∀ x ∈ s.sup.barges, x.pos ≠ p) → cmd = .next (s.answered ⟨.noSuch, []⟩)) ∧
    ∀ b, s.barge? p = some b →
      (b.state = .inTow ∧ b.held = true → cmd = .next (s.answered ⟨.notNow, []⟩)) ∧
      (b.state ≠ .inTow ∧ (∃ c ∈ s.couplingsAt p, s.keepsBarge p c = true) → cmd = .next (s.answered ⟨.notNow, []⟩)) ∧
      ((b.state = .inTow ∧ b.held = false ∨
          b.state ≠ .inTow ∧ ∀ c ∈ s.couplingsAt p, s.keepsBarge p c = false) →
        ∃ t, cmd = .next t ∧ SameStores s t ∧ t.port.answer = some ⟨.accepted, []⟩ ∧
          t.sup.barges.map (·.pos) = (s.sup.barges.map (·.pos)).filter (· != p) ∧ ∀ c ∈ t.sup.couplings, c.endsAt p = false))

/-- R8: DECLARE_COUPLING is checked in the order of the table, a refusal changes nothing but the answer, and an accepted coupling is in
the table UNCONFIRMED, with last tension 0 and no last flags; its command is STOP where a one-shot STOP is pending for its channel, and
NONE otherwise (R23). R9: WITHDRAW_COUPLING of a number not in the table is refused NO_SUCH; it is refused NOT_NOW while a live order
names the coupling, and while the coupling is in a holding state with an IN_TOW barge at either end; otherwise the record is removed and
no other is. -/
def Obligations.CouplingsAreDeclaredAndWithdrawn : Prop :=
  (∀ (s : State) (n : Nat) (a b : CouplingEnd) (serial channel winchEnd cls : Nat), s.up = true → OrdersOk s →
    let declared (e : CouplingEnd) := e = .pushboat ∨ ∃ x ∈ s.sup.barges, e = .barge x.pos
    let next (e f : CouplingEnd) := ∃ q, f = .barge q ∧
      ((e = .pushboat ∧ q.row = 1) ∨ ∃ p, e = .barge p ∧ p ≠ q ∧ p.col ≤ q.col + 1 ∧ q.col ≤ p.col + 1 ∧ p.row ≤ q.row + 1 ∧ q.row ≤ p.row + 1)
    let good := 1 ≤ n ∧ n ≤ 32 ∧ 1 ≤ channel ∧ channel ≤ 2 ∧ 1 ≤ cls ∧ cls ≤ 4 ∧ winchEnd ≤ 1 ∧ declared a ∧ declared b ∧ next a b
    let twice := (∃ c ∈ s.sup.couplings, c.number = n ∨ (c.serial = serial ∧ c.channel = channel)) ∨
      ∃ x ∈ s.sup.barges, x.bow = some serial
    let cmd := exec (.declareCoupling n a b serial channel winchEnd cls) s
    (¬good → cmd = .next (s.answered ⟨.badValue, []⟩)) ∧
    (good ∧ twice → cmd = .next (s.answered ⟨.duplicate, []⟩)) ∧
    (good ∧ ¬twice → ∃ t c, cmd = .next t ∧ SameStores s t ∧ t.port.answer = some ⟨.accepted, []⟩ ∧ t.coupling? n = some c ∧
      c.endA = a ∧ b = .barge c.endB ∧ c.serial = serial ∧ c.channel = channel ∧ c.cls = cls ∧ c.winchAtB = (winchEnd == 1) ∧
      c.state = .unconfirmed ∧ c.tension = 0 ∧ c.flags = none ∧ c.changed = true ∧
      c.command = (if s.line.stops.contains (serial, channel) then .stop else .none))) ∧
  (∀ (s : State) (n : Nat), s.up = true →
    let cmd := exec (.withdrawCoupling n) s
    (s.coupling? n = none → cmd = .next (s.answered ⟨.noSuch, []⟩)) ∧
    ∀ c, s.coupling? n = some c →
      let busy := (∃ x ∈ s.liveOrders, x.2.work.coupling? = some n) ∨ (c.state ≠ .released ∧ s.touchesTow c = true)
      (busy → cmd = .next (s.answered ⟨.notNow, []⟩)) ∧
      (¬busy → ∃ t, cmd = .next t ∧ SameStores s t ∧ t.port.answer = some ⟨.accepted, []⟩ ∧
        t.sup.couplings.map (·.number) = (s.sup.couplings.map (·.number)).filter (· != n) ∧
        t.sup.barges.map (·.pos) = s.sup.barges.map (·.pos)))

/-- R15: the classification of a coupling in SLACK, FAST or OVERLOAD by its new tension, as the table gives it, wherever the thresholds
of its class meet R12's constraint. No live order names the coupling. The report's flags do not matter. R14, R16: the first reply to an
UNCONFIRMED or LOST coupling, and what takes a coupling out of RELEASED and FAULT. No live order names the coupling. -/
def Obligations.CouplingsAreClassifiedByTheirReports : Prop :=
  (∀ (s : State) (n : Nat) (c : Coupling) (r : ChannelReport) (sent : WinchCmd),
    s.coupling? n = some c → s.orderOn n = none →
    let h := s.settings.coupling.thresholds c.cls
    let t : Int := r.tension
    0 ≤ h.hysteresis → h.slack + h.hysteresis ≤ h.fast → h.fast < h.overload - h.hysteresis →
    ∃ c', (couplingReply n r sent s).coupling? n = some c' ∧
      c'.tension = r.tension ∧ c'.flags = some r.flags ∧
      (c.state = .slack →
        (h.overload < t → c'.state = .overload) ∧
        (h.slack + h.hysteresis ≤ t ∧ t ≤ h.overload → c'.state = .fast) ∧ (t < h.slack + h.hysteresis → c'.state = .slack)) ∧
      (c.state = .fast →
        (h.overload < t → c'.state = .overload) ∧
        (h.slack ≤ t ∧ t ≤ h.overload → c'.state = .fast) ∧ (t < h.slack → c'.state = .slack)) ∧
      (c.state = .overload →
        (h.overload < t → c'.state = .overload) ∧
        (h.overload - h.hysteresis < t ∧ t ≤ h.overload → c'.state = .overload) ∧
        (h.slack ≤ t ∧ t ≤ h.overload - h.hysteresis → c'.state = .fast) ∧ (t < h.slack → c'.state = .slack))) ∧
  (∀ (s : State) (n : Nat) (c : Coupling) (r : ChannelReport) (sent : WinchCmd),
    s.coupling? n = some c → s.orderOn n = none →
    let h := s.settings.coupling.thresholds c.cls
    let t : Int := r.tension
    let fresh (st : CouplingState) :=
      (r.flags.confirm = true ∧ t < h.slack ∧ st = .released) ∨
      (¬(r.flags.confirm = true ∧ t < h.slack) ∧ h.overload < t ∧ st = .overload) ∨
      (¬(r.flags.confirm = true ∧ t < h.slack) ∧ t ≤ h.overload ∧ h.slack + h.hysteresis ≤ t ∧ st = .fast) ∨
      (¬(r.flags.confirm = true ∧ t < h.slack) ∧ t ≤ h.overload ∧ t < h.slack + h.hysteresis ∧ st = .slack)
    let loaded := r.flags.hook = true ∧ h.slack ≤ t
    ∃ c', (couplingReply n r sent s).coupling? n = some c' ∧
      (c.state = .unconfirmed ∨ c.state = .lost → fresh c'.state) ∧
      (c.state = .released → (loaded → fresh c'.state) ∧ (¬loaded → c'.state = .released)) ∧
      (c.state = .fault → (r.flags.confirm = true ∨ loaded → fresh c'.state) ∧
        (¬(r.flags.confirm = true ∨ loaded) → c'.state = .fault)))

/-- R27, R167: the reply that confirms an ACTIVE RELEASE with a tension below Ts makes its coupling RELEASED, completes the order DONE
with that tension and the number of barges of its set that are still IN_TOW, has the face-winch pool scan where the coupling is a face
coupling, and makes CAST_OFF every such barge and no other. That the makeup change and the analysis of the cast-off are settled at the
end of the command is the model's choice (log entry 8, DESIGN CHOICE), and so is the body of the CHANGE COUPLING report, the state's
number (log entry 10, DESIGN CHOICE); the order of the state, the completion with its scan and the cast-off is the model's reading (log
entry 25, DEDUCED). -/
def Obligations.ConfirmedReleaseCastsOffItsSet : Prop :=
  ∀ (s : State) (n : Nat) (c : Coupling) (r : ChannelReport) (sent : WinchCmd) (i : Fin 16) (o : Order) (flag : Bool) (set : List Pos),
    OrdersOk s → s.coupling? n = some c → s.orderOn n = some (i, o) → o.state = .active → o.work = .release n flag set →
    r.flags.confirm = true → (r.tension : Int) < (s.settings.coupling.thresholds c.cls).slack →
    let t := couplingReply n r sent s
    let ps := set.filter s.inTowAt
    (∃ u : State, SameStores s u ∧ u.orders = (s.setSlot i none).orders ∧ u.sup.barges = s.sup.barges ∧
      (∀ m, m ≠ n → u.coupling? m = s.coupling? m) ∧
      u.coupling? n = some { c with
        tension := r.tension, flags := some r.flags, state := .released, command := s.leaveCommand c,
        changed := c.changed || decide (c.state ≠ .released) } ∧
      u.port = (if c.state = .released then s.port else (report .change (.coupling n) [7] s).port) ∧
      let v := report .orderDone (.tag o.tag)
        ([2, 1] ++ unsigned 1 n ++ [0] ++ [1] ++ unsigned 2 r.tension ++ unsigned 1 ps.length ++ [0, 0, 0, 0, 0, 0, 0, 0]) u
      t = castOff ps (if o.resource = some .facePool then grantScan .facePool v else v)) ∧
    (t.coupling? n).map (·.state) = some .released ∧ t.orders.slots[i] = none ∧
    (∀ p ∈ set, s.inTowAt p = true → (t.barge? p).map (·.state) = some .castOff) ∧
    (∀ p, p ∉ set ∨ s.inTowAt p = false → (t.barge? p).map (·.state) = (s.barge? p).map (·.state)) ∧
    t.settling.makeup = (s.settling.makeup || set.any s.inTowAt)

/-- R6, R22: wherever the two tables are in order and the tonnage, its class and Ccap are what they and the settings give, with nothing
left to settle (log entry 8), the figures are so after every step. -/
def Obligations.TowFiguresFollowTheTables : Prop :=
  ∀ s t : State, TablesOk s → TowFiguresOk s → step s = .next t → TowFiguresOk t

/-- R168, R5: REMOVE_BARGE of an unheld IN_TOW barge completes every live order on a coupling that ends at it: the ORDER_DONE report has
the result CANCELLED, no tension and no barge cast off, unless a report was lost (R176). R46, R5, R9: each coupling withdrawn with a
command other than NONE hands over a one-shot STOP for its channel, and no other is handed over. R30, R51: each node that belonged to the
barge and now belongs to no EXPECTED or IN_TOW barge is given a departing notice: it is marked, and is DEPARTING where it was ACTIVE or
SILENT, DEPARTED where it was LOST. A withdrawn coupling between barges gives its winch the notice on the same terms; a withdrawn face
coupling gives none. That a winch of both kinds is given it is the model's reading (log entry 37, DEDUCED). -/
def Obligations.RemovalEndsOrdersAndGivesNotices : Prop :=
  let noticed (t : State) (d : Node) := ∃ e, t.node? d.serial = some e ∧ e.departMark = true ∧ e.address = d.address ∧
    e.state = (match d.state with
      | .active | .silent | .departing => .departing
      | .lost | .departed => .departed
      | .joining => .joining
      | .rejected => .rejected)
  (∀ (s : State) (p : Pos) (b : Barge), s.up = true → NodesOk s → 1 ≤ p.col ∧ p.col ≤ 5 ∧ 1 ≤ p.row ∧ p.row ≤ 6 → s.barge? p = some b →
    b.state = .inTow → b.held = false →
    ∃ t, exec (.removeBarge p) s = .next t ∧ SameStores s t ∧
      (∀ (i : Fin 16) (o : Order) (n : Nat) (c : Coupling), s.orders.slots[i] = some o → o.work.coupling? = some n →
        s.coupling? n = some c → c.endsAt p = true → t.orders.slots[i] = none ∧ (t.port.reportsLost = true ∨
          ⟨.orderDone, .tag o.tag, s.clock, unsigned 1 o.work.code ++ [11] ++ o.work.target ++ [0, 0, 0] ++ [0] ++
            [0, 0, 0, 0, 0, 0, 0, 0]⟩ ∈ t.port.queue)) ∧
      (∀ c ∈ s.sup.couplings, c.endsAt p = true → c.command ≠ .none → (c.serial, c.channel) ∈ t.line.stops) ∧
      (∀ x ∈ t.line.stops, x ∈ s.line.stops ∨
        ∃ c ∈ s.sup.couplings, c.endsAt p = true ∧ c.command ≠ .none ∧ x = (c.serial, c.channel)) ∧
      ∀ d, s.node? d.serial = some d → d.serial ∈ s.nodesOf p → t.nodeNeeded d.serial = false → noticed t d) ∧
  ∀ (s : State) (n : Nat) (c : Coupling), s.up = true → NodesOk s → s.coupling? n = some c →
    (∀ x ∈ s.liveOrders, x.2.work.coupling? ≠ some n) → (c.state = .released ∨ s.touchesTow c = false) →
    ∃ t, exec (.withdrawCoupling n) s = .next t ∧ SameStores s t ∧ t.port.answer = some ⟨.accepted, []⟩ ∧
      t.line.stops = (if c.command = .none then s.line.stops else s.line.stops.insert (c.serial, c.channel)) ∧
      ∀ d, s.node? d.serial = some d →
        (c.isFace = true ∨ d.serial ≠ c.serial ∨ t.nodeNeeded d.serial = true → t.node? d.serial = some d) ∧
        (c.isFace = false → d.serial = c.serial → t.nodeNeeded d.serial = false → noticed t d)

/-! ## Orders -/

/-- R159, R164, R24: a HAUL that passes the checks of R158, on a coupling that needs no place or whose place is free, takes the lowest
free slot and goes ACTIVE: the coupling is HAULING, its command HAUL, and the haul timer runs. R159, R163: an accepted RELEASE whose
thrust condition does not hold takes the lowest free slot WAITING, with its cast-off set, and its release-wait timer starts; nothing else
changes but the answer. R159, R164, R27: an accepted HAUL or RELEASE on a face coupling with no free place is QUEUED, the RELEASE where
its thrust condition holds and with its release-wait timer running (R163); a RELEASE whose condition holds and that needs no place, or
whose place is free, goes ACTIVE: the coupling is RELEASING, its command RELEASE, and the release timer runs. That a cast-off set is
recorded and sent in position order is the model's choice (log entry 57). -/
def Obligations.PostedWireOrdersStartOrWait : Prop :=
  (∀ (s : State) (tag n : Nat) (c : Coupling) (i : Fin 16), s.up = true → 1 ≤ tag → 1 ≤ n ∧ n ≤ 32 →
    (∀ x ∈ s.liveOrders, x.2.tag ≠ tag ∧ x.2.work.coupling? ≠ some n) → s.coupling? n = some c → s.notCapable c = false →
    s.nodeAbsent c = false → s.freeSlot = some i → (c.isFace = false ∨ 0 < s.freePlaces .facePool) →
    ∃ t, exec (.postOrder tag (.haul n)) s = .next t ∧ SameStores s t ∧
      t.orders.slots[i] = some ⟨tag, .haul n, .active, if c.isFace then some .facePool else none, none,
        seconds s.settings.coupling.haulTimeoutS⟩ ∧
      (t.coupling? n).map (·.state) = some .hauling ∧ (t.coupling? n).map (·.command) = some .haul ∧
      t.port.answer = some ⟨.accepted, unsigned 2 tag ++ unsigned 1 i.val ++ [3, 0]⟩) ∧
  (∀ (s : State) (tag n flag : Nat) (c : Coupling) (i : Fin 16), s.up = true → s.quiet → 1 ≤ tag → 1 ≤ n ∧ n ≤ 32 → flag ≤ 1 →
    (∀ x ∈ s.liveOrders, x.2.tag ≠ tag ∧ x.2.work.coupling? ≠ some n) → s.coupling? n = some c → s.notCapable c = false →
    s.nodeAbsent c = false → (flag = 1 ∨ s.detached n = []) → s.freeSlot = some i →
    s.settings.coupling.releaseLimit < (s.prop.le.natAbs : Int) →
    exec (.postOrder tag (.release n flag)) s = .next
      ((s.setSlot i (some ⟨tag, .release n (flag == 1) (s.detached n), .waiting, if c.isFace then some .facePool else none,
        seconds s.settings.coupling.releaseWaitS, none⟩)).answered
        ⟨.accepted, unsigned 2 tag ++ unsigned 1 i.val ++ [2] ++ counted Pos.byte (s.detached n)⟩)) ∧
  (∀ (s : State) (tag n flag : Nat) (c : Coupling) (i : Fin 16), s.up = true → s.quiet → 1 ≤ tag → 1 ≤ n ∧ n ≤ 32 → flag ≤ 1 →
    (∀ x ∈ s.liveOrders, x.2.tag ≠ tag ∧ x.2.work.coupling? ≠ some n) → s.coupling? n = some c → s.notCapable c = false →
    s.nodeAbsent c = false → s.freeSlot = some i →
    let low := (s.prop.le.natAbs : Int) ≤ s.settings.coupling.releaseLimit
    let body (st : Byte) := unsigned 2 tag ++ unsigned 1 i.val ++ [st]
    let queued := c.isFace = true ∧ s.freePlaces .facePool = 0
    (queued → exec (.postOrder tag (.haul n)) s = .next
      ((s.setSlot i (some ⟨tag, .haul n, .queued, some .facePool, none, none⟩)).answered ⟨.accepted, body 1 ++ [0]⟩)) ∧
    (queued → low → flag = 1 ∨ s.detached n = [] → exec (.postOrder tag (.release n flag)) s = .next
      ((s.setSlot i (some ⟨tag, .release n (flag == 1) (s.detached n), .queued, some .facePool,
        seconds s.settings.coupling.releaseWaitS, none⟩)).answered ⟨.accepted, body 1 ++ counted Pos.byte (s.detached n)⟩)) ∧
    (¬queued → low → flag = 1 ∨ s.detached n = [] → ∃ t, exec (.postOrder tag (.release n flag)) s = .next t ∧ SameStores s t ∧
      t.orders.slots[i] = some ⟨tag, .release n (flag == 1) (s.detached n), .active, if c.isFace then some .facePool else none, none,
        seconds s.settings.coupling.releaseTimeoutS⟩ ∧
      (t.coupling? n).map (·.state) = some .releasing ∧ (t.coupling? n).map (·.command) = some .release ∧
      t.port.answer = some ⟨.accepted, body 3 ++ counted Pos.byte (s.detached n)⟩))

/-- R158, R196, R198: the checks of POST_ORDER, in order, for a HAUL or a RELEASE, its cast-off flag among them: each refusal changes
nothing but the answer. An order of no known kind or layout is refused BAD_VALUE, after TAG_IN_USE. -/
def Obligations.PostOrderIsCheckedInOrder : Prop :=
  (∀ (s : State) (tag : Nat), s.up = true → exec (.postOrder tag .malformed) s =
    .next (s.answered ⟨if ∃ x ∈ s.liveOrders, x.2.tag = tag then .tagInUse else .badValue, []⟩)) ∧
  ∀ (s : State) (tag n flag : Nat) (release : Bool), s.up = true →
    let spec : OrderSpec := if release then .release n flag else .haul n
    let cmd := exec (.postOrder tag spec) s
    let inUse := ∃ x ∈ s.liveOrders, x.2.tag = tag
    let bad := tag = 0 ∨ n < 1 ∨ 32 < n ∨ (release = true ∧ 1 < flag)
    (inUse → cmd = .next (s.answered ⟨.tagInUse, []⟩)) ∧
    (¬inUse ∧ bad → cmd = .next (s.answered ⟨.badValue, []⟩)) ∧
    (¬inUse ∧ ¬bad ∧ s.coupling? n = none → cmd = .next (s.answered ⟨.noSuch, []⟩)) ∧
    (¬inUse ∧ ¬bad → ∀ c, s.coupling? n = some c →
      let weak := ∃ d, s.node? c.serial = some d ∧
        (d.state ≠ .rejected ∧ d.role = .monitor ∨ d.kind = .bow ∨ d.abilities.dual = false ∧ c.channel = 2)
      let absent := ∀ d, s.node? c.serial = some d → d.state = .lost ∨ d.state = .departed ∨ d.state = .rejected
      let twice := ∃ x ∈ s.liveOrders, x.2.work.coupling? = some n
      let detach := release = true ∧ flag = 0 ∧ s.detached n ≠ []
      let full := ∀ i : Fin 16, s.orders.slots[i] ≠ none
      (weak → cmd = .next (s.answered ⟨.notCapable, []⟩)) ∧
      (¬weak ∧ absent → cmd = .next (s.answered ⟨.nodeAbsent, []⟩)) ∧
      (¬weak ∧ ¬absent ∧ twice → cmd = .next (s.answered ⟨.duplicate, []⟩)) ∧
      (¬weak ∧ ¬absent ∧ ¬twice ∧ detach → cmd = .next (s.answered ⟨.detachesTow, []⟩)) ∧
      (¬weak ∧ ¬absent ∧ ¬twice ∧ ¬detach ∧ full → cmd = .next (s.answered ⟨.tableFull, []⟩)))

/-- R166: ABORT_ORDER of a tag no live order holds is NOT_FOUND; a WAITING or QUEUED HAUL or RELEASE completes ABORTED at once, with its
slot free and its coupling untouched; an ACTIVE one becomes ABORTING with its timer stopped and its channel command leaving (R29). R163:
the release-wait timer of a WAITING RELEASE runs out: the order completes THRUST_HIGH; of a QUEUED one: TIMED_OUT. The coupling is not
touched. R25: the haul timer of an ACTIVE HAUL runs out: the order completes, its command leaves ACTIVE, and the coupling stays HAULING;
on a barge winch, where no arbiter scans, nothing else changes but the ORDER_DONE report with TIMED_OUT and the last tension. R28: the
release timer of an ACTIVE RELEASE runs out: the order completes NOT_CONFIRMED with the last tension and the coupling is FAULT. Each
ORDER_DONE report stands in the queue unless a report was lost (R176). -/
def Obligations.OrdersAreAbortedOrRunOut : Prop :=
  (∀ (s : State) (tag : Nat), s.up = true →
    (s.orderTagged tag = none → exec (.abortOrder tag) s = .next (s.answered ⟨.notFound, []⟩)) ∧
    ∀ i o n, s.orderTagged tag = some (i, o) → o.work.coupling? = some n →
      (o.state = .waiting ∨ o.state = .queued →
        exec (.abortOrder tag) s = .next ((orderDoneReport o (.ofWire .aborted none) (s.setSlot i none)).answered
          ⟨.accepted, [BitVec.ofNat 8 o.state.code, 2]⟩)) ∧
      (o.state = .active → ∃ t, exec (.abortOrder tag) s = .next t ∧
        t.orders = (s.setSlot i (some { o with state := .aborting, workTimer := none })).orders ∧
        (∀ c, s.coupling? n = some c → t.coupling? n = some { c with command := s.leaveCommand c }) ∧
        t.sup.barges = s.sup.barges ∧ t.port = (s.answered ⟨.accepted, [4]⟩).port ∧
        t = { s with orders := t.orders, sup := t.sup, port := t.port }) ∧
      (o.state = .aborting → exec (.abortOrder tag) s = .next (s.answered ⟨.accepted, [4]⟩))) ∧
  (∀ (s : State) (tag : Nat) (i : Fin 16) (o : Order) (n : Nat) (flag : Bool) (set : List Pos), s.up = true → s.quiet →
    s.orderTagged tag = some (i, o) → o.work = .release n flag set → o.waitTimer ≠ none →
    (o.state = .waiting → exec (.releaseWaitExpiry tag) s = .next
      (orderDoneReport o ⟨.thrustHigh, none, 0, 0⟩ (s.setSlot i none))) ∧
    (o.state = .queued → exec (.releaseWaitExpiry tag) s = .next
      (orderDoneReport o ⟨.timedOut, none, 0, 0⟩ (s.setSlot i none)))) ∧
  (∀ (s : State) (i : Fin 16) (o : Order) (n : Nat) (c : Coupling), s.up = true → s.quiet → TablesOk s → OrdersOk s → s.orderOn n = some (i, o) →
    s.coupling? n = some c → o.state = .active → o.workTimer ≠ none →
    (o.work = .haul n →
      (o.resource = none → exec (.haulTimerExpiry n) s = .next
        (orderDoneReport o ⟨.timedOut, some c.tension, 0, 0⟩ ((setCommand n (s.leaveCommand c) s).setSlot i none))) ∧
      ∃ t, exec (.haulTimerExpiry n) s = .next t ∧ SameStores s t ∧ t.orders.slots[i] = none ∧
        (t.port.reportsLost = true ∨ ⟨.orderDone, .tag o.tag, s.clock, [1, 3] ++ unsigned 1 n ++ [0] ++ [1] ++ unsigned 2 c.tension ++
          [0] ++ [0, 0, 0, 0, 0, 0, 0, 0]⟩ ∈ t.port.queue) ∧
        (t.coupling? n).map (·.state) = some c.state ∧ (t.coupling? n).map (·.command) = some (s.leaveCommand c)) ∧
    (∀ flag set, o.work = .release n flag set → ∃ t, exec (.releaseTimerExpiry n) s = .next t ∧ SameStores s t ∧
      (t.port.reportsLost = true ∨ ⟨.orderDone, .tag o.tag, s.clock, [2, 6] ++ unsigned 1 n ++ [0] ++ [1] ++ unsigned 2 c.tension ++
        [0] ++ [0, 0, 0, 0, 0, 0, 0, 0]⟩ ∈ t.port.queue) ∧
      t.orders.slots[i] = none ∧ (t.coupling? n).map (·.state) = some .fault ∧
      (t.coupling? n).map (·.command) = some (s.leaveCommand c) ∧
      (∀ p, (s.barge? p).map (·.state) ≠ some .expected → (t.barge? p).map (·.state) = (s.barge? p).map (·.state))))

/-- R158, R157: no two live orders hold the same tag, name the same coupling, or name the same tank, every coupling a live order names is
in the table, and the resource of each is that of its kind (R160), after any step from a state of which this is true and whose tables are
in order. R160: at most two orders on face couplings, one TRANSFER and one BUNKER hold a place, after any step from a state of which this
is true. -/
def Obligations.OrderTableKeepsItsRules : Prop :=
  (∀ s t : State, TablesOk s → OrdersOk s → step s = .next t → OrdersOk t) ∧
  (∀ s t : State, PlacesOk s → step s = .next t → PlacesOk t)

/-- R24, R167: a reply to an ACTIVE HAUL ends it DONE at the fast target and OVERLOAD above the overload threshold, with that tension,
its coupling FAST or OVERLOAD and its command leaving ACTIVE, and leaves it alone below. R29: an ABORTING HAUL or RELEASE ends ABORTED,
with the reply's tension, at the first reply to a poll that carried STOP, and its coupling is then classified afresh; a reply to another
poll leaves it. The face-winch pool scans where the order held a place. R25, R28, R29: a miss ends an ABORTING order of the winch, the
second in a row an ACTIVE one, NODE_LOST with the last tension where it is the only live order; the first leaves that one. R165, R17: the
loss of the winch ends its working orders, and leaves their couplings LOST with no command. That the coupling's state comes before the
completion at a HAUL, and the orders of one miss in slot order, are the model's choices (log entries 44 and 43, DESIGN CHOICE), and so is
that any STOP a poll carried counts as the one that stands (log entry 51, DESIGN CHOICE). -/
def Obligations.WireRepliesAndMissesEndOrders : Prop :=
  (∀ (s : State) (n : Nat) (c : Coupling) (r : ChannelReport) (sent : WinchCmd) (i : Fin 16) (o : Order),
    OrdersOk s → s.coupling? n = some c → s.orderOn n = some (i, o) →
    let h := s.settings.coupling.thresholds c.cls
    let t := couplingReply n r sent s
    let tension : Int := r.tension
    let ends (code : Byte) (u : State) : State :=
      let v := report .orderDone (.tag o.tag) (unsigned 1 o.work.code ++ [code] ++ unsigned 1 n ++ [0] ++ [1] ++ unsigned 2 r.tension ++ [0] ++
        [0, 0, 0, 0, 0, 0, 0, 0]) u
      if o.resource = some .facePool then grantScan .facePool v else v
    let settled (u : State) (st : CouplingState) (cmd : WinchCmd) := SameStores s u ∧ u.orders = (s.setSlot i none).orders ∧
      u.sup.barges = s.sup.barges ∧ (∀ m, m ≠ n → u.coupling? m = s.coupling? m) ∧
      ∃ k, u.coupling? n = some { c with tension := r.tension, flags := some r.flags, state := st, command := cmd, changed := k }
    (o.state = .active → o.work = .haul n → 0 ≤ h.hysteresis → h.slack + h.hysteresis ≤ h.fast → h.fast ≤ h.overload →
      (h.overload < tension → ∃ u, settled u .overload (s.leaveCommand c) ∧ t = ends 4 u) ∧
      (h.fast ≤ tension ∧ tension ≤ h.overload → ∃ u, settled u .fast (s.leaveCommand c) ∧ t = ends 1 u) ∧
      (tension < h.fast → t.orders = s.orders ∧ (t.coupling? n).map (·.state) = some c.state)) ∧
    (o.state = .aborting →
      (sent = .stop → ∃ u, settled u c.state (if c.command = .stop then .none else c.command) ∧
        t = setCouplingState n (classify h tension r.flags c.state) (ends 2 u)) ∧
      (sent ≠ .stop → t.orders = s.orders ∧ (t.coupling? n).map (·.state) = some c.state))) ∧
  (∀ (s : State) (d : Node) (cs : List WinchCmd) (again : Bool) (i : Fin 16) (o : Order) (n : Nat) (c : Coupling), s.up = true →
    NodesOk s → OrdersOk s → s.node? d.serial = some d → d.kind = .winch → s.coupling? n = some c → c.serial = d.serial →
    s.orders.slots[i] = some o → o.work.coupling? = some n → s.line.phase = .receiving (.pollWinch d.address d.serial cs again) →
    ∃ t, exec .bargeFrameSilence s = .next t ∧ SameStores s t ∧
      (o.state = .aborting ∨ o.state = .active ∧ 1 ≤ d.misses → t.orders.slots[i] = none) ∧
      (o.state = .active ∧ d.misses = 0 → t.orders.slots[i] = some o) ∧
      (o.state = .active → s.quiet → s.liveOrders = [(i, o)] → 1 ≤ d.misses → d.misses < 3 → d.state = .silent →
        t.port = (report .orderDone (.tag o.tag) (unsigned 1 o.work.code ++ [5] ++ unsigned 1 n ++ [0] ++ [1] ++ unsigned 2 c.tension ++ [0] ++
          [0, 0, 0, 0, 0, 0, 0, 0]) s).port)) ∧
  ∀ (s : State) (d : Node) (i : Fin 16) (o : Order) (n : Nat) (c : Coupling), s.up = true → NodesOk s → OrdersOk s →
    s.node? d.serial = some d → d.state = .joining → d.rejoinRunning = true → s.coupling? n = some c → c.serial = d.serial →
    s.orders.slots[i] = some o → o.work.coupling? = some n → (o.state = .active ∨ o.state = .aborting) →
    ∃ t, exec (.rejoinTimerExpiry d.serial) s = .next t ∧ SameStores s t ∧ t.orders.slots[i] = none ∧
      (t.coupling? n).map (·.command) = some .none ∧
      (t.coupling? n).map (·.state) = some (if c.state = .released then .released else .lost)

/-- R161: a grant scan starts the first QUEUED order of its arbiter, from the slot after the last started one and round to it, a RELEASE
only where the thrust condition holds (R162), and starts none where no place is free. The order goes ACTIVE and its slot is the last
started (R164). An order that ends and frees its place has the next one started in the same event. R162: at a re-test a WAITING RELEASE
goes ACTIVE, or QUEUED for its place, where |Le| is at or below the release limit, and a QUEUED one WAITING where it is above. -/
def Obligations.FreedPlacesAreGranted : Prop :=
  (∀ (s : State) (r : Resource),
    let ready (i : Fin 16) (o : Order) := s.orders.slots[i] = some o ∧ o.state = .queued ∧ o.resource = some r ∧
      (o.work.isRelease = true → (s.prop.le.natAbs : Int) ≤ s.settings.coupling.releaseLimit)
    let turn (i : Fin 16) : Nat := match s.orders.last r with | none => i.val | some l => (i.val + 15 - l.val) % 16
    let t := grantScan r s
    (s.freePlaces r = 0 ∨ (∀ i o, ¬ready i o) → t = s) ∧
    (0 < s.freePlaces r → ∀ i o, ready i o → (∀ j p, ready j p → turn i ≤ turn j) →
      t.orders.slots[i] = some { o with state := .active, waitTimer := none, workTimer := s.workTimer o.work } ∧
      t.orders.last r = some i ∧ (∀ j, j ≠ i → t.orders.slots[j] = s.orders.slots[j]) ∧
      ∀ n c, o.work.coupling? = some n → s.coupling? n = some c →
        (t.coupling? n).map (·.state) = some (if o.work.isRelease then .releasing else .hauling) ∧
        (t.coupling? n).map (·.command) = some (if o.work.isRelease then .release else .haul))) ∧
  (∀ (s : State) (i j : Fin 16) (o p : Order) (n : Nat), s.up = true → OrdersOk s → (s.placeHolders .facePool).length = 2 →
    s.orders.slots[i] = some o → o.state = .active → o.work = .haul n → o.workTimer ≠ none → o.resource = some .facePool →
    s.orders.slots[j] = some p → p.state = .queued → p.resource = some .facePool → p.work.isRelease = false →
    (∀ k q, s.orders.slots[k] = some q → q.state = .queued → q.resource = some .facePool → k = j) →
    ∃ t, exec (.haulTimerExpiry n) s = .next t ∧ SameStores s t ∧ t.orders.slots[i] = none ∧ t.orders.lastFace = some j ∧
      t.orders.slots[j] = some { p with state := .active, waitTimer := none, workTimer := seconds s.settings.coupling.haulTimeoutS }) ∧
  (∀ (s : State) (i : Fin 16) (o : Order) (n : Nat) (flag : Bool) (set : List Pos), s.orders.slots[i] = some o → o.work = .release n flag set →
    let low := (s.prop.le.natAbs : Int) ≤ s.settings.coupling.releaseLimit
    let active : Order := { o with state := .active, waitTimer := none, workTimer := seconds s.settings.coupling.releaseTimeoutS }
    let now := (retestOrders s).orders.slots[i]
    (¬low → now = some (if o.state = .queued then { o with state := .waiting } else o)) ∧
    (low → o.state = .waiting → o.resource = none → now = some active) ∧
    (low → o.state = .waiting → o.resource = some .facePool → now = some { o with state := .queued } ∨ now = some active)) ∧
  ∀ (s : State) (v : Int) (i : Fin 16) (o : Order) (n : Nat) (flag : Bool) (set : List Pos), s.up = true → s.quiet →
    s.prop.source = .bridge → s.orders.slots[i] = some o → o.work = .release n flag set → o.state = .waiting → o.resource = none →
    s.settings.coupling.releaseLimit < (s.prop.le.natAbs : Int) →
    ∃ t, exec (.setLever v) s = .next t ∧ SameStores s t ∧ ((t.prop.le.natAbs : Int) ≤ s.settings.coupling.releaseLimit →
      t.orders.slots[i] = some { o with state := .active, waitTimer := none, workTimer := seconds s.settings.coupling.releaseTimeoutS })

/-! ## Propulsion Demand -/

/-- R60, R66: wherever Le is the source lever under the two caps and the astern limit, it is so after every step: it is recomputed with
each of its inputs. -/
def Obligations.EffectiveLeverFollowsItsInputs : Prop := ∀ s t : State, LeverOk s → step s = .next t → LeverOk t

/-- R61: in BACKUP, SET_LEVER is refused NOT_IN_COMMAND and changes nothing but the answer; in BRIDGE the clamped value is the delivered
lever, the latch clears at 0, the silence timer starts afresh, and HOLD or ZEROED ends. R62: the silence limit runs out in NORMAL: HOLD,
with lever and helm kept and the hold timer started. R63: the hold time runs out in HOLD: ZEROED, with the delivered lever and the helm
0; a hold time of 0 brings it at once. -/
def Obligations.LeverIsDeliveredOrFallsSilent : Prop :=
  (∀ (s : State) (v : Int), s.up = true →
    (s.prop.source = .backup → exec (.setLever v) s = .next (s.answered ⟨.notInCommand, []⟩)) ∧
    (s.prop.source = .bridge → ∃ t, exec (.setLever v) s = .next t ∧ SameStores s t ∧ t.line = s.line ∧
      let lever := max (-1000) (min 1000 v)
      let latch := s.prop.latch && decide (lever ≠ 0)
      t.prop = { s.prop with
        lever := lever, latch := latch, phase := .normal, silenceTimer := seconds s.settings.backup.silenceLimitS,
        holdTimer := if s.prop.phase = .normal then s.prop.holdTimer else none, le := t.prop.le } ∧
      t.port.answer = some ⟨.accepted, signed 2 lever ++ signed 2 (if latch then 0 else lever) ++ yesNo latch⟩)) ∧
  (∀ (s : State), s.up = true →
    (s.prop.silenceTimer ≠ none → s.prop.source = .bridge → s.prop.phase = .normal →
      ∃ t, exec .silenceLimitExpiry s = .next t ∧ SameStores s t ∧ t.prop.source = .bridge ∧ t.prop.latch = s.prop.latch ∧
        (0 < s.settings.backup.holdTimeS → t.prop.phase = .hold ∧ t.prop.lever = s.prop.lever ∧
          t.steer.helm = s.steer.helm ∧ t.prop.holdTimer = seconds s.settings.backup.holdTimeS) ∧
        (s.settings.backup.holdTimeS ≤ 0 → t.prop.phase = .zeroed ∧ t.prop.lever = 0 ∧ t.steer.helm = 0)) ∧
    (s.prop.holdTimer ≠ none → s.prop.phase = .hold →
      ∃ t, exec .holdTimeExpiry s = .next t ∧ SameStores s t ∧ t.prop.phase = .zeroed ∧ t.prop.lever = 0 ∧
        t.steer.helm = 0 ∧ t.prop.latch = s.prop.latch ∧ t.prop.holdTimer = none))

/-- R57, R59: at a control period the source follows the takeover input; while it is BACKUP the converted backup lever is delivered and
the converted backup helm set, and the latch clears at a lever of 0; the zero-latch is not set by it. -/
def Obligations.TakeoverInputChoosesTheSource : Prop :=
  ∀ (s : State) (backup : Bool) (rawLever rawHelm : Nat), s.up = true →
    let b := s.settings.backup
    let convert (raw mid span : Int) :=
      let v := max (-1000) (min 1000 (roundHalfAway ((raw - mid) * 1000) span))
      if -b.deadband ≤ v ∧ v ≤ b.deadband then 0 else v
    ∃ t, exec (.controlPeriodExpiry backup rawLever rawHelm) s = .next t ∧ SameStores s t ∧
      (backup = true → t.prop.source = .backup ∧ t.prop.lever = convert rawLever b.leverMid b.leverSpan ∧
        t.steer.helm = convert rawHelm b.helmMid b.helmSpan ∧ t.prop.latch = (s.prop.latch && decide (t.prop.lever ≠ 0))) ∧
      (backup = false → t.prop.source = .bridge ∧ t.prop.lever = s.prop.lever ∧ t.steer.helm = s.steer.helm ∧
        t.prop.latch = s.prop.latch) ∧
      (s.prop.source = .bridge ∧ backup = true → t.prop.phase = .normal ∧ t.prop.silenceTimer = none) ∧
      (s.prop.source = .backup ∧ backup = false → t.prop.phase = .normal ∧
        t.prop.silenceTimer = seconds b.silenceLimitS)

/-- R68 to R71: at a control period in BRIDGE each present engine has its share, its pre-sync target and its target, and its demand moves
toward the target by at most the ramp step of the tonnage class, never past it; STOPPED and FAULT hold it. R72, R73, R74: at a sync
period with sync on, each engaged IN_USE engine within the sync window of the lowest-numbered one steps its trim by the sync step toward
the lead's speed, within the sync limit; every other trim is 0. With sync off every trim is 0. SET_SYNC off clears the trims at once. A
lead of 0 with sync off or no engine in the group is the model's reading (log entry 30, DEDUCED); a pre-sync target of Ni for an engine
without a share is its choice (log entry 49, DESIGN CHOICE). -/
def Obligations.DemandAndSyncFollowTheirPeriods : Prop :=
  (∀ (s : State) (rawLever rawHelm : Nat) (e : Fin 4), s.up = true → s.quiet → s.prop.source = .bridge →
    s.settings.engine.present[e] = 1 →
    let p := s.settings.engine
    let c := s.chans[e]
    let ni := p.idle[e]
    let nmax := p.maxSpeed[e]
    let lim (x : Int) := clamp ni nmax x
    let q : Int := if s.sup.tonnageClass = 1 then 1 else if s.sup.tonnageClass = 2 then 2 else 4
    let m : Int := s.prop.le.natAbs
    let shared := c.mode = .inUse ∧ c.gear ≠ .stopped ∧ c.gear ≠ .fault
    let engaged := 0 < s.prop.le ∧ c.gear = .ahead ∨ s.prop.le < 0 ∧ c.gear = .astern
    let share := if shared ∧ s.prop.le ≠ 0 then
      clamp 0 1000 (if p.side[e] = 1 then m + s.steer.trim else if p.side[e] = 3 then m - s.steer.trim else m) else 0
    let pre := if shared then lim (ni + roundHalfUp (share * (nmax - ni)) 1000) else ni
    let target := if shared ∧ engaged then lim (pre + c.trim) else ni
    let up := max 1 (p.riseRate / (10 * q))
    let dn := max 1 (p.fallRate / (10 * q))
    ∃ t, exec (.controlPeriodExpiry false rawLever rawHelm) s = .next t ∧ SameStores s t ∧ t.fuel = s.fuel ∧ t.sup = s.sup ∧
      t.chans[e].share = share ∧ t.chans[e].preSync = pre ∧ t.chans[e].target = target ∧
      t.chans[e].trim = c.trim ∧ t.chans[e].mode = c.mode ∧
      t.chans[e].demand = (if c.gear = .stopped ∨ c.gear = .fault then c.demand
        else if c.demand < target then min target (c.demand + up) else if target < c.demand then max target (c.demand - dn)
        else c.demand)) ∧
  (∀ (s : State), s.up = true →
    let p := s.settings.engine
    let cand (e : Fin 4) := s.prop.sync = true ∧ p.present[e] = 1 ∧ s.chans[e].mode = .inUse ∧
      (0 < s.prop.le ∧ s.chans[e].gear = .ahead ∨ s.prop.le < 0 ∧ s.chans[e].gear = .astern)
    (∃ t, exec .syncPeriodExpiry s = .next t ∧ t = { s with prop := { s.prop with lead := t.prop.lead }, chans := t.chans } ∧
      (∀ e : Fin 4, t.chans[e] = { s.chans[e] with trim := t.chans[e].trim }) ∧
      ((∀ e, ¬cand e) → t.prop.lead = 0 ∧ ∀ e : Fin 4, t.chans[e].trim = 0) ∧
      ∀ l : Fin 4, cand l → (∀ e, cand e → l ≤ e) → t.prop.lead = l.val + 1 ∧ ∀ e : Fin 4,
        let near := e ≠ l ∧ cand e ∧ ((s.chans[e].preSync - s.chans[l].preSync).natAbs : Int) ≤ p.syncWindow
        let diff : Int := (s.chans[l].rpm.natAbs : Int) - s.chans[e].rpm.natAbs
        (¬near → t.chans[e].trim = 0) ∧
        (near → t.chans[e].trim = clamp (-p.syncLimit) p.syncLimit (if p.syncBand < diff then s.chans[e].trim + p.syncStep
          else if diff < -p.syncBand then s.chans[e].trim - p.syncStep else s.chans[e].trim))) ∧
    (∀ v, 2 ≤ v → exec (.setSync v) s = .next (s.answered ⟨.badValue, []⟩)) ∧
    exec (.setSync 1) s = .next ({ s with prop := { s.prop with sync := true } }.answered ⟨.accepted, []⟩) ∧
    ∃ t, exec (.setSync 0) s = .next t ∧ t.prop = { s.prop with sync := false } ∧ t.port.answer = some ⟨.accepted, []⟩ ∧
      (s.prop.sync = true → ∀ e : Fin 4, t.chans[e] = { s.chans[e] with trim := 0 }) ∧
      (s.prop.sync = false → t.chans = s.chans))

/-! ## Engine Channels -/

/-- R70, R88, R89: wherever the settings are valid, the demand of every present engine lies in its band and is idle out of gear, and
dwell timers run in DISENGAGING alone, this is so after every step. -/
def Obligations.DemandStaysInItsBand : Prop :=
  ∀ s t : State, SettingsOk s → DemandOk s → step s = .next t → DemandOk t

/-- R81: the ahead clutch is driven while the gear state is ENGAGING_AHEAD or AHEAD, the astern clutch while it is ENGAGING_ASTERN or
ASTERN, of a present engine while the part runs; never both. -/
def Obligations.ClutchesFollowTheGearState : Prop :=
  ∀ (s : State) (e : Fin 4),
    (s.up = true → s.settings.engine.present[e] = 1 →
      (s.aheadClutch e = true ↔ s.chans[e].gear = .engagingAhead ∨ s.chans[e].gear = .ahead) ∧
      (s.asternClutch e = true ↔ s.chans[e].gear = .engagingAstern ∨ s.chans[e].gear = .astern)) ∧
    ¬(s.aheadClutch e = true ∧ s.asternClutch e = true)

/-- R82, R83, R96: SET_ENGINE_MODES with a bad mode for a masked engine is refused; otherwise each masked engine has its new mode and no
other engine's mode changes; a present channel in FAULT that goes from STANDBY to IN_USE recovers into NEUTRAL, from where it may engage.
R80: a level change at a pin starts the 50 ms hold where it differs from the level taken, and cancels it where it does not; the level
taken stands. R84: a running input taken off brings any gear state to STOPPED, with the demand at idle, every timer stopped and the fault
kind kept; taken on in STOPPED it brings NEUTRAL, or FAULT where a fault kind is kept. R86: a feedback level taken in ENGAGING_AHEAD or
ENGAGING_ASTERN confirms the engagement when its direction's feedback is on and the other off: the gear state is AHEAD or ASTERN and the
engage-confirm timer stops; any other taken level changes the level alone. R83: a change to STANDBY leaves STOPPED, NEUTRAL, DISENGAGING
and FAULT as they are, abandons an engagement, and takes an engaged engine at idle into DISENGAGING and no other; a change to IN_USE has
a NEUTRAL channel engage in D and leaves the others but FAULT. In DISENGAGING both dwell timers run (R87, R88); the neutral dwell is set
above 0 here. -/
def Obligations.ModesAndInputsActOnTheirChannels : Prop :=
  (∀ (s : State) (mask m1 m2 m3 m4 : Nat), s.up = true →
    let m (e : Fin 4) : Nat := #v[m1, m2, m3, m4][e]
    let bad := ∃ e : Fin 4, mask.testBit e.val = true ∧ m e ≠ 1 ∧ m e ≠ 2
    (bad → exec (.setEngineModes mask m1 m2 m3 m4) s = .next (s.answered ⟨.badValue, []⟩)) ∧
    (¬bad → ∃ t, exec (.setEngineModes mask m1 m2 m3 m4) s = .next t ∧
      t = { s with port := t.port, chans := t.chans } ∧ ∀ e : Fin 4,
        t.chans[e].demand = s.chans[e].demand ∧
        (mask.testBit e.val = false → t.chans[e] = s.chans[e]) ∧
        (mask.testBit e.val = true → t.chans[e].mode = (if m e = 1 then .inUse else .standby)) ∧
        (mask.testBit e.val = true → m e = 1 → s.chans[e].mode = .standby → s.chans[e].gear = .fault →
          s.settings.engine.present[e] = 1 → t.chans[e].fault = .none ∧
            t.chans[e].gear = neutralOutcome s e .inUse s.chans[e].aheadFb.level s.chans[e].asternFb.level))) ∧
  (∀ (s : State) (e : Fin 4), s.up = true → s.settings.engine.present[e] = 1 →
    (∀ (i : EngineInput) (level : Bool), ∃ t, exec (.engineInputChange e i level) s = .next t ∧
      t = { s with chans := t.chans } ∧ (∀ f : Fin 4, f ≠ e → t.chans[f] = s.chans[f]) ∧
      t.chans[e] = s.chans[e].setInput ⟨level, (s.chans[e].input i).level, level != (s.chans[e].input i).level⟩ i) ∧
    (s.chans[e].running.holding = true → ∃ t, exec (.inputFilterExpiry e .running) s = .next t ∧
      t = { s with port := t.port, chans := t.chans } ∧ (∀ f : Fin 4, f ≠ e → t.chans[f] = s.chans[f]) ∧
      t.chans[e].running = ⟨s.chans[e].running.raw, s.chans[e].running.raw, false⟩ ∧
      (s.chans[e].running.raw = false → t.chans[e].gear = .stopped ∧ t.chans[e].demand = s.settings.engine.idle[e] ∧
        t.chans[e].fault = s.chans[e].fault ∧ t.chans[e].follow = false ∧ t.chans[e].engageTimer = none ∧
        t.chans[e].dwellTimer = none ∧ t.chans[e].dwellTimeout = none ∧ t.chans[e].wrongWayTimer = none ∧
        t.chans[e].followTimer = none) ∧
      (s.chans[e].running.raw = true → s.chans[e].gear = .stopped →
        t.chans[e].gear = (if s.chans[e].fault = .none then
          neutralOutcome s e s.chans[e].mode s.chans[e].aheadFb.level s.chans[e].asternFb.level else .fault)))) ∧
  ((∀ (s : State) (e : Fin 4) (i : EngineInput), s.up = true → s.settings.engine.present[e] = 1 → i ≠ .running →
    (s.chans[e].input i).holding = true →
    let raw := (s.chans[e].input i).raw
    let taken := s.chans[e].setInput ⟨raw, raw, false⟩ i
    let confirms (g : Gear) := (g = .engagingAhead ∧ taken.aheadFb.level = true ∧ taken.asternFb.level = false) ∨
      (g = .engagingAstern ∧ taken.asternFb.level = true ∧ taken.aheadFb.level = false)
    ∃ t, exec (.inputFilterExpiry e i) s = .next t ∧ t = { s with port := t.port, chans := t.chans } ∧
      (∀ f : Fin 4, f ≠ e → t.chans[f] = s.chans[f]) ∧
      (confirms s.chans[e].gear → t.chans[e] = { taken with
        gear := if s.chans[e].gear = .engagingAhead then .ahead else .astern, engageTimer := none }) ∧
      (¬confirms s.chans[e].gear → t.chans[e] = taken ∧ t.port = s.port)) ∧
  ∀ (s : State) (mask m1 m2 m3 m4 : Nat) (e : Fin 4), s.up = true → s.settings.engine.present[e] = 1 →
    (∀ f : Fin 4, mask.testBit f.val = true → #v[m1, m2, m3, m4][f] = 1 ∨ #v[m1, m2, m3, m4][f] = 2) → mask.testBit e.val = true →
    0 < s.settings.engine.neutralDwellMs →
    let c := s.chans[e]
    let m := #v[m1, m2, m3, m4][e]
    ∃ t, exec (.setEngineModes mask m1 m2 m3 m4) s = .next t ∧
      let d := t.chans[e]
      let leaves := d.gear = .disengaging ∧ d.follow = false ∧ d.engageTimer = none ∧ d.dwellTimer = millis s.settings.engine.neutralDwellMs ∧
        d.dwellTimeout = seconds s.settings.engine.dwellTimeoutS ∧ d.wrongWayTimer = none ∧ d.followTimer = none
      (m = 2 → c.mode = .inUse →
        (c.gear = .stopped ∨ c.gear = .neutral ∨ c.gear = .disengaging ∨ c.gear = .fault → d = { c with mode := .standby }) ∧
        (c.gear = .engagingAhead ∨ c.gear = .engagingAstern → leaves) ∧
        (c.gear = .ahead ∨ c.gear = .astern →
          (c.demand = s.settings.engine.idle[e] → leaves) ∧
          (c.demand ≠ s.settings.engine.idle[e] → d = { c with mode := .standby }))) ∧
      (m = 1 → c.mode = .standby →
        (c.gear = .neutral → d.gear = neutralOutcome s e .inUse c.aheadFb.level c.asternFb.level) ∧
        (c.gear ≠ .neutral → c.gear ≠ .fault → d = { c with mode := .inUse })))

/-- R86, R94, R96: the engage-confirm timer runs out: FAULT with GEAR_NO_CONFIRM; the wrong-way timer: FAULT with SHAFT_WRONG_WAY. Entry
into FAULT sets the demand to idle, stops every timer and clears FOLLOW, and queues the alarm of its kind, with the measured rpm, and a
CHANGE. R95: the follow timer runs out: the FOLLOW alarm is queued with the measured rpm and the demand, FOLLOW stands and the gear state
stays. R200: the alarms are ALARM 3, 4 and 5. The bodies are those of log entry 10, with 0 as an absent engine's gear (log entry 11).
R89: the neutral dwell runs out: NEUTRAL at once where the last window shows the shaft at or below the shaft stop limit, and the dwell
timer stopped otherwise; the dwell timeout: NEUTRAL whatever the shaft speed. Entry into NEUTRAL makes the engagement test (R85). -/
def Obligations.ChannelTimersEndTheirWaits : Prop :=
  (∀ (s : State) (e : Fin 4), s.up = true →
    let x := Subject.engine (e.val + 1)
    let here : Bool := decide (s.settings.engine.present[e] = 1)
    let mode : Byte := if s.chans[e].mode = .inUse then 1 else 2
    let faulted (k : FaultKind) (alarm : ReportKind) (code : Byte) (o : Host.Outcome State Fault Refusal) := ∃ t, o = .next t ∧
      t = { s with port := t.port, chans := t.chans } ∧ (∀ f : Fin 4, f ≠ e → t.chans[f] = s.chans[f]) ∧
      t.chans[e] = { s.chans[e] with
        gear := .fault, fault := k, follow := false, demand := s.settings.engine.idle[e], engageTimer := none,
        dwellTimer := none, dwellTimeout := none, wrongWayTimer := none, followTimer := none } ∧
      t.port = (report .change x (yesNo here ++ [mode, if here then 8 else 0, code, 0])
        (report alarm x (signed 2 s.chans[e].rpm) s)).port
    (s.chans[e].engageTimer ≠ none → faulted .gearNoConfirm .gearNoConfirm 4 (exec (.engageConfirmExpiry e) s)) ∧
    (s.chans[e].wrongWayTimer ≠ none → faulted .shaftWrongWay .shaftWrongWay 3 (exec (.wrongWayExpiry e) s)) ∧
    (s.chans[e].followTimer ≠ none → ∃ t, exec (.followExpiry e) s = .next t ∧
      t = { s with port := t.port, chans := t.chans } ∧ (∀ f : Fin 4, f ≠ e → t.chans[f] = s.chans[f]) ∧
      t.chans[e] = { s.chans[e] with followTimer := none, follow := true } ∧
      t.port = (report .change x (yesNo here ++ [mode] ++ unsigned 1 (if here then s.chans[e].gear.code else 0) ++
        unsigned 1 s.chans[e].fault.code ++ [1]) (report .follow x (signed 2 s.chans[e].rpm ++ signed 2 s.chans[e].demand) s)).port) ∧
    (ReportKind.gearNoConfirm.cls, ReportKind.gearNoConfirm.number) = (1, 3) ∧
    (ReportKind.shaftWrongWay.cls, ReportKind.shaftWrongWay.number) = (1, 4) ∧
    (ReportKind.follow.cls, ReportKind.follow.number) = (1, 5)) ∧
  (∀ (s : State) (e : Fin 4), s.up = true →
    let out := neutralOutcome s e s.chans[e].mode s.chans[e].aheadFb.level s.chans[e].asternFb.level
    let inNeutral (o : Host.Outcome State Fault Refusal) := ∃ t, o = .next t ∧
      t = { s with port := t.port, chans := t.chans } ∧ (∀ f : Fin 4, f ≠ e → t.chans[f] = s.chans[f]) ∧
      t.chans[e].gear = out ∧ t.chans[e].dwellTimer = none ∧ t.chans[e].dwellTimeout = none ∧
      t.chans[e].demand = s.chans[e].demand
    (s.chans[e].dwellTimeout ≠ none → inNeutral (exec (.dwellTimeoutExpiry e) s)) ∧
    (s.chans[e].dwellTimer ≠ none → (s.chans[e].rpm.natAbs : Int) ≤ s.settings.engine.shaftStop →
      inNeutral (exec (.neutralDwellExpiry e) s)) ∧
    (s.chans[e].dwellTimer ≠ none → s.settings.engine.shaftStop < (s.chans[e].rpm.natAbs : Int) →
      ∃ t, exec (.neutralDwellExpiry e) s = .next t ∧ t = { s with chans := t.chans } ∧
        (∀ f : Fin 4, f ≠ e → t.chans[f] = s.chans[f]) ∧ t.chans[e] = { s.chans[e] with dwellTimer := none }))

/-- R90: each rising edge counts +1 or −1; a count that would pass ±32,767 is held at that limit for the rest of the window. R91: at a
shaft window the measured rpm is the count × 120 / PPR rounded half away from zero and the count is 0 and no longer held. R93: a speed
past Nmax × (100 + margin) / 100 brings FAULT with OVERSPEED in every state but STOPPED and FAULT, where no shaft test is made. R94, R95:
below it, in AHEAD or ASTERN, a window that finds the shaft turning the wrong way starts the wrong-way timer where it is stopped, and any
other stops it; one off the demand starts the follow timer where it is stopped and FOLLOW does not stand, and one within the limit stops
it and clears FOLLOW with a CHANGE. R89: in DISENGAGING with the dwell run out, a window at or below the shaft stop limit brings NEUTRAL,
with the engagement test (R85); that the limit is tested on the rpm is the model's choice where R99 says otherwise (log entry 52). R92: a
governor latch takes the duty 100 + (N_d − Ni) × 800 / (Nmax − Ni), rounded half up. -/
def Obligations.ShaftAndGovernorAreMeasured : Prop :=
  ∀ (s : State) (e : Fin 4), s.up = true → s.settings.engine.present[e] = 1 →
    let p := s.settings.engine
    let others (t : State) := ∀ f : Fin 4, f ≠ e → t.chans[f] = s.chans[f]
    (∀ high : Bool, ∃ t, exec (.shaftPulse e high) s = .next t ∧ t = { s with chans := t.chans } ∧ others t ∧
      let next := s.chans[e].count + if high then -1 else 1
      t.chans[e] = if s.chans[e].countHeld = true then s.chans[e]
        else if next < -32767 ∨ 32767 < next then { s.chans[e] with countHeld := true } else { s.chans[e] with count := next }) ∧
    (∃ t, exec (.shaftWindowExpiry e) s = .next t ∧ t = { s with port := t.port, chans := t.chans } ∧ others t ∧
      t.chans[e].rpm = roundHalfAway (s.chans[e].count * 120) p.ppr[e] ∧ t.chans[e].count = 0 ∧ t.chans[e].countHeld = false ∧
      (s.chans[e].gear ≠ .stopped → s.chans[e].gear ≠ .fault →
        p.maxSpeed[e] * (100 + p.overspeedMargin) < (t.chans[e].rpm.natAbs : Int) * 100 →
        t.chans[e].gear = .fault ∧ t.chans[e].fault = .overspeed ∧ t.chans[e].demand = p.idle[e]) ∧
      let c := s.chans[e]
      let d := t.chans[e]
      let size : Int := d.rpm.natAbs
      let tested := size * 100 ≤ p.maxSpeed[e] * (100 + p.overspeedMargin)
      let turned := { c with rpm := d.rpm, count := 0, countHeld := false }
      (c.gear = .stopped ∨ c.gear = .fault → d = turned) ∧
      (tested → c.gear = .neutral ∨ c.gear = .engagingAhead ∨ c.gear = .engagingAstern → d = turned) ∧
      (tested → c.gear = .ahead ∨ c.gear = .astern →
        let wrong := p.shaftStop < size ∧ (c.gear = .ahead ∧ d.rpm < 0 ∨ c.gear = .astern ∧ 0 < d.rpm)
        let off := p.followLimit < ((size - c.demand).natAbs : Int)
        d = { turned with
          wrongWayTimer := if wrong then (if c.wrongWayTimer = none then millis p.wrongWayMs else c.wrongWayTimer) else none
          follow := c.follow && decide off
          followTimer := if ¬off then none else if c.followTimer = none ∧ c.follow = false then seconds p.followTimeS else c.followTimer } ∧
        t.port = (if c.follow = true ∧ ¬off then (engineReport e { t with port := s.port }).port else s.port)) ∧
      (tested → c.gear = .disengaging →
        (c.dwellTimer = none → size ≤ p.shaftStop → d.dwellTimer = none ∧ d.dwellTimeout = none ∧ d.demand = c.demand ∧
          d.gear = neutralOutcome s e c.mode c.aheadFb.level c.asternFb.level) ∧
        (c.dwellTimer ≠ none ∨ p.shaftStop < size → d = turned))) ∧
    (∃ t, exec (.governorPeriodEnd e) s = .next t ∧ t = { s with chans := t.chans } ∧ others t ∧
      t.chans[e] = { s.chans[e] with
        duty := 100 + roundHalfUp ((s.chans[e].demand - p.idle[e]) * 800) (p.maxSpeed[e] - p.idle[e]) })

/-! ## Steering -/

/-- R103, R107, R113, R114, R118: wherever the rudder targets, the trim and the bow demand are those of the helm, the direction, the
mode, the degraded mark and the settings as they stand, they are so after every step: each of those events makes the steering
recomputation. -/
def Obligations.SteeringOutputsFollowTheHelm : Prop := ∀ s t : State, SteeringOk s → step s = .next t → SteeringOk t

/-- R101: in BACKUP, SET_HELM is refused NOT_IN_COMMAND and changes nothing but the answer; in BRIDGE the clamped value is the helm, and
the acceptance restarts the silence timer and ends HOLD or ZEROED (R62, R64). R104, R111, R112: SET_STEER_MODE of any value but 1, 2 and
3 is refused BAD_VALUE; otherwise the mode is stored, each present rudder in STALLED or FEEDBACK_LOST whose last sample was valid returns
to OK, every other rudder keeps its state, and steering is degraded exactly when no present steering rudder is then OK. -/
def Obligations.HelmAndSteeringModeAreStored : Prop :=
  (∀ (s : State) (v : Int), s.up = true →
    (s.prop.source = .backup → exec (.setHelm v) s = .next (s.answered ⟨.notInCommand, []⟩)) ∧
    (s.prop.source = .bridge → ∃ t, exec (.setHelm v) s = .next t ∧
      t = { s with port := t.port, prop := t.prop, steer := t.steer } ∧
      t.steer.helm = max (-1000) (min 1000 v) ∧ t.steer.mode = s.steer.mode ∧ t.steer.degraded = s.steer.degraded ∧
      t.steer.bows = s.steer.bows ∧
      t.prop = { s.prop with
        phase := .normal, silenceTimer := seconds s.settings.backup.silenceLimitS,
        holdTimer := if s.prop.phase = .normal then s.prop.holdTimer else none } ∧
      t.port.answer = some ⟨.accepted, signed 2 t.steer.helm ++ unsigned 1 t.steer.mode.code ++
        yesNo t.steer.degraded ++ signed 2 t.steer.trim ++ signed 2 t.steer.bowDemand⟩)) ∧
  (∀ (s : State) (m : Nat), s.up = true →
    (m = 0 ∨ 4 ≤ m → exec (.setSteerMode m) s = .next (s.answered ⟨.badValue, []⟩)) ∧
    (1 ≤ m ∧ m ≤ 3 → ∃ t, exec (.setSteerMode m) s = .next t ∧ t = { s with port := t.port, steer := t.steer } ∧
      t.steer.mode = (if m = 1 then .rudder else if m = 2 then .rudderDiff else .full) ∧ t.steer.helm = s.steer.helm ∧
      (∀ r : Fin 8, t.steer.rudders[r].state =
        (if s.settings.rudderPresent r = true ∧ s.steer.rudders[r].sampleValid = true then .ok
          else s.steer.rudders[r].state)) ∧
      (t.steer.degraded = true ↔ ∀ r : Fin 8, r.val < 4 → s.settings.rudderPresent r = true → t.steer.rudders[r].state ≠ .ok)))

/-- R106, R108, R109, R110: what a control period does to a present rudder: an invalid sample loses the feedback; an OK rudder with a
valid sample drives the valve toward its target when the error is past the deadband, and is STALLED when the valve has stayed driven for
the stall time without the stall movement. Steering is tested for degraded when a state changed (R112). That a STALLED or FEEDBACK_LOST
rudder goes on taking valid samples as its angle is the model's reading (log entry 33, DEDUCED). -/
def Obligations.FollowUpDrivesRuddersOrStalls : Prop :=
  ∀ (s : State) (samples : Vector Nat 8), s.up = true →
    ∃ t, exec (.steeringControlPeriod samples) s = .next t ∧ t = { s with port := t.port, steer := t.steer } ∧
      t.steer.helm = s.steer.helm ∧ t.steer.mode = s.steer.mode ∧ t.steer.bows = s.steer.bows ∧
      (t.steer.degraded = if t.rudderStates = s.rudderStates then s.steer.degraded else t.noSteeringRudder) ∧
      (∀ r : Fin 8, s.settings.rudderPresent r = false → t.steer.rudders[r] = s.steer.rudders[r]) ∧
      ∀ r : Fin 8, s.settings.rudderPresent r = true →
        let p := s.settings.steering
        let x := s.steer.rudders[r]
        let y := t.steer.rudders[r]
        let raw : Int := samples[r]
        let valid := p.windowLow[r] ≤ raw ∧ raw ≤ p.windowHigh[r]
        let angle := if valid then roundHalfAway ((raw - p.feedbackMid[r]) * 100) p.countsPer10[r] else x.angle
        let err := x.target - angle
        let want : Valve := if p.deadband < err then .starboard else .port
        let gone := if want = .starboard then angle - x.stallRef.getD angle else x.stallRef.getD angle - angle
        y.raw = samples[r] ∧ y.angle = angle ∧ (y.sampleValid = true ↔ valid) ∧
        (¬valid → y.state = .feedbackLost) ∧ (¬valid → x.state ≠ .feedbackLost → y.valve = .none) ∧
        (valid → x.state ≠ .ok → y.state = x.state ∧ y.valve = x.valve) ∧
        (valid → x.state = .ok →
          (¬p.deadband < err → ¬err < -p.deadband →
            y.state = .ok ∧ y.valve = .none ∧ y.stallRef = none ∧ y.stallCount = 0) ∧
          (p.deadband < err ∨ err < -p.deadband →
            (x.valve ≠ want → y.state = .ok ∧ y.valve = want ∧ y.stallRef = some angle ∧ y.stallCount = 0) ∧
            (x.valve = want → p.stallMovement ≤ gone →
              y.state = .ok ∧ y.valve = want ∧ y.stallRef = some angle ∧ y.stallCount = 0) ∧
            (x.valve = want → gone < p.stallMovement → p.stallTimeMs ≤ (x.stallCount + 1 : Int) * 100 →
              y.state = .stalled ∧ y.valve = .none ∧ y.stallRef = none) ∧
            (x.valve = want → gone < p.stallMovement → (x.stallCount + 1 : Int) * 100 < p.stallTimeMs →
              y.state = .ok ∧ y.valve = want ∧ y.stallRef = x.stallRef ∧ y.stallCount = x.stallCount + 1)))

/-- R117, R118: a bow poll is given a demand other than 0 only for a serial of the Bow Unit List whose barge is IN_TOW, held and in the
head row, whose node is an ACTIVE BOW and whose running flag is on, in FULL or degraded steering; the demand is then the bow demand, and
such a unit is given it whenever steering is in FULL or degraded. -/
def Obligations.BowDemandNeedsAnAvailableUnit : Prop :=
  (∀ (s : State) (serial : Nat), s.bowDemandFor serial ≠ 0 →
    s.bowDemandFor serial = s.steer.bowDemand ∧ (s.steer.mode = .full ∨ s.steer.degraded = true) ∧
      ∃ u ∈ s.steer.bows, u.serial = serial ∧ u.nodeState = some .active ∧ u.nodeKind = some .bow ∧ u.running = some true ∧
        ∃ b ∈ s.sup.barges, b.pos = u.pos ∧ b.state = .inTow ∧ b.held = true ∧
          ∀ a ∈ s.sup.barges, a.state = .inTow → a.pos.row ≤ u.pos.row) ∧
  ∀ (s : State) (u : BowUnit) (b : Barge), s.steer.bows.find? (·.serial == u.serial) = some u → u.nodeState = some .active →
    u.nodeKind = some .bow → u.running = some true → s.barge? u.pos = some b → b.state = .inTow → b.held = true →
    (∀ a ∈ s.sup.barges, a.state = .inTow → a.pos.row ≤ u.pos.row) → (s.steer.mode = .full ∨ s.steer.degraded = true) →
    s.bowDemandFor u.serial = s.steer.bowDemand

/-! ## Fuel Metering and Tanks -/

/-- R123: a pulse raises its meter's interval count by one, held at 65,535, and changes nothing else. R147: a log pulse adds the distance
per pulse to the open leg's distance, and times the tonnage to its TMM, where the sums fit. R155: SET_VOYAGE_CLOCK sets the clock and its
mark and answers the clock as it stood; each second adds one, up to the largest value, also while the part is down. -/
def Obligations.PulsesAndSecondsCountOnce : Prop :=
  (∀ (s : State), s.up = true →
    (∀ m : Fin 10, ∃ t, exec (.meterPulse m) s = .next t ∧ t = { s with fuel := { s.fuel with meters := t.fuel.meters } } ∧
      t.fuel.meters[m] = { s.fuel.meters[m] with count := min 65535 (s.fuel.meters[m].count + 1) } ∧
      ∀ n : Fin 10, n ≠ m → t.fuel.meters[n] = s.fuel.meters[n]) ∧
    (∀ l d, l = s.legs.current → d = s.settings.fuel.logDistanceMm →
      0 ≤ l.distance + d → l.distance + d < 2 ^ 63 → 0 ≤ l.tmm + s.sup.tonnage * d → l.tmm + s.sup.tonnage * d < 2 ^ 63 →
      exec .logPulse s = .next { s with legs := { s.legs with
        current := { l with distance := l.distance + d, tmm := l.tmm + s.sup.tonnage * d } } })) ∧
  (∀ (s : State),
    (∀ v, s.up = true → exec (.setVoyageClock v) s = .next ({ s with clock := ⟨v, true⟩ }.answered
      ⟨.accepted, unsigned 4 s.clock.seconds ++ yesNo s.clock.isSet⟩)) ∧
    (s.clock.seconds < 4294967295 →
      exec .voyageClockTick s = .next { s with clock := ⟨s.clock.seconds + 1, s.clock.isSet⟩ }) ∧
    (s.clock.seconds = 4294967295 → exec .voyageClockTick s = .next s))

/-- R124, R126: at an accounting interval each meter's count is corrected by its temperature and its factor, floored to a µL, and what is
left over is its new remainder: nothing is lost; the count starts again at 0. R125 to R129: an interval books each engine's net, supply
less return, to its total, and adds it and a running second to the open leg (here with no HAUL or RELEASE live, whose start could close
the leg in the same event); the transfer and bunker meters' volumes are stray where no order works. R133: each present tank's LOW and
OVERFULL marks follow its book. R134: Fcap is the reserve cap while the present tanks' books sum to less than the voyage reserve, and
1000 otherwise, and the RESERVE mark stands with it. -/
def Obligations.IntervalCorrectsBooksAndTests : Prop :=
  (∀ (s : State) (v : Vector (Option Int) 10), s.up = true →
    ∃ t, exec (.accountingIntervalExpiry v) s = .next t ∧ SameStores s t ∧ ∀ m : Fin 10,
      let p := s.settings.fuel
      let x := s.fuel.meters[m]
      let y := t.fuel.meters[m]
      let t10 : Int := match v[m] with | none => 150 | some r => max (-200) (min 900 r)
      let q := (x.count * p.meterK[m]) * (1000000 - roundHalfAway (p.alpha * (t10 - 150)) 10) + x.remainder
      y.count = 0 ∧ y.lastCount = x.count ∧ y.lastVolume * 1000000 + y.remainder = q ∧ 0 ≤ y.remainder ∧
        y.remainder < 1000000 ∧ y.t10 = t10 ∧ y.reading = v[m] ∧
        (y.mark = true ↔ ∀ r, v[m] = some r → r < -200 ∨ 900 < r)) ∧
  (∀ (s : State) (v : Vector (Option Int) 10), s.up = true →
    ∃ t, exec (.accountingIntervalExpiry v) s = .next t ∧
      let p := s.settings.fuel
      let volume (m : Fin 10) := t.fuel.meters[m].lastVolume
      let sum := (allTanks.map fun k => if p.tankPresent[k] = 1 then t.fuel.tanks[k].book else 0).sum
      (∀ e : Fin 4,
        let net := volume ⟨e.val, by omega⟩ - volume ⟨e.val + 4, by omega⟩
        t.fuel.lastNet[e] = net ∧ t.fuel.consumption[e] = fit64 (s.fuel.consumption[e] + net) ∧
        (s.quiet → (∀ x ∈ s.liveOrders, x.2.work.coupling? = none) →
          t.legs.current.net[e] = fit64 (s.legs.current.net[e] + net) ∧
          t.legs.current.running[e] = s.legs.current.running[e] +
            (if s.settings.engine.present[e] = 1 ∧ s.chans[e].running.level = true then 1 else 0))) ∧
      (t.fuel.strayTransfer = if s.transferOrder = none then fit64 (s.fuel.strayTransfer + volume 8) else s.fuel.strayTransfer) ∧
      (t.fuel.strayBunker = if s.bunkerOrder = none then fit64 (s.fuel.strayBunker + volume 9) else s.fuel.strayBunker) ∧
      (∀ k : Fin 8, p.tankPresent[k] = 1 →
        t.fuel.tanks[k].low = decide (t.fuel.tanks[k].book < p.lowLevelL[k] * 1000000) ∧
        t.fuel.tanks[k].overfull = decide (p.capacityL[k] * 1000000 < t.fuel.tanks[k].book)) ∧
      t.fuel.fcap = (if sum < p.voyageReserveL * 1000000 then p.reserveCap else 1000) ∧
      t.fuel.reserveMark = decide (sum < p.voyageReserveL * 1000000))

/-- R131: an accounting interval and a sounding leave the books, plus the consumption, less the bunkered total, less the adjustments,
exactly as they were, with every transfer, bunkering and supply booked, wherever the accumulators stand inside 64 bits. -/
def Obligations.FuelBooksBalance : Prop :=
  ∀ (s : State), s.up = true → SettingsOk s → FuelBounded s → OrderTanksOk s →
    (∀ v, ∃ t, exec (.accountingIntervalExpiry v) s = .next t ∧ fuelBalance t = fuelBalance s) ∧
    (∀ n quantity, ∃ t, exec (.setSounding n quantity) s = .next t ∧ fuelBalance t = fuelBalance s)

/-- R132: SET_SOUNDING is checked in the order of the table, and an accepted one sets that tank's book to the quantity and adds the
difference to the adjustments; no other book, total or meter changes. -/
def Obligations.SoundingReplacesTheBook : Prop :=
  ∀ (s : State) (n quantity : Nat), s.up = true → OrdersOk s →
    let cmd := exec (.setSounding n quantity) s
    (n < 1 ∨ 8 < n ∨ 1000000 < quantity → cmd = .next (s.answered ⟨.badValue, []⟩)) ∧
    ∀ k : Fin 8, k.val + 1 = n → quantity ≤ 1000000 →
      let busy := ∃ x ∈ s.liveOrders, n ∈ x.2.work.tanks ∧ (x.2.state = .active ∨ x.2.state = .aborting)
      let book : Int := quantity * 1000000
      let old := s.fuel.tanks[k].book
      (s.settings.fuel.tankPresent[k] ≠ 1 → cmd = .next (s.answered ⟨.noSuch, []⟩)) ∧
      (s.settings.fuel.tankPresent[k] = 1 → busy → cmd = .next (s.answered ⟨.notNow, []⟩)) ∧
      (s.settings.fuel.tankPresent[k] = 1 → ¬busy → ∃ t, cmd = .next t ∧ SameStores s t ∧
        t.port.answer = some ⟨.accepted, signed 8 old ++ signed 8 book ++ signed 8 (book - old)⟩ ∧
        t.fuel.tanks[k].book = book ∧ (∀ j : Fin 8, j ≠ k → t.fuel.tanks[j] = s.fuel.tanks[j]) ∧
        t.fuel.adjustments = fit64 (s.fuel.adjustments + (book - old)) ∧ t.fuel.consumption = s.fuel.consumption ∧
        t.fuel.bunkered = s.fuel.bunkered ∧ t.fuel.meters = s.fuel.meters)

/-- R135, R139, R159, R164: a TRANSFER or BUNKER that passes the checks of R158 takes the lowest free slot: ACTIVE where the pump or the
bunker meter is free, with the pump output on or the valve open, and QUEUED, with nothing else changed, where it is not. -/
def Obligations.PostedFuelOrdersStartOrQueue : Prop :=
  ∀ (s : State) (tag a b l : Nat) (i : Fin 16), s.up = true → s.quiet → 1 ≤ tag → s.freeSlot = some i →
    (∀ x ∈ s.liveOrders, x.2.tag ≠ tag ∧ a ∉ x.2.work.tanks) → s.tankPresentAt a = true →
    let other := s.tankPresentAt b = true ∧ a ≠ b ∧ 1 ≤ l ∧ l ≤ 500000 ∧ ∀ x ∈ s.liveOrders, b ∉ x.2.work.tanks
    let tw : Work := .transfer ⟨a, b, l, 0, 0, false, none, 0, false⟩
    let bw : Work := .bunker ⟨a, 0, 0⟩
    let order (w : Work) (r : Resource) (st : OrderState) : Order := ⟨tag, w, st, some r, none, none⟩
    let reply (code : Byte) : Answer := ⟨.accepted, unsigned 2 tag ++ unsigned 1 i.val ++ [code, 0]⟩
    (other → 0 < s.freePlaces .pump → ∃ t, exec (.postOrder tag (.transfer a b l)) s = .next t ∧
      t = { s with orders := t.orders, port := t.port } ∧ t.port.answer = some (reply 3) ∧
      t.orders = { s.orders with slots := s.orders.slots.set i (some (order tw .pump .active)), lastPump := some i } ∧
      (s.transferOrder = none → t.pumpOn = true)) ∧
    (other → s.freePlaces .pump = 0 → exec (.postOrder tag (.transfer a b l)) s = .next
      ((s.setSlot i (some (order tw .pump .queued))).answered (reply 1))) ∧
    (0 < s.freePlaces .bunkerMeter → ∃ t, exec (.postOrder tag (.bunker a)) s = .next t ∧
      t = { s with orders := t.orders, port := t.port } ∧ t.port.answer = some (reply 3) ∧
      t.orders = { s.orders with slots := s.orders.slots.set i (some (order bw .bunkerMeter .active)), lastBunker := some i } ∧
      (s.bunkerOrder = none → t.bunkerOpen = true)) ∧
    (s.freePlaces .bunkerMeter = 0 → exec (.postOrder tag (.bunker a)) s = .next
      ((s.setSlot i (some (order bw .bunkerMeter .queued))).answered (reply 1)))

/-- R136, R137: an interval books the transfer meter's volume to the working TRANSFER. While it pumps, the first stop test that holds
stops the pump with its result: DONE at the requested amount, SOURCE_EMPTY, DEST_FULL, NO_FLOW; a coast then follows, or with a coast
time of 0 the order completes at once. A coast completes at the first interval that falls the coast time or more after the stop; after an
abort between two intervals that is the one at which k − 1 reaches it (log entry 17, DEDUCED). R137, R167: a coast that ends completes
its TRANSFER with its result and the moved volume, and the pump's arbiter scans; the TANK reports follow the scan, the source's first,
which is the model's choice (log entries 42 and 54). R139, R140, R141, R167: an interval books the bunker meter's volume to the working
BUNKER. An ABORTING one completes ABORTED; an ACTIVE one ends DEST_FULL at the capacity, DONE after the end time without a pulse once
some volume has come, NO_FLOW after the wait time where none has, and goes on otherwise. It completes with the volume booked, and the
bunker meter's arbiter scans, its TANK report after it (log entry 42). -/
def Obligations.IntervalEndsItsOrders : Prop :=
  (∀ (s : State) (v : Vector (Option Int) 10) (i : Fin 16) (o : Order) (w : TransferWork) (src dst : Fin 8), s.up = true → OrdersOk s →
    s.transferOrder = some (i, o, w) → w.source = src.val + 1 → w.dest = dst.val + 1 →
    ∃ t, exec (.accountingIntervalExpiry v) s = .next t ∧ SameStores s t ∧
      let p := s.settings.fuel
      let moved := fitNat64 (w.moved + t.fuel.meters[(8 : Fin 10)].lastVolume)
      let noFlow := if s.fuel.meters[(8 : Fin 10)].count = 0 then w.noFlow + 1 else 0
      let stop : Option OrderResult :=
        if (w.litres : Int) * 1000000 ≤ moved then some .done
        else if t.fuel.tanks[src].book = 0 then some .sourceEmpty
        else if p.capacityL[dst] * 1000000 ≤ t.fuel.tanks[dst].book then some .destFull
        else if p.noFlowS ≤ (noFlow : Int) then some .noFlow
        else none
      let goesOn (w' : TransferWork) := t.orders.slots[i] = some { o with work := .transfer w' }
      (w.coasting = false →
        (stop = none → goesOn { w with moved := moved, noFlow := noFlow }) ∧
        (∀ x, stop = some x → 0 < p.coastS → goesOn { w with
          moved := moved, noFlow := noFlow, coasting := true, result := some x, sinceStop := 0, stopBetween := false }) ∧
        (∀ x, stop = some x → p.coastS ≤ 0 → t.orders.slots[i] = none)) ∧
      (w.coasting = true →
        let since : Int := if w.stopBetween then w.sinceStop else w.sinceStop + 1
        (p.coastS ≤ since → t.orders.slots[i] = none) ∧
        (since < p.coastS → goesOn { w with moved := moved, sinceStop := w.sinceStop + 1 }))) ∧
  (∀ (s : State) (i : Fin 16) (o : Order) (w : TransferWork), OrdersOk s → s.transferOrder = some (i, o, w) → w.coasting = true →
    s.settings.fuel.coastS ≤ (if w.stopBetween then (w.sinceStop : Int) else w.sinceStop + 1) →
    let done := report .orderDone (.tag o.tag) ([3] ++ unsigned 1 (w.result.getD .done).code ++ unsigned 1 w.source ++ unsigned 1 w.dest ++
      [0, 0, 0] ++ [0] ++ signed 8 w.moved) (s.setSlot i none)
    testTransfer s = tankReportOf w.dest (tankReportOf w.source (grantScan .pump done))) ∧
  ((∀ (s : State) (v : Vector (Option Int) 10) (i : Fin 16) (o : Order) (b : BunkerWork) (dst : Fin 8), s.up = true → OrdersOk s →
    s.bunkerOrder = some (i, o, b) → b.dest = dst.val + 1 →
    ∃ t, exec (.accountingIntervalExpiry v) s = .next t ∧ SameStores s t ∧
      let p := s.settings.fuel
      let volume := fitNat64 (b.volume + t.fuel.meters[(9 : Fin 10)].lastVolume)
      let silence := if s.fuel.meters[(9 : Fin 10)].count = 0 then b.silence + 1 else 0
      let ends := p.capacityL[dst] * 1000000 ≤ t.fuel.tanks[dst].book ∨ volume ≠ 0 ∧ p.bunkerEndS ≤ (silence : Int) ∨
        volume = 0 ∧ p.bunkerWaitS ≤ (silence : Int)
      t.fuel.bunkered = fitNat64 (s.fuel.bunkered + t.fuel.meters[(9 : Fin 10)].lastVolume) ∧
      (o.state = .aborting → t.orders.slots[i] = none) ∧
      (o.state = .active → (ends → t.orders.slots[i] = none) ∧
        (¬ends → t.orders.slots[i] = some { o with work := .bunker { b with volume := volume, silence := silence } }))) ∧
  ∀ (s : State) (i : Fin 16) (o : Order) (b : BunkerWork) (dst : Fin 8), OrdersOk s → s.bunkerOrder = some (i, o, b) → b.dest = dst.val + 1 →
    let p := s.settings.fuel
    let silence : Int := if s.fuel.meters[(9 : Fin 10)].lastCount = 0 then b.silence + 1 else 0
    let fills := p.capacityL[dst] * 1000000 ≤ s.fuel.tanks[dst].book
    let completes (code : Byte) := testBunker s = tankReportOf b.dest (grantScan .bunkerMeter (report .orderDone (.tag o.tag)
      ([4, code] ++ unsigned 1 b.dest ++ [0] ++ [0, 0, 0] ++ [0] ++ signed 8 b.volume) (s.setSlot i none)))
    (o.state = .aborting → completes 2) ∧
    (o.state = .active → (fills → completes 9) ∧ (¬fills ∧ b.volume ≠ 0 ∧ p.bunkerEndS ≤ silence → completes 1) ∧
      (¬fills ∧ b.volume = 0 ∧ p.bunkerWaitS ≤ silence → completes 10)))

/-- R144: a FUEL write of a new value to a tank's presence, role, capacity or low level, in its range and within the constraints, is
NOT_NOW while a live order names the tank. Otherwise it is accepted: a tank made present starts with a book of 0 and no mark; one made
absent loses its book to the adjustments; a capacity or low level has the marks tested again. No other tank changes. -/
def Obligations.TankSettingsActOnTheTank : Prop :=
  ∀ (s : State) (num : Nat) (k : Fin 8) (old v : Int), s.up = true → s.quiet → s.settings.get .fuel num (k.val + 1) = some old →
    num = 3 ∨ num = 4 ∨ num = 5 ∨ num = 6 → v ≠ old → (settingRange .fuel num).1 ≤ v → v ≤ (settingRange .fuel num).2 →
    (s.settings.put .fuel num (k.val + 1) v).consistent .fuel = true →
    let cmd := exec (.writeSetting 4 num (k.val + 1) v) s
    let named := ∃ x ∈ s.liveOrders, k.val + 1 ∈ x.2.work.tanks
    (named → cmd = .next (s.answered ⟨.notNow, []⟩)) ∧
    (¬named → ∃ t, cmd = .next t ∧ t.port.answer = some ⟨.accepted, signed 4 old ++ signed 4 v⟩ ∧
      t.settings = s.settings.put .fuel num (k.val + 1) v ∧ t.store.unsaved = Sec.fuel.put s.store.unsaved true ∧
      (∀ j : Fin 8, j ≠ k → t.fuel.tanks[j] = s.fuel.tanks[j]) ∧ t.fuel.consumption = s.fuel.consumption ∧
      t.fuel.bunkered = s.fuel.bunkered ∧
      (num = 3 → t.fuel.tanks[k] = ⟨0, false, false⟩ ∧
        (v = 1 → t.settings.tankPresent k = true ∧ t.fuel.adjustments = s.fuel.adjustments) ∧
        (v = 0 → t.settings.tankPresent k = false ∧ t.fuel.adjustments = fit64 (s.fuel.adjustments - s.fuel.tanks[k].book))) ∧
      (num ≠ 3 → t.fuel.adjustments = s.fuel.adjustments ∧ t.fuel.tanks[k].book = s.fuel.tanks[k].book) ∧
      (num = 5 ∨ num = 6 → s.settings.tankPresent k = true →
        t.fuel.tanks[k].low = decide (s.fuel.tanks[k].book < t.settings.fuel.lowLevelL[k] * 1000000) ∧
        t.fuel.tanks[k].overfull = decide (t.settings.fuel.capacityL[k] * 1000000 < s.fuel.tanks[k].book)))

/-- R158: the checks of POST_ORDER, in order, for a TRANSFER and a BUNKER; each refusal changes nothing but the answer. R166, R138, R141:
ABORT_ORDER of a QUEUED one completes it ABORTED with a volume of 0 at once; an ACTIVE TRANSFER stops its pump and coasts on as ABORTING
with the result ABORTED; one that coasts already runs on; an ACTIVE BUNKER closes its valve and is ABORTING. The TANK reports follow
ORDER_DONE (log entry 42), the source's first (log entry 54). -/
def Obligations.FuelOrdersAreCheckedAndAborted : Prop :=
  (∀ (s : State) (tag a b l : Nat) (transfer : Bool), s.up = true →
    let cmd := exec (.postOrder tag (if transfer then .transfer a b l else .bunker a)) s
    let names := if transfer then [a, b] else [a]
    let inUse := ∃ x ∈ s.liveOrders, x.2.tag = tag
    let bad := tag = 0 ∨ (∃ n ∈ names, n < 1 ∨ 8 < n) ∨ (transfer = true ∧ (l < 1 ∨ 500000 < l ∨ a = b))
    let absent := ∃ k : Fin 8, k.val + 1 ∈ names ∧ s.settings.fuel.tankPresent[k] ≠ 1
    let twice := ∃ x ∈ s.liveOrders, ∃ n ∈ names, n ∈ x.2.work.tanks
    let full := ∀ i : Fin 16, s.orders.slots[i] ≠ none
    (inUse → cmd = .next (s.answered ⟨.tagInUse, []⟩)) ∧
    (¬inUse ∧ bad → cmd = .next (s.answered ⟨.badValue, []⟩)) ∧
    (¬inUse ∧ ¬bad ∧ absent → cmd = .next (s.answered ⟨.noSuch, []⟩)) ∧
    (¬inUse ∧ ¬bad ∧ ¬absent ∧ twice → cmd = .next (s.answered ⟨.duplicate, []⟩)) ∧
    (¬inUse ∧ ¬bad ∧ ¬absent ∧ ¬twice ∧ full → cmd = .next (s.answered ⟨.tableFull, []⟩))) ∧
  (∀ (s : State) (tag : Nat) (i : Fin 16) (o : Order), s.up = true → s.orderTagged tag = some (i, o) → o.work.tanks ≠ [] →
    let cmd := exec (.abortOrder tag) s
    let done (t : State) : State := report .orderDone (.tag o.tag)
      (unsigned 1 o.work.code ++ [2] ++ o.work.target ++ [0, 0, 0] ++ [0] ++ [0, 0, 0, 0, 0, 0, 0, 0]) t
    (o.state = .queued → cmd = .next ((o.work.tanks.foldl (fun t n => tankReportOf n t) (done (s.setSlot i none))).answered
      ⟨.accepted, [1, 2]⟩)) ∧
    (o.state = .aborting → cmd = .next (s.answered ⟨.accepted, [4]⟩)) ∧
    (o.state = .active →
      (∀ w, o.work = .transfer w → ∃ t, cmd = .next (t.answered ⟨.accepted, [4]⟩) ∧
        t = s.setSlot i (some { o with state := .aborting, work := .transfer (if w.coasting then w else
          { w with coasting := true, result := some .aborted, sinceStop := 0, stopBetween := true }) }) ∧
        (s.transferOrder = some (i, o, w) → t.pumpOn = false)) ∧
      ∀ w, o.work = .bunker w → ∃ t, cmd = .next (t.answered ⟨.accepted, [4]⟩) ∧
        t = s.setSlot i (some { o with state := .aborting }) ∧ (s.bunkerOrder = some (i, o, w) → t.bunkerOpen = false)))

/-! ## Voyage Legs -/

/-- R148, R149, R151: CLOSE_LEG of another number than the open leg's is refused BAD_VALUE; with a full log, or at the largest number,
NOT_NOW; otherwise the open leg goes to the log with cause HOST and its fuel rate, and the next number opens at the tonnage and the clock
as they stand. R153: RELEASE_LEG with an empty log is refused NO_SUCH, of another number than the oldest BAD_VALUE; otherwise the oldest
closed leg goes, and a pending close follows at once with cause MAKEUP_DEFERRED. That one presence byte stands before both leg numbers of
the reply is the model's choice (log entry 11). R152: at a makeup change, with no close pending, the open leg closes with cause MAKEUP
where the log has room, and the next opens; with the log full the leg is marked mixed, its close is pending and LEG_LOG_FULL is raised;
with a close pending nothing happens. Here of legs below the largest number. A breakaway with no live order brings one such change: the
leg closes and the next has the new tonnage. That the body of LEG_LOG_FULL is the oldest leg's number, without the subject, is the
model's choice (log entry 10, DESIGN CHOICE). -/
def Obligations.LegsCloseAndAreReleased : Prop :=
  (∀ (s : State) (n : Nat), s.up = true → s.quiet →
    let l := s.legs.current
    let cmd := exec (.closeLeg n) s
    (n ≠ l.number → cmd = .next (s.answered ⟨.badValue, []⟩)) ∧
    (n = l.number → 12 ≤ s.legs.log.length ∨ n = 4294967295 → cmd = .next (s.answered ⟨.notNow, []⟩)) ∧
    (n = l.number → s.legs.log.length < 12 → n ≠ 4294967295 → ∃ t c, cmd = .next t ∧
      t = { s with legs := t.legs, port := t.port, ckpt := t.ckpt } ∧
      t.port.answer = some ⟨.accepted, unsigned 4 n ++ unsigned 4 (n + 1)⟩ ∧
      t.legs.log = s.legs.log ++ [c] ∧ c.leg = { l with pendingClose := false } ∧ c.closeStamp = s.clock ∧ c.cause = .host ∧
      (∀ total, total = l.net[0] + l.net[1] + l.net[2] + l.net[3] →
        (l.tmm < 1000000 ∨ total ≤ 0 → c.rate = none) ∧
        (1000000 ≤ l.tmm → 0 < total →
          c.rate = some (min 4294967295 ((2 * (total * 1000000) + l.tmm) / (2 * l.tmm)).toNat))) ∧
      t.legs.current = .opened (n + 1) s.clock s.sup.tonnage)) ∧
  (∀ (s : State) (n : Nat), s.up = true → s.quiet →
    let cmd := exec (.releaseLeg n) s
    (s.legs.log = [] → cmd = .next (s.answered ⟨.noSuch, []⟩)) ∧
    ∀ c rest, s.legs.log = c :: rest →
      (n ≠ c.leg.number → cmd = .next (s.answered ⟨.badValue, []⟩)) ∧
      (n = c.leg.number → s.legs.current.pendingClose = false →
        cmd = .next ({ s with legs := ⟨s.legs.current, rest⟩ }.answered
          ⟨.accepted, unsigned 4 n ++ [0, 0, 0, 0, 0, 0, 0, 0, 0]⟩)) ∧
      (n = c.leg.number → s.legs.current.pendingClose = true → s.legs.current.number ≠ 4294967295 →
        ∃ t d, cmd = .next t ∧ t = { s with legs := t.legs, port := t.port, ckpt := t.ckpt } ∧
          t.legs.log = rest ++ [d] ∧ d.leg = { s.legs.current with pendingClose := false } ∧ d.cause = .makeupDeferred ∧
          t.legs.current = .opened (s.legs.current.number + 1) s.clock s.sup.tonnage)) ∧
  ((∀ (s : State), s.legs.current.number ≠ 4294967295 →
    let l := s.legs.current
    let t := makeupEvent s
    (l.pendingClose = true → t = s) ∧
    (l.pendingClose = false → s.legs.log.length < 12 → ∃ c, t.legs.log = s.legs.log ++ [c] ∧ c.leg = l ∧ c.closeStamp = s.clock ∧
      c.cause = .makeup ∧ t.legs.current = .opened (l.number + 1) s.clock s.sup.tonnage ∧
      t = { s with legs := t.legs, port := t.port, settling := { s.settling with checkpoint := true } }) ∧
    (l.pendingClose = false → 12 ≤ s.legs.log.length →
      t = report .legLogFull (.leg l.number) (unsigned 4 ((s.legs.log.map (·.leg.number)).headD 0))
        { s with legs := { s.legs with current := { l with mixed := true, pendingClose := true } } })) ∧
  ∀ (s : State) (p : Pos) (b : Barge), s.up = true → s.quiet → s.liveOrders = [] → 1 ≤ p.col ∧ p.col ≤ 5 ∧ 1 ≤ p.row ∧ p.row ≤ 6 →
    s.barge? p = some b → b.state = .inTow → b.held = false → s.legs.current.number ≠ 4294967295 →
    ∃ t, exec (.removeBarge p) s = .next t ∧ SameStores s t ∧ t.sup.tonnage = tonnageOf t.sup.barges ∧
      (s.legs.current.pendingClose = true → t.legs = s.legs) ∧
      (s.legs.current.pendingClose = false → s.legs.log.length < 12 → ∃ c, t.legs.log = s.legs.log ++ [c] ∧
        c.leg = s.legs.current ∧ c.closeStamp = s.clock ∧ c.cause = .makeup ∧
        t.legs.current = .opened (s.legs.current.number + 1) s.clock t.sup.tonnage) ∧
      (s.legs.current.pendingClose = false → 12 ≤ s.legs.log.length →
        t.legs = { s.legs with current := { s.legs.current with mixed := true, pendingClose := true } }))

/-! ## After reset -/

/-- After reset, the POWER_ON start of a new part (log entry 2, the model's choice): every invariant above holds, of the tables, the
orders, the lever, the demands, the steering, the legs, the Report Queue and the settings. R78: the zero-latch is set and Le is 0. R100:
every channel is STOPPED at its idle speed. R122: the helm is amidships in RUDDER_DIFF. R56, R170: no node is known and no order live.
R156: leg 1 is open and the Leg Log empty. -/
def Obligations.StateAfterReset : Prop :=
  (TowFiguresOk State.reset) ∧
  (TablesOk State.reset) ∧
  (OrdersOk State.reset ∧ PlacesOk State.reset ∧ State.reset.liveOrders = []) ∧
  (State.reset.line.nodes = [] ∧ NodesOk State.reset) ∧
  (LeverOk State.reset ∧ State.reset.prop.latch = true ∧ State.reset.prop.lever = 0 ∧ State.reset.prop.le = 0 ∧
    State.reset.prop.phase = .normal ∧ State.reset.prop.sync = false) ∧
  (DemandOk State.reset ∧ ∀ e : Fin 4, State.reset.chans[e].demand = 600 ∧ State.reset.chans[e].gear = .stopped) ∧
  (SteeringOk State.reset ∧ State.reset.steer.helm = 0 ∧ State.reset.steer.mode = .rudderDiff ∧
    State.reset.steer.degraded = false ∧ ∀ r : Fin 8, State.reset.steer.rudders[r].state = .ok ∧
      State.reset.steer.rudders[r].valve = .none ∧ State.reset.steer.rudders[r].target = 0) ∧
  (LegLogOk State.reset ∧ State.reset.legs.log = [] ∧ State.reset.legs.current.number = 1) ∧
  (ReportQueueOk State.reset) ∧
  (SettingsOk State.reset) ∧
  (State.reset.quiet)
end

