-- ==== Sys2Proof/Laws/State.lean ====
section
/-! SUPPORT. What an update of one part of the state leaves and sets: one lemma for each field and each update. -/

namespace Sys2Proof.Machine

@[simp] theorem onPort_port (s : State) (f : Port → Port) : (s.onPort f).port = f s.port := rfl
@[simp] theorem onPort_prop (s : State) (f : Port → Port) : (s.onPort f).prop = s.prop := rfl
@[simp] theorem onPort_chans (s : State) (f : Port → Port) : (s.onPort f).chans = s.chans := rfl
@[simp] theorem onPort_steer (s : State) (f : Port → Port) : (s.onPort f).steer = s.steer := rfl
@[simp] theorem onPort_sup (s : State) (f : Port → Port) : (s.onPort f).sup = s.sup := rfl
@[simp] theorem onPort_line (s : State) (f : Port → Port) : (s.onPort f).line = s.line := rfl
@[simp] theorem onPort_orders (s : State) (f : Port → Port) : (s.onPort f).orders = s.orders := rfl
@[simp] theorem onPort_fuel (s : State) (f : Port → Port) : (s.onPort f).fuel = s.fuel := rfl
@[simp] theorem onPort_legs (s : State) (f : Port → Port) : (s.onPort f).legs = s.legs := rfl
@[simp] theorem onPort_store (s : State) (f : Port → Port) : (s.onPort f).store = s.store := rfl
@[simp] theorem onPort_ckpt (s : State) (f : Port → Port) : (s.onPort f).ckpt = s.ckpt := rfl
@[simp] theorem onPort_ctl (s : State) (f : Port → Port) : (s.onPort f).ctl = s.ctl := rfl
@[simp] theorem onPort_clock (s : State) (f : Port → Port) : (s.onPort f).clock = s.clock := rfl
@[simp] theorem onPort_settling (s : State) (f : Port → Port) : (s.onPort f).settling = s.settling := rfl
@[simp] theorem onPort_readings (s : State) (f : Port → Port) : (s.onPort f).readings = s.readings := rfl
@[simp] theorem onPort_pending (s : State) (f : Port → Port) : (s.onPort f).pending = s.pending := rfl

@[simp] theorem onProp_port (s : State) (f : Propulsion → Propulsion) : (s.onProp f).port = s.port := rfl
@[simp] theorem onProp_prop (s : State) (f : Propulsion → Propulsion) : (s.onProp f).prop = f s.prop := rfl
@[simp] theorem onProp_chans (s : State) (f : Propulsion → Propulsion) : (s.onProp f).chans = s.chans := rfl
@[simp] theorem onProp_steer (s : State) (f : Propulsion → Propulsion) : (s.onProp f).steer = s.steer := rfl
@[simp] theorem onProp_sup (s : State) (f : Propulsion → Propulsion) : (s.onProp f).sup = s.sup := rfl
@[simp] theorem onProp_line (s : State) (f : Propulsion → Propulsion) : (s.onProp f).line = s.line := rfl
@[simp] theorem onProp_orders (s : State) (f : Propulsion → Propulsion) : (s.onProp f).orders = s.orders := rfl
@[simp] theorem onProp_fuel (s : State) (f : Propulsion → Propulsion) : (s.onProp f).fuel = s.fuel := rfl
@[simp] theorem onProp_legs (s : State) (f : Propulsion → Propulsion) : (s.onProp f).legs = s.legs := rfl
@[simp] theorem onProp_store (s : State) (f : Propulsion → Propulsion) : (s.onProp f).store = s.store := rfl
@[simp] theorem onProp_ckpt (s : State) (f : Propulsion → Propulsion) : (s.onProp f).ckpt = s.ckpt := rfl
@[simp] theorem onProp_ctl (s : State) (f : Propulsion → Propulsion) : (s.onProp f).ctl = s.ctl := rfl
@[simp] theorem onProp_clock (s : State) (f : Propulsion → Propulsion) : (s.onProp f).clock = s.clock := rfl
@[simp] theorem onProp_settling (s : State) (f : Propulsion → Propulsion) : (s.onProp f).settling = s.settling := rfl
@[simp] theorem onProp_readings (s : State) (f : Propulsion → Propulsion) : (s.onProp f).readings = s.readings := rfl
@[simp] theorem onProp_pending (s : State) (f : Propulsion → Propulsion) : (s.onProp f).pending = s.pending := rfl

@[simp] theorem onSteer_port (s : State) (f : Steering → Steering) : (s.onSteer f).port = s.port := rfl
@[simp] theorem onSteer_prop (s : State) (f : Steering → Steering) : (s.onSteer f).prop = s.prop := rfl
@[simp] theorem onSteer_chans (s : State) (f : Steering → Steering) : (s.onSteer f).chans = s.chans := rfl
@[simp] theorem onSteer_steer (s : State) (f : Steering → Steering) : (s.onSteer f).steer = f s.steer := rfl
@[simp] theorem onSteer_sup (s : State) (f : Steering → Steering) : (s.onSteer f).sup = s.sup := rfl
@[simp] theorem onSteer_line (s : State) (f : Steering → Steering) : (s.onSteer f).line = s.line := rfl
@[simp] theorem onSteer_orders (s : State) (f : Steering → Steering) : (s.onSteer f).orders = s.orders := rfl
@[simp] theorem onSteer_fuel (s : State) (f : Steering → Steering) : (s.onSteer f).fuel = s.fuel := rfl
@[simp] theorem onSteer_legs (s : State) (f : Steering → Steering) : (s.onSteer f).legs = s.legs := rfl
@[simp] theorem onSteer_store (s : State) (f : Steering → Steering) : (s.onSteer f).store = s.store := rfl
@[simp] theorem onSteer_ckpt (s : State) (f : Steering → Steering) : (s.onSteer f).ckpt = s.ckpt := rfl
@[simp] theorem onSteer_ctl (s : State) (f : Steering → Steering) : (s.onSteer f).ctl = s.ctl := rfl
@[simp] theorem onSteer_clock (s : State) (f : Steering → Steering) : (s.onSteer f).clock = s.clock := rfl
@[simp] theorem onSteer_settling (s : State) (f : Steering → Steering) : (s.onSteer f).settling = s.settling := rfl
@[simp] theorem onSteer_readings (s : State) (f : Steering → Steering) : (s.onSteer f).readings = s.readings := rfl
@[simp] theorem onSteer_pending (s : State) (f : Steering → Steering) : (s.onSteer f).pending = s.pending := rfl

@[simp] theorem onSup_port (s : State) (f : Supervisor → Supervisor) : (s.onSup f).port = s.port := rfl
@[simp] theorem onSup_prop (s : State) (f : Supervisor → Supervisor) : (s.onSup f).prop = s.prop := rfl
@[simp] theorem onSup_chans (s : State) (f : Supervisor → Supervisor) : (s.onSup f).chans = s.chans := rfl
@[simp] theorem onSup_steer (s : State) (f : Supervisor → Supervisor) : (s.onSup f).steer = s.steer := rfl
@[simp] theorem onSup_sup (s : State) (f : Supervisor → Supervisor) : (s.onSup f).sup = f s.sup := rfl
@[simp] theorem onSup_line (s : State) (f : Supervisor → Supervisor) : (s.onSup f).line = s.line := rfl
@[simp] theorem onSup_orders (s : State) (f : Supervisor → Supervisor) : (s.onSup f).orders = s.orders := rfl
@[simp] theorem onSup_fuel (s : State) (f : Supervisor → Supervisor) : (s.onSup f).fuel = s.fuel := rfl
@[simp] theorem onSup_legs (s : State) (f : Supervisor → Supervisor) : (s.onSup f).legs = s.legs := rfl
@[simp] theorem onSup_store (s : State) (f : Supervisor → Supervisor) : (s.onSup f).store = s.store := rfl
@[simp] theorem onSup_ckpt (s : State) (f : Supervisor → Supervisor) : (s.onSup f).ckpt = s.ckpt := rfl
@[simp] theorem onSup_ctl (s : State) (f : Supervisor → Supervisor) : (s.onSup f).ctl = s.ctl := rfl
@[simp] theorem onSup_clock (s : State) (f : Supervisor → Supervisor) : (s.onSup f).clock = s.clock := rfl
@[simp] theorem onSup_settling (s : State) (f : Supervisor → Supervisor) : (s.onSup f).settling = s.settling := rfl
@[simp] theorem onSup_readings (s : State) (f : Supervisor → Supervisor) : (s.onSup f).readings = s.readings := rfl
@[simp] theorem onSup_pending (s : State) (f : Supervisor → Supervisor) : (s.onSup f).pending = s.pending := rfl

@[simp] theorem onLine_port (s : State) (f : Line → Line) : (s.onLine f).port = s.port := rfl
@[simp] theorem onLine_prop (s : State) (f : Line → Line) : (s.onLine f).prop = s.prop := rfl
@[simp] theorem onLine_chans (s : State) (f : Line → Line) : (s.onLine f).chans = s.chans := rfl
@[simp] theorem onLine_steer (s : State) (f : Line → Line) : (s.onLine f).steer = s.steer := rfl
@[simp] theorem onLine_sup (s : State) (f : Line → Line) : (s.onLine f).sup = s.sup := rfl
@[simp] theorem onLine_line (s : State) (f : Line → Line) : (s.onLine f).line = f s.line := rfl
@[simp] theorem onLine_orders (s : State) (f : Line → Line) : (s.onLine f).orders = s.orders := rfl
@[simp] theorem onLine_fuel (s : State) (f : Line → Line) : (s.onLine f).fuel = s.fuel := rfl
@[simp] theorem onLine_legs (s : State) (f : Line → Line) : (s.onLine f).legs = s.legs := rfl
@[simp] theorem onLine_store (s : State) (f : Line → Line) : (s.onLine f).store = s.store := rfl
@[simp] theorem onLine_ckpt (s : State) (f : Line → Line) : (s.onLine f).ckpt = s.ckpt := rfl
@[simp] theorem onLine_ctl (s : State) (f : Line → Line) : (s.onLine f).ctl = s.ctl := rfl
@[simp] theorem onLine_clock (s : State) (f : Line → Line) : (s.onLine f).clock = s.clock := rfl
@[simp] theorem onLine_settling (s : State) (f : Line → Line) : (s.onLine f).settling = s.settling := rfl
@[simp] theorem onLine_readings (s : State) (f : Line → Line) : (s.onLine f).readings = s.readings := rfl
@[simp] theorem onLine_pending (s : State) (f : Line → Line) : (s.onLine f).pending = s.pending := rfl

@[simp] theorem onOrders_port (s : State) (f : Orders → Orders) : (s.onOrders f).port = s.port := rfl
@[simp] theorem onOrders_prop (s : State) (f : Orders → Orders) : (s.onOrders f).prop = s.prop := rfl
@[simp] theorem onOrders_chans (s : State) (f : Orders → Orders) : (s.onOrders f).chans = s.chans := rfl
@[simp] theorem onOrders_steer (s : State) (f : Orders → Orders) : (s.onOrders f).steer = s.steer := rfl
@[simp] theorem onOrders_sup (s : State) (f : Orders → Orders) : (s.onOrders f).sup = s.sup := rfl
@[simp] theorem onOrders_line (s : State) (f : Orders → Orders) : (s.onOrders f).line = s.line := rfl
@[simp] theorem onOrders_orders (s : State) (f : Orders → Orders) : (s.onOrders f).orders = f s.orders := rfl
@[simp] theorem onOrders_fuel (s : State) (f : Orders → Orders) : (s.onOrders f).fuel = s.fuel := rfl
@[simp] theorem onOrders_legs (s : State) (f : Orders → Orders) : (s.onOrders f).legs = s.legs := rfl
@[simp] theorem onOrders_store (s : State) (f : Orders → Orders) : (s.onOrders f).store = s.store := rfl
@[simp] theorem onOrders_ckpt (s : State) (f : Orders → Orders) : (s.onOrders f).ckpt = s.ckpt := rfl
@[simp] theorem onOrders_ctl (s : State) (f : Orders → Orders) : (s.onOrders f).ctl = s.ctl := rfl
@[simp] theorem onOrders_clock (s : State) (f : Orders → Orders) : (s.onOrders f).clock = s.clock := rfl
@[simp] theorem onOrders_settling (s : State) (f : Orders → Orders) : (s.onOrders f).settling = s.settling := rfl
@[simp] theorem onOrders_readings (s : State) (f : Orders → Orders) : (s.onOrders f).readings = s.readings := rfl
@[simp] theorem onOrders_pending (s : State) (f : Orders → Orders) : (s.onOrders f).pending = s.pending := rfl

@[simp] theorem onFuel_port (s : State) (f : Fuel → Fuel) : (s.onFuel f).port = s.port := rfl
@[simp] theorem onFuel_prop (s : State) (f : Fuel → Fuel) : (s.onFuel f).prop = s.prop := rfl
@[simp] theorem onFuel_chans (s : State) (f : Fuel → Fuel) : (s.onFuel f).chans = s.chans := rfl
@[simp] theorem onFuel_steer (s : State) (f : Fuel → Fuel) : (s.onFuel f).steer = s.steer := rfl
@[simp] theorem onFuel_sup (s : State) (f : Fuel → Fuel) : (s.onFuel f).sup = s.sup := rfl
@[simp] theorem onFuel_line (s : State) (f : Fuel → Fuel) : (s.onFuel f).line = s.line := rfl
@[simp] theorem onFuel_orders (s : State) (f : Fuel → Fuel) : (s.onFuel f).orders = s.orders := rfl
@[simp] theorem onFuel_fuel (s : State) (f : Fuel → Fuel) : (s.onFuel f).fuel = f s.fuel := rfl
@[simp] theorem onFuel_legs (s : State) (f : Fuel → Fuel) : (s.onFuel f).legs = s.legs := rfl
@[simp] theorem onFuel_store (s : State) (f : Fuel → Fuel) : (s.onFuel f).store = s.store := rfl
@[simp] theorem onFuel_ckpt (s : State) (f : Fuel → Fuel) : (s.onFuel f).ckpt = s.ckpt := rfl
@[simp] theorem onFuel_ctl (s : State) (f : Fuel → Fuel) : (s.onFuel f).ctl = s.ctl := rfl
@[simp] theorem onFuel_clock (s : State) (f : Fuel → Fuel) : (s.onFuel f).clock = s.clock := rfl
@[simp] theorem onFuel_settling (s : State) (f : Fuel → Fuel) : (s.onFuel f).settling = s.settling := rfl
@[simp] theorem onFuel_readings (s : State) (f : Fuel → Fuel) : (s.onFuel f).readings = s.readings := rfl
@[simp] theorem onFuel_pending (s : State) (f : Fuel → Fuel) : (s.onFuel f).pending = s.pending := rfl

@[simp] theorem onLegs_port (s : State) (f : Legs → Legs) : (s.onLegs f).port = s.port := rfl
@[simp] theorem onLegs_prop (s : State) (f : Legs → Legs) : (s.onLegs f).prop = s.prop := rfl
@[simp] theorem onLegs_chans (s : State) (f : Legs → Legs) : (s.onLegs f).chans = s.chans := rfl
@[simp] theorem onLegs_steer (s : State) (f : Legs → Legs) : (s.onLegs f).steer = s.steer := rfl
@[simp] theorem onLegs_sup (s : State) (f : Legs → Legs) : (s.onLegs f).sup = s.sup := rfl
@[simp] theorem onLegs_line (s : State) (f : Legs → Legs) : (s.onLegs f).line = s.line := rfl
@[simp] theorem onLegs_orders (s : State) (f : Legs → Legs) : (s.onLegs f).orders = s.orders := rfl
@[simp] theorem onLegs_fuel (s : State) (f : Legs → Legs) : (s.onLegs f).fuel = s.fuel := rfl
@[simp] theorem onLegs_legs (s : State) (f : Legs → Legs) : (s.onLegs f).legs = f s.legs := rfl
@[simp] theorem onLegs_store (s : State) (f : Legs → Legs) : (s.onLegs f).store = s.store := rfl
@[simp] theorem onLegs_ckpt (s : State) (f : Legs → Legs) : (s.onLegs f).ckpt = s.ckpt := rfl
@[simp] theorem onLegs_ctl (s : State) (f : Legs → Legs) : (s.onLegs f).ctl = s.ctl := rfl
@[simp] theorem onLegs_clock (s : State) (f : Legs → Legs) : (s.onLegs f).clock = s.clock := rfl
@[simp] theorem onLegs_settling (s : State) (f : Legs → Legs) : (s.onLegs f).settling = s.settling := rfl
@[simp] theorem onLegs_readings (s : State) (f : Legs → Legs) : (s.onLegs f).readings = s.readings := rfl
@[simp] theorem onLegs_pending (s : State) (f : Legs → Legs) : (s.onLegs f).pending = s.pending := rfl

@[simp] theorem onStore_port (s : State) (f : Store → Store) : (s.onStore f).port = s.port := rfl
@[simp] theorem onStore_prop (s : State) (f : Store → Store) : (s.onStore f).prop = s.prop := rfl
@[simp] theorem onStore_chans (s : State) (f : Store → Store) : (s.onStore f).chans = s.chans := rfl
@[simp] theorem onStore_steer (s : State) (f : Store → Store) : (s.onStore f).steer = s.steer := rfl
@[simp] theorem onStore_sup (s : State) (f : Store → Store) : (s.onStore f).sup = s.sup := rfl
@[simp] theorem onStore_line (s : State) (f : Store → Store) : (s.onStore f).line = s.line := rfl
@[simp] theorem onStore_orders (s : State) (f : Store → Store) : (s.onStore f).orders = s.orders := rfl
@[simp] theorem onStore_fuel (s : State) (f : Store → Store) : (s.onStore f).fuel = s.fuel := rfl
@[simp] theorem onStore_legs (s : State) (f : Store → Store) : (s.onStore f).legs = s.legs := rfl
@[simp] theorem onStore_store (s : State) (f : Store → Store) : (s.onStore f).store = f s.store := rfl
@[simp] theorem onStore_ckpt (s : State) (f : Store → Store) : (s.onStore f).ckpt = s.ckpt := rfl
@[simp] theorem onStore_ctl (s : State) (f : Store → Store) : (s.onStore f).ctl = s.ctl := rfl
@[simp] theorem onStore_clock (s : State) (f : Store → Store) : (s.onStore f).clock = s.clock := rfl
@[simp] theorem onStore_settling (s : State) (f : Store → Store) : (s.onStore f).settling = s.settling := rfl
@[simp] theorem onStore_readings (s : State) (f : Store → Store) : (s.onStore f).readings = s.readings := rfl
@[simp] theorem onStore_pending (s : State) (f : Store → Store) : (s.onStore f).pending = s.pending := rfl

@[simp] theorem onCkpt_port (s : State) (f : Checkpoint → Checkpoint) : (s.onCkpt f).port = s.port := rfl
@[simp] theorem onCkpt_prop (s : State) (f : Checkpoint → Checkpoint) : (s.onCkpt f).prop = s.prop := rfl
@[simp] theorem onCkpt_chans (s : State) (f : Checkpoint → Checkpoint) : (s.onCkpt f).chans = s.chans := rfl
@[simp] theorem onCkpt_steer (s : State) (f : Checkpoint → Checkpoint) : (s.onCkpt f).steer = s.steer := rfl
@[simp] theorem onCkpt_sup (s : State) (f : Checkpoint → Checkpoint) : (s.onCkpt f).sup = s.sup := rfl
@[simp] theorem onCkpt_line (s : State) (f : Checkpoint → Checkpoint) : (s.onCkpt f).line = s.line := rfl
@[simp] theorem onCkpt_orders (s : State) (f : Checkpoint → Checkpoint) : (s.onCkpt f).orders = s.orders := rfl
@[simp] theorem onCkpt_fuel (s : State) (f : Checkpoint → Checkpoint) : (s.onCkpt f).fuel = s.fuel := rfl
@[simp] theorem onCkpt_legs (s : State) (f : Checkpoint → Checkpoint) : (s.onCkpt f).legs = s.legs := rfl
@[simp] theorem onCkpt_store (s : State) (f : Checkpoint → Checkpoint) : (s.onCkpt f).store = s.store := rfl
@[simp] theorem onCkpt_ckpt (s : State) (f : Checkpoint → Checkpoint) : (s.onCkpt f).ckpt = f s.ckpt := rfl
@[simp] theorem onCkpt_ctl (s : State) (f : Checkpoint → Checkpoint) : (s.onCkpt f).ctl = s.ctl := rfl
@[simp] theorem onCkpt_clock (s : State) (f : Checkpoint → Checkpoint) : (s.onCkpt f).clock = s.clock := rfl
@[simp] theorem onCkpt_settling (s : State) (f : Checkpoint → Checkpoint) : (s.onCkpt f).settling = s.settling := rfl
@[simp] theorem onCkpt_readings (s : State) (f : Checkpoint → Checkpoint) : (s.onCkpt f).readings = s.readings := rfl
@[simp] theorem onCkpt_pending (s : State) (f : Checkpoint → Checkpoint) : (s.onCkpt f).pending = s.pending := rfl

@[simp] theorem onCtl_port (s : State) (f : StartControl → StartControl) : (s.onCtl f).port = s.port := rfl
@[simp] theorem onCtl_prop (s : State) (f : StartControl → StartControl) : (s.onCtl f).prop = s.prop := rfl
@[simp] theorem onCtl_chans (s : State) (f : StartControl → StartControl) : (s.onCtl f).chans = s.chans := rfl
@[simp] theorem onCtl_steer (s : State) (f : StartControl → StartControl) : (s.onCtl f).steer = s.steer := rfl
@[simp] theorem onCtl_sup (s : State) (f : StartControl → StartControl) : (s.onCtl f).sup = s.sup := rfl
@[simp] theorem onCtl_line (s : State) (f : StartControl → StartControl) : (s.onCtl f).line = s.line := rfl
@[simp] theorem onCtl_orders (s : State) (f : StartControl → StartControl) : (s.onCtl f).orders = s.orders := rfl
@[simp] theorem onCtl_fuel (s : State) (f : StartControl → StartControl) : (s.onCtl f).fuel = s.fuel := rfl
@[simp] theorem onCtl_legs (s : State) (f : StartControl → StartControl) : (s.onCtl f).legs = s.legs := rfl
@[simp] theorem onCtl_store (s : State) (f : StartControl → StartControl) : (s.onCtl f).store = s.store := rfl
@[simp] theorem onCtl_ckpt (s : State) (f : StartControl → StartControl) : (s.onCtl f).ckpt = s.ckpt := rfl
@[simp] theorem onCtl_ctl (s : State) (f : StartControl → StartControl) : (s.onCtl f).ctl = f s.ctl := rfl
@[simp] theorem onCtl_clock (s : State) (f : StartControl → StartControl) : (s.onCtl f).clock = s.clock := rfl
@[simp] theorem onCtl_settling (s : State) (f : StartControl → StartControl) : (s.onCtl f).settling = s.settling := rfl
@[simp] theorem onCtl_readings (s : State) (f : StartControl → StartControl) : (s.onCtl f).readings = s.readings := rfl
@[simp] theorem onCtl_pending (s : State) (f : StartControl → StartControl) : (s.onCtl f).pending = s.pending := rfl

@[simp] theorem onSettling_port (s : State) (f : Settling → Settling) : (s.onSettling f).port = s.port := rfl
@[simp] theorem onSettling_prop (s : State) (f : Settling → Settling) : (s.onSettling f).prop = s.prop := rfl
@[simp] theorem onSettling_chans (s : State) (f : Settling → Settling) : (s.onSettling f).chans = s.chans := rfl
@[simp] theorem onSettling_steer (s : State) (f : Settling → Settling) : (s.onSettling f).steer = s.steer := rfl
@[simp] theorem onSettling_sup (s : State) (f : Settling → Settling) : (s.onSettling f).sup = s.sup := rfl
@[simp] theorem onSettling_line (s : State) (f : Settling → Settling) : (s.onSettling f).line = s.line := rfl
@[simp] theorem onSettling_orders (s : State) (f : Settling → Settling) : (s.onSettling f).orders = s.orders := rfl
@[simp] theorem onSettling_fuel (s : State) (f : Settling → Settling) : (s.onSettling f).fuel = s.fuel := rfl
@[simp] theorem onSettling_legs (s : State) (f : Settling → Settling) : (s.onSettling f).legs = s.legs := rfl
@[simp] theorem onSettling_store (s : State) (f : Settling → Settling) : (s.onSettling f).store = s.store := rfl
@[simp] theorem onSettling_ckpt (s : State) (f : Settling → Settling) : (s.onSettling f).ckpt = s.ckpt := rfl
@[simp] theorem onSettling_ctl (s : State) (f : Settling → Settling) : (s.onSettling f).ctl = s.ctl := rfl
@[simp] theorem onSettling_clock (s : State) (f : Settling → Settling) : (s.onSettling f).clock = s.clock := rfl
@[simp] theorem onSettling_settling (s : State) (f : Settling → Settling) : (s.onSettling f).settling = f s.settling := rfl
@[simp] theorem onSettling_readings (s : State) (f : Settling → Settling) : (s.onSettling f).readings = s.readings := rfl
@[simp] theorem onSettling_pending (s : State) (f : Settling → Settling) : (s.onSettling f).pending = s.pending := rfl

@[simp] theorem onChan_port (s : State) (i : Fin 4) (f : Channel → Channel) : (s.onChan i f).port = s.port := rfl
@[simp] theorem onChan_prop (s : State) (i : Fin 4) (f : Channel → Channel) : (s.onChan i f).prop = s.prop := rfl
@[simp] theorem onChan_chans (s : State) (i : Fin 4) (f : Channel → Channel) : (s.onChan i f).chans = s.chans.set i (f s.chans[i]) := rfl
@[simp] theorem onChan_steer (s : State) (i : Fin 4) (f : Channel → Channel) : (s.onChan i f).steer = s.steer := rfl
@[simp] theorem onChan_sup (s : State) (i : Fin 4) (f : Channel → Channel) : (s.onChan i f).sup = s.sup := rfl
@[simp] theorem onChan_line (s : State) (i : Fin 4) (f : Channel → Channel) : (s.onChan i f).line = s.line := rfl
@[simp] theorem onChan_orders (s : State) (i : Fin 4) (f : Channel → Channel) : (s.onChan i f).orders = s.orders := rfl
@[simp] theorem onChan_fuel (s : State) (i : Fin 4) (f : Channel → Channel) : (s.onChan i f).fuel = s.fuel := rfl
@[simp] theorem onChan_legs (s : State) (i : Fin 4) (f : Channel → Channel) : (s.onChan i f).legs = s.legs := rfl
@[simp] theorem onChan_store (s : State) (i : Fin 4) (f : Channel → Channel) : (s.onChan i f).store = s.store := rfl
@[simp] theorem onChan_ckpt (s : State) (i : Fin 4) (f : Channel → Channel) : (s.onChan i f).ckpt = s.ckpt := rfl
@[simp] theorem onChan_ctl (s : State) (i : Fin 4) (f : Channel → Channel) : (s.onChan i f).ctl = s.ctl := rfl
@[simp] theorem onChan_clock (s : State) (i : Fin 4) (f : Channel → Channel) : (s.onChan i f).clock = s.clock := rfl
@[simp] theorem onChan_settling (s : State) (i : Fin 4) (f : Channel → Channel) : (s.onChan i f).settling = s.settling := rfl
@[simp] theorem onChan_readings (s : State) (i : Fin 4) (f : Channel → Channel) : (s.onChan i f).readings = s.readings := rfl
@[simp] theorem onChan_pending (s : State) (i : Fin 4) (f : Channel → Channel) : (s.onChan i f).pending = s.pending := rfl

@[simp] theorem onRudder_port (s : State) (i : Fin 8) (f : Rudder → Rudder) : (s.onRudder i f).port = s.port := rfl
@[simp] theorem onRudder_prop (s : State) (i : Fin 8) (f : Rudder → Rudder) : (s.onRudder i f).prop = s.prop := rfl
@[simp] theorem onRudder_chans (s : State) (i : Fin 8) (f : Rudder → Rudder) : (s.onRudder i f).chans = s.chans := rfl
@[simp] theorem onRudder_steer (s : State) (i : Fin 8) (f : Rudder → Rudder) : (s.onRudder i f).steer = { s.steer with rudders := s.steer.rudders.set i (f s.steer.rudders[i]) } := rfl
@[simp] theorem onRudder_sup (s : State) (i : Fin 8) (f : Rudder → Rudder) : (s.onRudder i f).sup = s.sup := rfl
@[simp] theorem onRudder_line (s : State) (i : Fin 8) (f : Rudder → Rudder) : (s.onRudder i f).line = s.line := rfl
@[simp] theorem onRudder_orders (s : State) (i : Fin 8) (f : Rudder → Rudder) : (s.onRudder i f).orders = s.orders := rfl
@[simp] theorem onRudder_fuel (s : State) (i : Fin 8) (f : Rudder → Rudder) : (s.onRudder i f).fuel = s.fuel := rfl
@[simp] theorem onRudder_legs (s : State) (i : Fin 8) (f : Rudder → Rudder) : (s.onRudder i f).legs = s.legs := rfl
@[simp] theorem onRudder_store (s : State) (i : Fin 8) (f : Rudder → Rudder) : (s.onRudder i f).store = s.store := rfl
@[simp] theorem onRudder_ckpt (s : State) (i : Fin 8) (f : Rudder → Rudder) : (s.onRudder i f).ckpt = s.ckpt := rfl
@[simp] theorem onRudder_ctl (s : State) (i : Fin 8) (f : Rudder → Rudder) : (s.onRudder i f).ctl = s.ctl := rfl
@[simp] theorem onRudder_clock (s : State) (i : Fin 8) (f : Rudder → Rudder) : (s.onRudder i f).clock = s.clock := rfl
@[simp] theorem onRudder_settling (s : State) (i : Fin 8) (f : Rudder → Rudder) : (s.onRudder i f).settling = s.settling := rfl
@[simp] theorem onRudder_readings (s : State) (i : Fin 8) (f : Rudder → Rudder) : (s.onRudder i f).readings = s.readings := rfl
@[simp] theorem onRudder_pending (s : State) (i : Fin 8) (f : Rudder → Rudder) : (s.onRudder i f).pending = s.pending := rfl

@[simp] theorem onTank_port (s : State) (i : Fin 8) (f : Tank → Tank) : (s.onTank i f).port = s.port := rfl
@[simp] theorem onTank_prop (s : State) (i : Fin 8) (f : Tank → Tank) : (s.onTank i f).prop = s.prop := rfl
@[simp] theorem onTank_chans (s : State) (i : Fin 8) (f : Tank → Tank) : (s.onTank i f).chans = s.chans := rfl
@[simp] theorem onTank_steer (s : State) (i : Fin 8) (f : Tank → Tank) : (s.onTank i f).steer = s.steer := rfl
@[simp] theorem onTank_sup (s : State) (i : Fin 8) (f : Tank → Tank) : (s.onTank i f).sup = s.sup := rfl
@[simp] theorem onTank_line (s : State) (i : Fin 8) (f : Tank → Tank) : (s.onTank i f).line = s.line := rfl
@[simp] theorem onTank_orders (s : State) (i : Fin 8) (f : Tank → Tank) : (s.onTank i f).orders = s.orders := rfl
@[simp] theorem onTank_fuel (s : State) (i : Fin 8) (f : Tank → Tank) : (s.onTank i f).fuel = { s.fuel with tanks := s.fuel.tanks.set i (f s.fuel.tanks[i]) } := rfl
@[simp] theorem onTank_legs (s : State) (i : Fin 8) (f : Tank → Tank) : (s.onTank i f).legs = s.legs := rfl
@[simp] theorem onTank_store (s : State) (i : Fin 8) (f : Tank → Tank) : (s.onTank i f).store = s.store := rfl
@[simp] theorem onTank_ckpt (s : State) (i : Fin 8) (f : Tank → Tank) : (s.onTank i f).ckpt = s.ckpt := rfl
@[simp] theorem onTank_ctl (s : State) (i : Fin 8) (f : Tank → Tank) : (s.onTank i f).ctl = s.ctl := rfl
@[simp] theorem onTank_clock (s : State) (i : Fin 8) (f : Tank → Tank) : (s.onTank i f).clock = s.clock := rfl
@[simp] theorem onTank_settling (s : State) (i : Fin 8) (f : Tank → Tank) : (s.onTank i f).settling = s.settling := rfl
@[simp] theorem onTank_readings (s : State) (i : Fin 8) (f : Tank → Tank) : (s.onTank i f).readings = s.readings := rfl
@[simp] theorem onTank_pending (s : State) (i : Fin 8) (f : Tank → Tank) : (s.onTank i f).pending = s.pending := rfl

@[simp] theorem onLeg_port (s : State) (f : Leg → Leg) : (s.onLeg f).port = s.port := rfl
@[simp] theorem onLeg_prop (s : State) (f : Leg → Leg) : (s.onLeg f).prop = s.prop := rfl
@[simp] theorem onLeg_chans (s : State) (f : Leg → Leg) : (s.onLeg f).chans = s.chans := rfl
@[simp] theorem onLeg_steer (s : State) (f : Leg → Leg) : (s.onLeg f).steer = s.steer := rfl
@[simp] theorem onLeg_sup (s : State) (f : Leg → Leg) : (s.onLeg f).sup = s.sup := rfl
@[simp] theorem onLeg_line (s : State) (f : Leg → Leg) : (s.onLeg f).line = s.line := rfl
@[simp] theorem onLeg_orders (s : State) (f : Leg → Leg) : (s.onLeg f).orders = s.orders := rfl
@[simp] theorem onLeg_fuel (s : State) (f : Leg → Leg) : (s.onLeg f).fuel = s.fuel := rfl
@[simp] theorem onLeg_legs (s : State) (f : Leg → Leg) : (s.onLeg f).legs = { s.legs with current := f s.legs.current } := rfl
@[simp] theorem onLeg_store (s : State) (f : Leg → Leg) : (s.onLeg f).store = s.store := rfl
@[simp] theorem onLeg_ckpt (s : State) (f : Leg → Leg) : (s.onLeg f).ckpt = s.ckpt := rfl
@[simp] theorem onLeg_ctl (s : State) (f : Leg → Leg) : (s.onLeg f).ctl = s.ctl := rfl
@[simp] theorem onLeg_clock (s : State) (f : Leg → Leg) : (s.onLeg f).clock = s.clock := rfl
@[simp] theorem onLeg_settling (s : State) (f : Leg → Leg) : (s.onLeg f).settling = s.settling := rfl
@[simp] theorem onLeg_readings (s : State) (f : Leg → Leg) : (s.onLeg f).readings = s.readings := rfl
@[simp] theorem onLeg_pending (s : State) (f : Leg → Leg) : (s.onLeg f).pending = s.pending := rfl

/-- A step that keeps `port`, run for each entry of a list, keeps it. -/
@[simp] theorem forAll_port {α : Type} (l : List α) (f : α → State → State) (s : State) (h : ∀ a t, (f a t).port = t.port) :
    (forAll l f s).port = s.port := by
  induction l generalizing s with
  | nil => rfl
  | cons a l ih => exact (ih (f a s)).trans (h a s)

/-- A step that keeps `prop`, run for each entry of a list, keeps it. -/
@[simp] theorem forAll_prop {α : Type} (l : List α) (f : α → State → State) (s : State) (h : ∀ a t, (f a t).prop = t.prop) :
    (forAll l f s).prop = s.prop := by
  induction l generalizing s with
  | nil => rfl
  | cons a l ih => exact (ih (f a s)).trans (h a s)

/-- A step that keeps `chans`, run for each entry of a list, keeps it. -/
@[simp] theorem forAll_chans {α : Type} (l : List α) (f : α → State → State) (s : State) (h : ∀ a t, (f a t).chans = t.chans) :
    (forAll l f s).chans = s.chans := by
  induction l generalizing s with
  | nil => rfl
  | cons a l ih => exact (ih (f a s)).trans (h a s)

/-- A step that keeps `steer`, run for each entry of a list, keeps it. -/
@[simp] theorem forAll_steer {α : Type} (l : List α) (f : α → State → State) (s : State) (h : ∀ a t, (f a t).steer = t.steer) :
    (forAll l f s).steer = s.steer := by
  induction l generalizing s with
  | nil => rfl
  | cons a l ih => exact (ih (f a s)).trans (h a s)

/-- A step that keeps `sup`, run for each entry of a list, keeps it. -/
@[simp] theorem forAll_sup {α : Type} (l : List α) (f : α → State → State) (s : State) (h : ∀ a t, (f a t).sup = t.sup) :
    (forAll l f s).sup = s.sup := by
  induction l generalizing s with
  | nil => rfl
  | cons a l ih => exact (ih (f a s)).trans (h a s)

/-- A step that keeps `line`, run for each entry of a list, keeps it. -/
@[simp] theorem forAll_line {α : Type} (l : List α) (f : α → State → State) (s : State) (h : ∀ a t, (f a t).line = t.line) :
    (forAll l f s).line = s.line := by
  induction l generalizing s with
  | nil => rfl
  | cons a l ih => exact (ih (f a s)).trans (h a s)

/-- A step that keeps `orders`, run for each entry of a list, keeps it. -/
@[simp] theorem forAll_orders {α : Type} (l : List α) (f : α → State → State) (s : State) (h : ∀ a t, (f a t).orders = t.orders) :
    (forAll l f s).orders = s.orders := by
  induction l generalizing s with
  | nil => rfl
  | cons a l ih => exact (ih (f a s)).trans (h a s)

/-- A step that keeps `fuel`, run for each entry of a list, keeps it. -/
@[simp] theorem forAll_fuel {α : Type} (l : List α) (f : α → State → State) (s : State) (h : ∀ a t, (f a t).fuel = t.fuel) :
    (forAll l f s).fuel = s.fuel := by
  induction l generalizing s with
  | nil => rfl
  | cons a l ih => exact (ih (f a s)).trans (h a s)

/-- A step that keeps `legs`, run for each entry of a list, keeps it. -/
@[simp] theorem forAll_legs {α : Type} (l : List α) (f : α → State → State) (s : State) (h : ∀ a t, (f a t).legs = t.legs) :
    (forAll l f s).legs = s.legs := by
  induction l generalizing s with
  | nil => rfl
  | cons a l ih => exact (ih (f a s)).trans (h a s)

/-- A step that keeps `store`, run for each entry of a list, keeps it. -/
@[simp] theorem forAll_store {α : Type} (l : List α) (f : α → State → State) (s : State) (h : ∀ a t, (f a t).store = t.store) :
    (forAll l f s).store = s.store := by
  induction l generalizing s with
  | nil => rfl
  | cons a l ih => exact (ih (f a s)).trans (h a s)

/-- A step that keeps `ckpt`, run for each entry of a list, keeps it. -/
@[simp] theorem forAll_ckpt {α : Type} (l : List α) (f : α → State → State) (s : State) (h : ∀ a t, (f a t).ckpt = t.ckpt) :
    (forAll l f s).ckpt = s.ckpt := by
  induction l generalizing s with
  | nil => rfl
  | cons a l ih => exact (ih (f a s)).trans (h a s)

/-- A step that keeps `ctl`, run for each entry of a list, keeps it. -/
@[simp] theorem forAll_ctl {α : Type} (l : List α) (f : α → State → State) (s : State) (h : ∀ a t, (f a t).ctl = t.ctl) :
    (forAll l f s).ctl = s.ctl := by
  induction l generalizing s with
  | nil => rfl
  | cons a l ih => exact (ih (f a s)).trans (h a s)

/-- A step that keeps `clock`, run for each entry of a list, keeps it. -/
@[simp] theorem forAll_clock {α : Type} (l : List α) (f : α → State → State) (s : State) (h : ∀ a t, (f a t).clock = t.clock) :
    (forAll l f s).clock = s.clock := by
  induction l generalizing s with
  | nil => rfl
  | cons a l ih => exact (ih (f a s)).trans (h a s)

/-- A step that keeps `settling`, run for each entry of a list, keeps it. -/
@[simp] theorem forAll_settling {α : Type} (l : List α) (f : α → State → State) (s : State) (h : ∀ a t, (f a t).settling = t.settling) :
    (forAll l f s).settling = s.settling := by
  induction l generalizing s with
  | nil => rfl
  | cons a l ih => exact (ih (f a s)).trans (h a s)

/-- A step that keeps `readings`, run for each entry of a list, keeps it. -/
@[simp] theorem forAll_readings {α : Type} (l : List α) (f : α → State → State) (s : State) (h : ∀ a t, (f a t).readings = t.readings) :
    (forAll l f s).readings = s.readings := by
  induction l generalizing s with
  | nil => rfl
  | cons a l ih => exact (ih (f a s)).trans (h a s)

/-- A step that keeps `pending`, run for each entry of a list, keeps it. -/
@[simp] theorem forAll_pending {α : Type} (l : List α) (f : α → State → State) (s : State) (h : ∀ a t, (f a t).pending = t.pending) :
    (forAll l f s).pending = s.pending := by
  induction l generalizing s with
  | nil => rfl
  | cons a l ih => exact (ih (f a s)).trans (h a s)

/-- The same for a fold over a list. -/
@[simp] theorem foldl_port {α : Type} (l : List α) (f : State → α → State) (s : State) (h : ∀ t a, (f t a).port = t.port) :
    (l.foldl f s).port = s.port := by
  induction l generalizing s with
  | nil => rfl
  | cons a l ih => exact (ih (f s a)).trans (h s a)

/-- The same for a fold over a list. -/
@[simp] theorem foldl_prop {α : Type} (l : List α) (f : State → α → State) (s : State) (h : ∀ t a, (f t a).prop = t.prop) :
    (l.foldl f s).prop = s.prop := by
  induction l generalizing s with
  | nil => rfl
  | cons a l ih => exact (ih (f s a)).trans (h s a)

/-- The same for a fold over a list. -/
@[simp] theorem foldl_chans {α : Type} (l : List α) (f : State → α → State) (s : State) (h : ∀ t a, (f t a).chans = t.chans) :
    (l.foldl f s).chans = s.chans := by
  induction l generalizing s with
  | nil => rfl
  | cons a l ih => exact (ih (f s a)).trans (h s a)

/-- The same for a fold over a list. -/
@[simp] theorem foldl_steer {α : Type} (l : List α) (f : State → α → State) (s : State) (h : ∀ t a, (f t a).steer = t.steer) :
    (l.foldl f s).steer = s.steer := by
  induction l generalizing s with
  | nil => rfl
  | cons a l ih => exact (ih (f s a)).trans (h s a)

/-- The same for a fold over a list. -/
@[simp] theorem foldl_sup {α : Type} (l : List α) (f : State → α → State) (s : State) (h : ∀ t a, (f t a).sup = t.sup) :
    (l.foldl f s).sup = s.sup := by
  induction l generalizing s with
  | nil => rfl
  | cons a l ih => exact (ih (f s a)).trans (h s a)

/-- The same for a fold over a list. -/
@[simp] theorem foldl_line {α : Type} (l : List α) (f : State → α → State) (s : State) (h : ∀ t a, (f t a).line = t.line) :
    (l.foldl f s).line = s.line := by
  induction l generalizing s with
  | nil => rfl
  | cons a l ih => exact (ih (f s a)).trans (h s a)

/-- The same for a fold over a list. -/
@[simp] theorem foldl_orders {α : Type} (l : List α) (f : State → α → State) (s : State) (h : ∀ t a, (f t a).orders = t.orders) :
    (l.foldl f s).orders = s.orders := by
  induction l generalizing s with
  | nil => rfl
  | cons a l ih => exact (ih (f s a)).trans (h s a)

/-- The same for a fold over a list. -/
@[simp] theorem foldl_fuel {α : Type} (l : List α) (f : State → α → State) (s : State) (h : ∀ t a, (f t a).fuel = t.fuel) :
    (l.foldl f s).fuel = s.fuel := by
  induction l generalizing s with
  | nil => rfl
  | cons a l ih => exact (ih (f s a)).trans (h s a)

/-- The same for a fold over a list. -/
@[simp] theorem foldl_legs {α : Type} (l : List α) (f : State → α → State) (s : State) (h : ∀ t a, (f t a).legs = t.legs) :
    (l.foldl f s).legs = s.legs := by
  induction l generalizing s with
  | nil => rfl
  | cons a l ih => exact (ih (f s a)).trans (h s a)

/-- The same for a fold over a list. -/
@[simp] theorem foldl_store {α : Type} (l : List α) (f : State → α → State) (s : State) (h : ∀ t a, (f t a).store = t.store) :
    (l.foldl f s).store = s.store := by
  induction l generalizing s with
  | nil => rfl
  | cons a l ih => exact (ih (f s a)).trans (h s a)

/-- The same for a fold over a list. -/
@[simp] theorem foldl_ckpt {α : Type} (l : List α) (f : State → α → State) (s : State) (h : ∀ t a, (f t a).ckpt = t.ckpt) :
    (l.foldl f s).ckpt = s.ckpt := by
  induction l generalizing s with
  | nil => rfl
  | cons a l ih => exact (ih (f s a)).trans (h s a)

/-- The same for a fold over a list. -/
@[simp] theorem foldl_ctl {α : Type} (l : List α) (f : State → α → State) (s : State) (h : ∀ t a, (f t a).ctl = t.ctl) :
    (l.foldl f s).ctl = s.ctl := by
  induction l generalizing s with
  | nil => rfl
  | cons a l ih => exact (ih (f s a)).trans (h s a)

/-- The same for a fold over a list. -/
@[simp] theorem foldl_clock {α : Type} (l : List α) (f : State → α → State) (s : State) (h : ∀ t a, (f t a).clock = t.clock) :
    (l.foldl f s).clock = s.clock := by
  induction l generalizing s with
  | nil => rfl
  | cons a l ih => exact (ih (f s a)).trans (h s a)

/-- The same for a fold over a list. -/
@[simp] theorem foldl_settling {α : Type} (l : List α) (f : State → α → State) (s : State) (h : ∀ t a, (f t a).settling = t.settling) :
    (l.foldl f s).settling = s.settling := by
  induction l generalizing s with
  | nil => rfl
  | cons a l ih => exact (ih (f s a)).trans (h s a)

/-- The same for a fold over a list. -/
@[simp] theorem foldl_readings {α : Type} (l : List α) (f : State → α → State) (s : State) (h : ∀ t a, (f t a).readings = t.readings) :
    (l.foldl f s).readings = s.readings := by
  induction l generalizing s with
  | nil => rfl
  | cons a l ih => exact (ih (f s a)).trans (h s a)

/-- The same for a fold over a list. -/
@[simp] theorem foldl_pending {α : Type} (l : List α) (f : State → α → State) (s : State) (h : ∀ t a, (f t a).pending = t.pending) :
    (l.foldl f s).pending = s.pending := by
  induction l generalizing s with
  | nil => rfl
  | cons a l ih => exact (ih (f s a)).trans (h s a)

@[simp] theorem ite_port (p : Prop) [Decidable p] (a b : State) : (if p then a else b).port = if p then a.port else b.port := by
  split <;> rfl

@[simp] theorem ite_prop (p : Prop) [Decidable p] (a b : State) : (if p then a else b).prop = if p then a.prop else b.prop := by
  split <;> rfl

@[simp] theorem ite_chans (p : Prop) [Decidable p] (a b : State) : (if p then a else b).chans = if p then a.chans else b.chans := by
  split <;> rfl

@[simp] theorem ite_steer (p : Prop) [Decidable p] (a b : State) : (if p then a else b).steer = if p then a.steer else b.steer := by
  split <;> rfl

@[simp] theorem ite_sup (p : Prop) [Decidable p] (a b : State) : (if p then a else b).sup = if p then a.sup else b.sup := by
  split <;> rfl

@[simp] theorem ite_line (p : Prop) [Decidable p] (a b : State) : (if p then a else b).line = if p then a.line else b.line := by
  split <;> rfl

@[simp] theorem ite_orders (p : Prop) [Decidable p] (a b : State) : (if p then a else b).orders = if p then a.orders else b.orders := by
  split <;> rfl

@[simp] theorem ite_fuel (p : Prop) [Decidable p] (a b : State) : (if p then a else b).fuel = if p then a.fuel else b.fuel := by
  split <;> rfl

@[simp] theorem ite_legs (p : Prop) [Decidable p] (a b : State) : (if p then a else b).legs = if p then a.legs else b.legs := by
  split <;> rfl

@[simp] theorem ite_store (p : Prop) [Decidable p] (a b : State) : (if p then a else b).store = if p then a.store else b.store := by
  split <;> rfl

@[simp] theorem ite_ckpt (p : Prop) [Decidable p] (a b : State) : (if p then a else b).ckpt = if p then a.ckpt else b.ckpt := by
  split <;> rfl

@[simp] theorem ite_ctl (p : Prop) [Decidable p] (a b : State) : (if p then a else b).ctl = if p then a.ctl else b.ctl := by
  split <;> rfl

@[simp] theorem ite_clock (p : Prop) [Decidable p] (a b : State) : (if p then a else b).clock = if p then a.clock else b.clock := by
  split <;> rfl

@[simp] theorem ite_settling (p : Prop) [Decidable p] (a b : State) : (if p then a else b).settling = if p then a.settling else b.settling := by
  split <;> rfl

@[simp] theorem ite_readings (p : Prop) [Decidable p] (a b : State) : (if p then a else b).readings = if p then a.readings else b.readings := by
  split <;> rfl

@[simp] theorem ite_pending (p : Prop) [Decidable p] (a b : State) : (if p then a else b).pending = if p then a.pending else b.pending := by
  split <;> rfl

/-- The working settings are a field of the store. -/
theorem settings_eq (s : State) : s.settings = s.store.working := rfl

end Sys2Proof.Machine
end

