-- ==== Sys2Proof/Laws/FramesBlocks.lean ====
section
/-! SUPPORT. What each operation of the engine, steering, demand, tank and leg operations leaves: every part of the state it does not act on. -/

set_option linter.unusedTactic false
set_option linter.unreachableTactic false

namespace Sys2Proof.Machine

@[simp] theorem report_frame (kind : ReportKind) (subject : Subject) (body : List Byte) (s : State) :
    (report kind subject body s).prop = s.prop ∧ (report kind subject body s).chans = s.chans ∧ (report kind subject body s).steer
    = s.steer ∧ (report kind subject body s).sup = s.sup ∧ (report kind subject body s).line = s.line ∧ (report kind subject body
    s).orders = s.orders ∧ (report kind subject body s).fuel = s.fuel ∧ (report kind subject body s).legs = s.legs ∧ (report kind
    subject body s).store = s.store ∧ (report kind subject body s).ckpt = s.ckpt ∧ (report kind subject body s).ctl = s.ctl ∧
    (report kind subject body s).clock = s.clock ∧ (report kind subject body s).settling = s.settling ∧ (report kind subject body
    s).readings = s.readings ∧ (report kind subject body s).pending = s.pending := by
  refine ⟨?_, ?_, ?_, ?_, ?_, ?_, ?_, ?_, ?_, ?_, ?_, ?_, ?_, ?_, ?_⟩ <;> unfold report <;> (try dsimp only) <;> repeat' first | (simp; done) | split

@[simp] theorem askCheckpoint_frame (s : State) :
    (askCheckpoint s).port = s.port ∧ (askCheckpoint s).prop = s.prop ∧ (askCheckpoint s).chans = s.chans ∧ (askCheckpoint
    s).steer = s.steer ∧ (askCheckpoint s).sup = s.sup ∧ (askCheckpoint s).line = s.line ∧ (askCheckpoint s).orders = s.orders ∧
    (askCheckpoint s).fuel = s.fuel ∧ (askCheckpoint s).legs = s.legs ∧ (askCheckpoint s).store = s.store ∧ (askCheckpoint s).ckpt
    = s.ckpt ∧ (askCheckpoint s).ctl = s.ctl ∧ (askCheckpoint s).clock = s.clock ∧ (askCheckpoint s).readings = s.readings ∧
    (askCheckpoint s).pending = s.pending := by
  refine ⟨?_, ?_, ?_, ?_, ?_, ?_, ?_, ?_, ?_, ?_, ?_, ?_, ?_, ?_, ?_⟩ <;> unfold askCheckpoint <;> (try dsimp only) <;> repeat' first | (simp; done) | split

@[simp] theorem engineReport_frame (e : Fin 4) (s : State) :
    (engineReport e s).prop = s.prop ∧ (engineReport e s).chans = s.chans ∧ (engineReport e s).steer = s.steer ∧ (engineReport e
    s).sup = s.sup ∧ (engineReport e s).line = s.line ∧ (engineReport e s).orders = s.orders ∧ (engineReport e s).fuel = s.fuel ∧
    (engineReport e s).legs = s.legs ∧ (engineReport e s).store = s.store ∧ (engineReport e s).ckpt = s.ckpt ∧ (engineReport e
    s).ctl = s.ctl ∧ (engineReport e s).clock = s.clock ∧ (engineReport e s).settling = s.settling ∧ (engineReport e s).readings =
    s.readings ∧ (engineReport e s).pending = s.pending := by
  refine ⟨?_, ?_, ?_, ?_, ?_, ?_, ?_, ?_, ?_, ?_, ?_, ?_, ?_, ?_, ?_⟩ <;> unfold engineReport <;> (try dsimp only) <;> repeat' first | (simp; done) | split

@[simp] theorem confirmGear_frame (e : Fin 4) (s : State) :
    (confirmGear e s).prop = s.prop ∧ (confirmGear e s).steer = s.steer ∧ (confirmGear e s).sup = s.sup ∧ (confirmGear e s).line =
    s.line ∧ (confirmGear e s).orders = s.orders ∧ (confirmGear e s).fuel = s.fuel ∧ (confirmGear e s).legs = s.legs ∧
    (confirmGear e s).store = s.store ∧ (confirmGear e s).ckpt = s.ckpt ∧ (confirmGear e s).ctl = s.ctl ∧ (confirmGear e s).clock
    = s.clock ∧ (confirmGear e s).settling = s.settling ∧ (confirmGear e s).readings = s.readings ∧ (confirmGear e s).pending =
    s.pending := by
  refine ⟨?_, ?_, ?_, ?_, ?_, ?_, ?_, ?_, ?_, ?_, ?_, ?_, ?_, ?_⟩ <;> unfold confirmGear <;> (try dsimp only) <;> repeat' first | (simp; done) | split

@[simp] theorem engagementTest_frame (e : Fin 4) (s : State) :
    (engagementTest e s).prop = s.prop ∧ (engagementTest e s).steer = s.steer ∧ (engagementTest e s).sup = s.sup ∧ (engagementTest
    e s).line = s.line ∧ (engagementTest e s).orders = s.orders ∧ (engagementTest e s).fuel = s.fuel ∧ (engagementTest e s).legs =
    s.legs ∧ (engagementTest e s).store = s.store ∧ (engagementTest e s).ckpt = s.ckpt ∧ (engagementTest e s).ctl = s.ctl ∧
    (engagementTest e s).clock = s.clock ∧ (engagementTest e s).settling = s.settling ∧ (engagementTest e s).readings = s.readings
    ∧ (engagementTest e s).pending = s.pending := by
  refine ⟨?_, ?_, ?_, ?_, ?_, ?_, ?_, ?_, ?_, ?_, ?_, ?_, ?_, ?_⟩ <;> unfold engagementTest <;> (try dsimp only) <;> repeat' first | (simp; done) | split

@[simp] theorem enterNeutral_frame (e : Fin 4) (s : State) :
    (enterNeutral e s).prop = s.prop ∧ (enterNeutral e s).steer = s.steer ∧ (enterNeutral e s).sup = s.sup ∧ (enterNeutral e
    s).line = s.line ∧ (enterNeutral e s).orders = s.orders ∧ (enterNeutral e s).fuel = s.fuel ∧ (enterNeutral e s).legs = s.legs
    ∧ (enterNeutral e s).store = s.store ∧ (enterNeutral e s).ckpt = s.ckpt ∧ (enterNeutral e s).ctl = s.ctl ∧ (enterNeutral e
    s).clock = s.clock ∧ (enterNeutral e s).settling = s.settling ∧ (enterNeutral e s).readings = s.readings ∧ (enterNeutral e
    s).pending = s.pending := by
  refine ⟨?_, ?_, ?_, ?_, ?_, ?_, ?_, ?_, ?_, ?_, ?_, ?_, ?_, ?_⟩ <;> unfold enterNeutral <;> (try dsimp only) <;> repeat' first | (simp; done) | split

@[simp] theorem dwellRunOut_frame (e : Fin 4) (s : State) :
    (dwellRunOut e s).prop = s.prop ∧ (dwellRunOut e s).steer = s.steer ∧ (dwellRunOut e s).sup = s.sup ∧ (dwellRunOut e s).line =
    s.line ∧ (dwellRunOut e s).orders = s.orders ∧ (dwellRunOut e s).fuel = s.fuel ∧ (dwellRunOut e s).legs = s.legs ∧
    (dwellRunOut e s).store = s.store ∧ (dwellRunOut e s).ckpt = s.ckpt ∧ (dwellRunOut e s).ctl = s.ctl ∧ (dwellRunOut e s).clock
    = s.clock ∧ (dwellRunOut e s).settling = s.settling ∧ (dwellRunOut e s).readings = s.readings ∧ (dwellRunOut e s).pending =
    s.pending := by
  refine ⟨?_, ?_, ?_, ?_, ?_, ?_, ?_, ?_, ?_, ?_, ?_, ?_, ?_, ?_⟩ <;> unfold dwellRunOut <;> (try dsimp only) <;> repeat' first | (simp; done) | split

@[simp] theorem disengage_frame (e : Fin 4) (s : State) :
    (disengage e s).prop = s.prop ∧ (disengage e s).steer = s.steer ∧ (disengage e s).sup = s.sup ∧ (disengage e s).line = s.line
    ∧ (disengage e s).orders = s.orders ∧ (disengage e s).fuel = s.fuel ∧ (disengage e s).legs = s.legs ∧ (disengage e s).store =
    s.store ∧ (disengage e s).ckpt = s.ckpt ∧ (disengage e s).ctl = s.ctl ∧ (disengage e s).clock = s.clock ∧ (disengage e
    s).settling = s.settling ∧ (disengage e s).readings = s.readings ∧ (disengage e s).pending = s.pending := by
  refine ⟨?_, ?_, ?_, ?_, ?_, ?_, ?_, ?_, ?_, ?_, ?_, ?_, ?_, ?_⟩ <;> unfold disengage <;> (try dsimp only) <;> repeat' first | (simp; done) | split

@[simp] theorem disengageTest_frame (e : Fin 4) (s : State) :
    (disengageTest e s).prop = s.prop ∧ (disengageTest e s).steer = s.steer ∧ (disengageTest e s).sup = s.sup ∧ (disengageTest e
    s).line = s.line ∧ (disengageTest e s).orders = s.orders ∧ (disengageTest e s).fuel = s.fuel ∧ (disengageTest e s).legs =
    s.legs ∧ (disengageTest e s).store = s.store ∧ (disengageTest e s).ckpt = s.ckpt ∧ (disengageTest e s).ctl = s.ctl ∧
    (disengageTest e s).clock = s.clock ∧ (disengageTest e s).settling = s.settling ∧ (disengageTest e s).readings = s.readings ∧
    (disengageTest e s).pending = s.pending := by
  refine ⟨?_, ?_, ?_, ?_, ?_, ?_, ?_, ?_, ?_, ?_, ?_, ?_, ?_, ?_⟩ <;> unfold disengageTest <;> (try dsimp only) <;> repeat' first | (simp; done) | split

@[simp] theorem channelOnDirection_frame (e : Fin 4) (s : State) :
    (channelOnDirection e s).prop = s.prop ∧ (channelOnDirection e s).steer = s.steer ∧ (channelOnDirection e s).sup = s.sup ∧
    (channelOnDirection e s).line = s.line ∧ (channelOnDirection e s).orders = s.orders ∧ (channelOnDirection e s).fuel = s.fuel ∧
    (channelOnDirection e s).legs = s.legs ∧ (channelOnDirection e s).store = s.store ∧ (channelOnDirection e s).ckpt = s.ckpt ∧
    (channelOnDirection e s).ctl = s.ctl ∧ (channelOnDirection e s).clock = s.clock ∧ (channelOnDirection e s).settling =
    s.settling ∧ (channelOnDirection e s).readings = s.readings ∧ (channelOnDirection e s).pending = s.pending := by
  refine ⟨?_, ?_, ?_, ?_, ?_, ?_, ?_, ?_, ?_, ?_, ?_, ?_, ?_, ?_⟩ <;> unfold channelOnDirection <;> (try dsimp only) <;> repeat' first | (simp; done) | split

@[simp] theorem enterFault_frame (e : Fin 4) (k : FaultKind) (s : State) :
    (enterFault e k s).prop = s.prop ∧ (enterFault e k s).steer = s.steer ∧ (enterFault e k s).sup = s.sup ∧ (enterFault e k
    s).line = s.line ∧ (enterFault e k s).orders = s.orders ∧ (enterFault e k s).fuel = s.fuel ∧ (enterFault e k s).legs = s.legs
    ∧ (enterFault e k s).store = s.store ∧ (enterFault e k s).ckpt = s.ckpt ∧ (enterFault e k s).ctl = s.ctl ∧ (enterFault e k
    s).clock = s.clock ∧ (enterFault e k s).settling = s.settling ∧ (enterFault e k s).readings = s.readings ∧ (enterFault e k
    s).pending = s.pending := by
  refine ⟨?_, ?_, ?_, ?_, ?_, ?_, ?_, ?_, ?_, ?_, ?_, ?_, ?_, ?_⟩ <;> unfold enterFault <;> (try dsimp only) <;> repeat' first | (simp; done) | split

@[simp] theorem enterStopped_frame (e : Fin 4) (s : State) :
    (enterStopped e s).prop = s.prop ∧ (enterStopped e s).steer = s.steer ∧ (enterStopped e s).sup = s.sup ∧ (enterStopped e
    s).line = s.line ∧ (enterStopped e s).orders = s.orders ∧ (enterStopped e s).fuel = s.fuel ∧ (enterStopped e s).legs = s.legs
    ∧ (enterStopped e s).store = s.store ∧ (enterStopped e s).ckpt = s.ckpt ∧ (enterStopped e s).ctl = s.ctl ∧ (enterStopped e
    s).clock = s.clock ∧ (enterStopped e s).settling = s.settling ∧ (enterStopped e s).readings = s.readings ∧ (enterStopped e
    s).pending = s.pending := by
  refine ⟨?_, ?_, ?_, ?_, ?_, ?_, ?_, ?_, ?_, ?_, ?_, ?_, ?_, ?_⟩ <;> unfold enterStopped <;> (try dsimp only) <;> repeat' first | (simp; done) | split

@[simp] theorem engineRuns_frame (e : Fin 4) (s : State) :
    (engineRuns e s).prop = s.prop ∧ (engineRuns e s).steer = s.steer ∧ (engineRuns e s).sup = s.sup ∧ (engineRuns e s).line =
    s.line ∧ (engineRuns e s).orders = s.orders ∧ (engineRuns e s).fuel = s.fuel ∧ (engineRuns e s).legs = s.legs ∧ (engineRuns e
    s).store = s.store ∧ (engineRuns e s).ckpt = s.ckpt ∧ (engineRuns e s).ctl = s.ctl ∧ (engineRuns e s).clock = s.clock ∧
    (engineRuns e s).settling = s.settling ∧ (engineRuns e s).readings = s.readings ∧ (engineRuns e s).pending = s.pending := by
  refine ⟨?_, ?_, ?_, ?_, ?_, ?_, ?_, ?_, ?_, ?_, ?_, ?_, ?_, ?_⟩ <;> unfold engineRuns <;> (try dsimp only) <;> repeat' first | (simp; done) | split

@[simp] theorem modeChanged_frame (e : Fin 4) (m : EngineMode) (s : State) :
    (modeChanged e m s).prop = s.prop ∧ (modeChanged e m s).steer = s.steer ∧ (modeChanged e m s).sup = s.sup ∧ (modeChanged e m
    s).line = s.line ∧ (modeChanged e m s).orders = s.orders ∧ (modeChanged e m s).fuel = s.fuel ∧ (modeChanged e m s).legs =
    s.legs ∧ (modeChanged e m s).store = s.store ∧ (modeChanged e m s).ckpt = s.ckpt ∧ (modeChanged e m s).ctl = s.ctl ∧
    (modeChanged e m s).clock = s.clock ∧ (modeChanged e m s).settling = s.settling ∧ (modeChanged e m s).readings = s.readings ∧
    (modeChanged e m s).pending = s.pending := by
  refine ⟨?_, ?_, ?_, ?_, ?_, ?_, ?_, ?_, ?_, ?_, ?_, ?_, ?_, ?_⟩ <;> unfold modeChanged <;> (try dsimp only) <;> repeat' first | (simp; done) | split

@[simp] theorem applyMode_frame (mask : Nat) (e : Fin 4) (m : Nat) (s : State) :
    (applyMode mask e m s).prop = s.prop ∧ (applyMode mask e m s).steer = s.steer ∧ (applyMode mask e m s).sup = s.sup ∧
    (applyMode mask e m s).line = s.line ∧ (applyMode mask e m s).orders = s.orders ∧ (applyMode mask e m s).fuel = s.fuel ∧
    (applyMode mask e m s).legs = s.legs ∧ (applyMode mask e m s).store = s.store ∧ (applyMode mask e m s).ckpt = s.ckpt ∧
    (applyMode mask e m s).ctl = s.ctl ∧ (applyMode mask e m s).clock = s.clock ∧ (applyMode mask e m s).settling = s.settling ∧
    (applyMode mask e m s).readings = s.readings ∧ (applyMode mask e m s).pending = s.pending := by
  refine ⟨?_, ?_, ?_, ?_, ?_, ?_, ?_, ?_, ?_, ?_, ?_, ?_, ?_, ?_⟩ <;> unfold applyMode <;> (try dsimp only) <;> repeat' first | (simp; done) | split

@[simp] theorem shaftPulse_frame (e : Fin 4) (secondHigh : Bool) (s : State) :
    (shaftPulse e secondHigh s).port = s.port ∧ (shaftPulse e secondHigh s).prop = s.prop ∧ (shaftPulse e secondHigh s).steer =
    s.steer ∧ (shaftPulse e secondHigh s).sup = s.sup ∧ (shaftPulse e secondHigh s).line = s.line ∧ (shaftPulse e secondHigh
    s).orders = s.orders ∧ (shaftPulse e secondHigh s).fuel = s.fuel ∧ (shaftPulse e secondHigh s).legs = s.legs ∧ (shaftPulse e
    secondHigh s).store = s.store ∧ (shaftPulse e secondHigh s).ckpt = s.ckpt ∧ (shaftPulse e secondHigh s).ctl = s.ctl ∧
    (shaftPulse e secondHigh s).clock = s.clock ∧ (shaftPulse e secondHigh s).settling = s.settling ∧ (shaftPulse e secondHigh
    s).readings = s.readings ∧ (shaftPulse e secondHigh s).pending = s.pending := by
  refine ⟨?_, ?_, ?_, ?_, ?_, ?_, ?_, ?_, ?_, ?_, ?_, ?_, ?_, ?_, ?_⟩ <;> unfold shaftPulse <;> (try dsimp only) <;> repeat' first | (simp; done) | split

@[simp] theorem wrongWayTest_frame (e : Fin 4) (s : State) :
    (wrongWayTest e s).port = s.port ∧ (wrongWayTest e s).prop = s.prop ∧ (wrongWayTest e s).steer = s.steer ∧ (wrongWayTest e
    s).sup = s.sup ∧ (wrongWayTest e s).line = s.line ∧ (wrongWayTest e s).orders = s.orders ∧ (wrongWayTest e s).fuel = s.fuel ∧
    (wrongWayTest e s).legs = s.legs ∧ (wrongWayTest e s).store = s.store ∧ (wrongWayTest e s).ckpt = s.ckpt ∧ (wrongWayTest e
    s).ctl = s.ctl ∧ (wrongWayTest e s).clock = s.clock ∧ (wrongWayTest e s).settling = s.settling ∧ (wrongWayTest e s).readings =
    s.readings ∧ (wrongWayTest e s).pending = s.pending := by
  refine ⟨?_, ?_, ?_, ?_, ?_, ?_, ?_, ?_, ?_, ?_, ?_, ?_, ?_, ?_, ?_⟩ <;> unfold wrongWayTest <;> (try dsimp only) <;> repeat' first | (simp; done) | split

@[simp] theorem followTest_frame (e : Fin 4) (s : State) :
    (followTest e s).prop = s.prop ∧ (followTest e s).steer = s.steer ∧ (followTest e s).sup = s.sup ∧ (followTest e s).line =
    s.line ∧ (followTest e s).orders = s.orders ∧ (followTest e s).fuel = s.fuel ∧ (followTest e s).legs = s.legs ∧ (followTest e
    s).store = s.store ∧ (followTest e s).ckpt = s.ckpt ∧ (followTest e s).ctl = s.ctl ∧ (followTest e s).clock = s.clock ∧
    (followTest e s).settling = s.settling ∧ (followTest e s).readings = s.readings ∧ (followTest e s).pending = s.pending := by
  refine ⟨?_, ?_, ?_, ?_, ?_, ?_, ?_, ?_, ?_, ?_, ?_, ?_, ?_, ?_⟩ <;> unfold followTest <;> (try dsimp only) <;> repeat' first | (simp; done) | split

@[simp] theorem shaftTests_frame (e : Fin 4) (s : State) :
    (shaftTests e s).prop = s.prop ∧ (shaftTests e s).steer = s.steer ∧ (shaftTests e s).sup = s.sup ∧ (shaftTests e s).line =
    s.line ∧ (shaftTests e s).orders = s.orders ∧ (shaftTests e s).fuel = s.fuel ∧ (shaftTests e s).legs = s.legs ∧ (shaftTests e
    s).store = s.store ∧ (shaftTests e s).ckpt = s.ckpt ∧ (shaftTests e s).ctl = s.ctl ∧ (shaftTests e s).clock = s.clock ∧
    (shaftTests e s).settling = s.settling ∧ (shaftTests e s).readings = s.readings ∧ (shaftTests e s).pending = s.pending := by
  refine ⟨?_, ?_, ?_, ?_, ?_, ?_, ?_, ?_, ?_, ?_, ?_, ?_, ?_, ?_⟩ <;> unfold shaftTests <;> (try dsimp only) <;> repeat' first | (simp; done) | split

@[simp] theorem windowInDisengaging_frame (e : Fin 4) (s : State) :
    (windowInDisengaging e s).prop = s.prop ∧ (windowInDisengaging e s).steer = s.steer ∧ (windowInDisengaging e s).sup = s.sup ∧
    (windowInDisengaging e s).line = s.line ∧ (windowInDisengaging e s).orders = s.orders ∧ (windowInDisengaging e s).fuel =
    s.fuel ∧ (windowInDisengaging e s).legs = s.legs ∧ (windowInDisengaging e s).store = s.store ∧ (windowInDisengaging e s).ckpt
    = s.ckpt ∧ (windowInDisengaging e s).ctl = s.ctl ∧ (windowInDisengaging e s).clock = s.clock ∧ (windowInDisengaging e
    s).settling = s.settling ∧ (windowInDisengaging e s).readings = s.readings ∧ (windowInDisengaging e s).pending = s.pending := by
  refine ⟨?_, ?_, ?_, ?_, ?_, ?_, ?_, ?_, ?_, ?_, ?_, ?_, ?_, ?_⟩ <;> unfold windowInDisengaging <;> (try dsimp only) <;> repeat' first | (simp; done) | split

@[simp] theorem shaftWindow_frame (e : Fin 4) (s : State) :
    (shaftWindow e s).prop = s.prop ∧ (shaftWindow e s).steer = s.steer ∧ (shaftWindow e s).sup = s.sup ∧ (shaftWindow e s).line =
    s.line ∧ (shaftWindow e s).orders = s.orders ∧ (shaftWindow e s).fuel = s.fuel ∧ (shaftWindow e s).legs = s.legs ∧
    (shaftWindow e s).store = s.store ∧ (shaftWindow e s).ckpt = s.ckpt ∧ (shaftWindow e s).ctl = s.ctl ∧ (shaftWindow e s).clock
    = s.clock ∧ (shaftWindow e s).settling = s.settling ∧ (shaftWindow e s).readings = s.readings ∧ (shaftWindow e s).pending =
    s.pending := by
  refine ⟨?_, ?_, ?_, ?_, ?_, ?_, ?_, ?_, ?_, ?_, ?_, ?_, ?_, ?_⟩ <;> unfold shaftWindow <;> (try dsimp only) <;> repeat' first | (simp; done) | split

@[simp] theorem governorPeriodEnd_frame (e : Fin 4) (s : State) :
    (governorPeriodEnd e s).port = s.port ∧ (governorPeriodEnd e s).prop = s.prop ∧ (governorPeriodEnd e s).steer = s.steer ∧
    (governorPeriodEnd e s).sup = s.sup ∧ (governorPeriodEnd e s).line = s.line ∧ (governorPeriodEnd e s).orders = s.orders ∧
    (governorPeriodEnd e s).fuel = s.fuel ∧ (governorPeriodEnd e s).legs = s.legs ∧ (governorPeriodEnd e s).store = s.store ∧
    (governorPeriodEnd e s).ckpt = s.ckpt ∧ (governorPeriodEnd e s).ctl = s.ctl ∧ (governorPeriodEnd e s).clock = s.clock ∧
    (governorPeriodEnd e s).settling = s.settling ∧ (governorPeriodEnd e s).readings = s.readings ∧ (governorPeriodEnd e
    s).pending = s.pending := by
  refine ⟨?_, ?_, ?_, ?_, ?_, ?_, ?_, ?_, ?_, ?_, ?_, ?_, ?_, ?_, ?_⟩ <;> unfold governorPeriodEnd <;> (try dsimp only) <;> repeat' first | (simp; done) | split

@[simp] theorem engineInputChange_frame (e : Fin 4) (inp : EngineInput) (level : Bool) (s : State) :
    (engineInputChange e inp level s).port = s.port ∧ (engineInputChange e inp level s).prop = s.prop ∧ (engineInputChange e inp
    level s).steer = s.steer ∧ (engineInputChange e inp level s).sup = s.sup ∧ (engineInputChange e inp level s).line = s.line ∧
    (engineInputChange e inp level s).orders = s.orders ∧ (engineInputChange e inp level s).fuel = s.fuel ∧ (engineInputChange e
    inp level s).legs = s.legs ∧ (engineInputChange e inp level s).store = s.store ∧ (engineInputChange e inp level s).ckpt =
    s.ckpt ∧ (engineInputChange e inp level s).ctl = s.ctl ∧ (engineInputChange e inp level s).clock = s.clock ∧
    (engineInputChange e inp level s).settling = s.settling ∧ (engineInputChange e inp level s).readings = s.readings ∧
    (engineInputChange e inp level s).pending = s.pending := by
  refine ⟨?_, ?_, ?_, ?_, ?_, ?_, ?_, ?_, ?_, ?_, ?_, ?_, ?_, ?_, ?_⟩ <;> unfold engineInputChange <;> (try dsimp only) <;> repeat' first | (simp; done) | split

@[simp] theorem inputFilterExpiry_frame (e : Fin 4) (inp : EngineInput) (s : State) :
    (inputFilterExpiry e inp s).prop = s.prop ∧ (inputFilterExpiry e inp s).steer = s.steer ∧ (inputFilterExpiry e inp s).sup =
    s.sup ∧ (inputFilterExpiry e inp s).line = s.line ∧ (inputFilterExpiry e inp s).orders = s.orders ∧ (inputFilterExpiry e inp
    s).fuel = s.fuel ∧ (inputFilterExpiry e inp s).legs = s.legs ∧ (inputFilterExpiry e inp s).store = s.store ∧
    (inputFilterExpiry e inp s).ckpt = s.ckpt ∧ (inputFilterExpiry e inp s).ctl = s.ctl ∧ (inputFilterExpiry e inp s).clock =
    s.clock ∧ (inputFilterExpiry e inp s).settling = s.settling ∧ (inputFilterExpiry e inp s).readings = s.readings ∧
    (inputFilterExpiry e inp s).pending = s.pending := by
  refine ⟨?_, ?_, ?_, ?_, ?_, ?_, ?_, ?_, ?_, ?_, ?_, ?_, ?_, ?_⟩ <;> unfold inputFilterExpiry <;> (try dsimp only) <;> repeat' first | (simp; done) | split

@[simp] theorem engageConfirmExpiry_frame (e : Fin 4) (s : State) :
    (engageConfirmExpiry e s).prop = s.prop ∧ (engageConfirmExpiry e s).steer = s.steer ∧ (engageConfirmExpiry e s).sup = s.sup ∧
    (engageConfirmExpiry e s).line = s.line ∧ (engageConfirmExpiry e s).orders = s.orders ∧ (engageConfirmExpiry e s).fuel =
    s.fuel ∧ (engageConfirmExpiry e s).legs = s.legs ∧ (engageConfirmExpiry e s).store = s.store ∧ (engageConfirmExpiry e s).ckpt
    = s.ckpt ∧ (engageConfirmExpiry e s).ctl = s.ctl ∧ (engageConfirmExpiry e s).clock = s.clock ∧ (engageConfirmExpiry e
    s).settling = s.settling ∧ (engageConfirmExpiry e s).readings = s.readings ∧ (engageConfirmExpiry e s).pending = s.pending := by
  refine ⟨?_, ?_, ?_, ?_, ?_, ?_, ?_, ?_, ?_, ?_, ?_, ?_, ?_, ?_⟩ <;> unfold engageConfirmExpiry <;> (try dsimp only) <;> repeat' first | (simp; done) | split

@[simp] theorem neutralDwellExpiry_frame (e : Fin 4) (s : State) :
    (neutralDwellExpiry e s).prop = s.prop ∧ (neutralDwellExpiry e s).steer = s.steer ∧ (neutralDwellExpiry e s).sup = s.sup ∧
    (neutralDwellExpiry e s).line = s.line ∧ (neutralDwellExpiry e s).orders = s.orders ∧ (neutralDwellExpiry e s).fuel = s.fuel ∧
    (neutralDwellExpiry e s).legs = s.legs ∧ (neutralDwellExpiry e s).store = s.store ∧ (neutralDwellExpiry e s).ckpt = s.ckpt ∧
    (neutralDwellExpiry e s).ctl = s.ctl ∧ (neutralDwellExpiry e s).clock = s.clock ∧ (neutralDwellExpiry e s).settling =
    s.settling ∧ (neutralDwellExpiry e s).readings = s.readings ∧ (neutralDwellExpiry e s).pending = s.pending := by
  refine ⟨?_, ?_, ?_, ?_, ?_, ?_, ?_, ?_, ?_, ?_, ?_, ?_, ?_, ?_⟩ <;> unfold neutralDwellExpiry <;> (try dsimp only) <;> repeat' first | (simp; done) | split

@[simp] theorem dwellTimeoutExpiry_frame (e : Fin 4) (s : State) :
    (dwellTimeoutExpiry e s).prop = s.prop ∧ (dwellTimeoutExpiry e s).steer = s.steer ∧ (dwellTimeoutExpiry e s).sup = s.sup ∧
    (dwellTimeoutExpiry e s).line = s.line ∧ (dwellTimeoutExpiry e s).orders = s.orders ∧ (dwellTimeoutExpiry e s).fuel = s.fuel ∧
    (dwellTimeoutExpiry e s).legs = s.legs ∧ (dwellTimeoutExpiry e s).store = s.store ∧ (dwellTimeoutExpiry e s).ckpt = s.ckpt ∧
    (dwellTimeoutExpiry e s).ctl = s.ctl ∧ (dwellTimeoutExpiry e s).clock = s.clock ∧ (dwellTimeoutExpiry e s).settling =
    s.settling ∧ (dwellTimeoutExpiry e s).readings = s.readings ∧ (dwellTimeoutExpiry e s).pending = s.pending := by
  refine ⟨?_, ?_, ?_, ?_, ?_, ?_, ?_, ?_, ?_, ?_, ?_, ?_, ?_, ?_⟩ <;> unfold dwellTimeoutExpiry <;> (try dsimp only) <;> repeat' first | (simp; done) | split

@[simp] theorem wrongWayExpiry_frame (e : Fin 4) (s : State) :
    (wrongWayExpiry e s).prop = s.prop ∧ (wrongWayExpiry e s).steer = s.steer ∧ (wrongWayExpiry e s).sup = s.sup ∧ (wrongWayExpiry
    e s).line = s.line ∧ (wrongWayExpiry e s).orders = s.orders ∧ (wrongWayExpiry e s).fuel = s.fuel ∧ (wrongWayExpiry e s).legs =
    s.legs ∧ (wrongWayExpiry e s).store = s.store ∧ (wrongWayExpiry e s).ckpt = s.ckpt ∧ (wrongWayExpiry e s).ctl = s.ctl ∧
    (wrongWayExpiry e s).clock = s.clock ∧ (wrongWayExpiry e s).settling = s.settling ∧ (wrongWayExpiry e s).readings = s.readings
    ∧ (wrongWayExpiry e s).pending = s.pending := by
  refine ⟨?_, ?_, ?_, ?_, ?_, ?_, ?_, ?_, ?_, ?_, ?_, ?_, ?_, ?_⟩ <;> unfold wrongWayExpiry <;> (try dsimp only) <;> repeat' first | (simp; done) | split

@[simp] theorem followExpiry_frame (e : Fin 4) (s : State) :
    (followExpiry e s).prop = s.prop ∧ (followExpiry e s).steer = s.steer ∧ (followExpiry e s).sup = s.sup ∧ (followExpiry e
    s).line = s.line ∧ (followExpiry e s).orders = s.orders ∧ (followExpiry e s).fuel = s.fuel ∧ (followExpiry e s).legs = s.legs
    ∧ (followExpiry e s).store = s.store ∧ (followExpiry e s).ckpt = s.ckpt ∧ (followExpiry e s).ctl = s.ctl ∧ (followExpiry e
    s).clock = s.clock ∧ (followExpiry e s).settling = s.settling ∧ (followExpiry e s).readings = s.readings ∧ (followExpiry e
    s).pending = s.pending := by
  refine ⟨?_, ?_, ?_, ?_, ?_, ?_, ?_, ?_, ?_, ?_, ?_, ?_, ?_, ?_⟩ <;> unfold followExpiry <;> (try dsimp only) <;> repeat' first | (simp; done) | split

@[simp] theorem setTargets_frame (s : State) :
    (setTargets s).port = s.port ∧ (setTargets s).prop = s.prop ∧ (setTargets s).chans = s.chans ∧ (setTargets s).sup = s.sup ∧
    (setTargets s).line = s.line ∧ (setTargets s).orders = s.orders ∧ (setTargets s).fuel = s.fuel ∧ (setTargets s).legs = s.legs
    ∧ (setTargets s).store = s.store ∧ (setTargets s).ckpt = s.ckpt ∧ (setTargets s).ctl = s.ctl ∧ (setTargets s).clock = s.clock
    ∧ (setTargets s).settling = s.settling ∧ (setTargets s).readings = s.readings ∧ (setTargets s).pending = s.pending := by
  refine ⟨?_, ?_, ?_, ?_, ?_, ?_, ?_, ?_, ?_, ?_, ?_, ?_, ?_, ?_, ?_⟩ <;> unfold setTargets <;> (try dsimp only) <;> repeat' first | (simp; done) | split

@[simp] theorem steeringRecompute_frame (s : State) :
    (steeringRecompute s).port = s.port ∧ (steeringRecompute s).prop = s.prop ∧ (steeringRecompute s).chans = s.chans ∧
    (steeringRecompute s).sup = s.sup ∧ (steeringRecompute s).line = s.line ∧ (steeringRecompute s).orders = s.orders ∧
    (steeringRecompute s).fuel = s.fuel ∧ (steeringRecompute s).legs = s.legs ∧ (steeringRecompute s).store = s.store ∧
    (steeringRecompute s).ckpt = s.ckpt ∧ (steeringRecompute s).ctl = s.ctl ∧ (steeringRecompute s).clock = s.clock ∧
    (steeringRecompute s).settling = s.settling ∧ (steeringRecompute s).readings = s.readings ∧ (steeringRecompute s).pending =
    s.pending := by
  refine ⟨?_, ?_, ?_, ?_, ?_, ?_, ?_, ?_, ?_, ?_, ?_, ?_, ?_, ?_, ?_⟩ <;> unfold steeringRecompute <;> (try dsimp only) <;> repeat' first | (simp; done) | split

@[simp] theorem setHelmTo_frame (h : Int) (s : State) :
    (setHelmTo h s).port = s.port ∧ (setHelmTo h s).prop = s.prop ∧ (setHelmTo h s).chans = s.chans ∧ (setHelmTo h s).sup = s.sup
    ∧ (setHelmTo h s).line = s.line ∧ (setHelmTo h s).orders = s.orders ∧ (setHelmTo h s).fuel = s.fuel ∧ (setHelmTo h s).legs =
    s.legs ∧ (setHelmTo h s).store = s.store ∧ (setHelmTo h s).ckpt = s.ckpt ∧ (setHelmTo h s).ctl = s.ctl ∧ (setHelmTo h s).clock
    = s.clock ∧ (setHelmTo h s).settling = s.settling ∧ (setHelmTo h s).readings = s.readings ∧ (setHelmTo h s).pending =
    s.pending := by
  refine ⟨?_, ?_, ?_, ?_, ?_, ?_, ?_, ?_, ?_, ?_, ?_, ?_, ?_, ?_, ?_⟩ <;> unfold setHelmTo <;> (try dsimp only) <;> repeat' first | (simp; done) | split

@[simp] theorem degradedTest_frame (s : State) :
    (degradedTest s).prop = s.prop ∧ (degradedTest s).chans = s.chans ∧ (degradedTest s).sup = s.sup ∧ (degradedTest s).line =
    s.line ∧ (degradedTest s).orders = s.orders ∧ (degradedTest s).fuel = s.fuel ∧ (degradedTest s).legs = s.legs ∧ (degradedTest
    s).store = s.store ∧ (degradedTest s).ckpt = s.ckpt ∧ (degradedTest s).ctl = s.ctl ∧ (degradedTest s).clock = s.clock ∧
    (degradedTest s).settling = s.settling ∧ (degradedTest s).readings = s.readings ∧ (degradedTest s).pending = s.pending := by
  refine ⟨?_, ?_, ?_, ?_, ?_, ?_, ?_, ?_, ?_, ?_, ?_, ?_, ?_, ?_⟩ <;> unfold degradedTest <;> (try dsimp only) <;> repeat' first | (simp; done) | split

@[simp] theorem rudderPeriod_frame (r : Fin 8) (raw : Nat) (s : State) :
    (rudderPeriod r raw s).prop = s.prop ∧ (rudderPeriod r raw s).chans = s.chans ∧ (rudderPeriod r raw s).sup = s.sup ∧
    (rudderPeriod r raw s).line = s.line ∧ (rudderPeriod r raw s).orders = s.orders ∧ (rudderPeriod r raw s).fuel = s.fuel ∧
    (rudderPeriod r raw s).legs = s.legs ∧ (rudderPeriod r raw s).store = s.store ∧ (rudderPeriod r raw s).ckpt = s.ckpt ∧
    (rudderPeriod r raw s).ctl = s.ctl ∧ (rudderPeriod r raw s).clock = s.clock ∧ (rudderPeriod r raw s).settling = s.settling ∧
    (rudderPeriod r raw s).readings = s.readings ∧ (rudderPeriod r raw s).pending = s.pending := by
  refine ⟨?_, ?_, ?_, ?_, ?_, ?_, ?_, ?_, ?_, ?_, ?_, ?_, ?_, ?_⟩ <;> unfold rudderPeriod <;> (try dsimp only) <;> repeat' first | (simp; done) | split

@[simp] theorem steeringControlPeriod_frame (samples : Vector Nat 8) (s : State) :
    (steeringControlPeriod samples s).prop = s.prop ∧ (steeringControlPeriod samples s).chans = s.chans ∧ (steeringControlPeriod
    samples s).sup = s.sup ∧ (steeringControlPeriod samples s).line = s.line ∧ (steeringControlPeriod samples s).orders = s.orders
    ∧ (steeringControlPeriod samples s).fuel = s.fuel ∧ (steeringControlPeriod samples s).legs = s.legs ∧ (steeringControlPeriod
    samples s).store = s.store ∧ (steeringControlPeriod samples s).ckpt = s.ckpt ∧ (steeringControlPeriod samples s).ctl = s.ctl ∧
    (steeringControlPeriod samples s).clock = s.clock ∧ (steeringControlPeriod samples s).settling = s.settling ∧
    (steeringControlPeriod samples s).readings = s.readings ∧ (steeringControlPeriod samples s).pending = s.pending := by
  refine ⟨?_, ?_, ?_, ?_, ?_, ?_, ?_, ?_, ?_, ?_, ?_, ?_, ?_, ?_⟩ <;> unfold steeringControlPeriod <;> (try dsimp only) <;> repeat' first | (simp; done) | split

@[simp] theorem onBow_frame (s : State) (serial : Nat) (f : BowUnit → BowUnit) :
    (State.onBow s serial f).port = s.port ∧ (State.onBow s serial f).prop = s.prop ∧ (State.onBow s serial f).chans = s.chans ∧
    (State.onBow s serial f).sup = s.sup ∧ (State.onBow s serial f).line = s.line ∧ (State.onBow s serial f).orders = s.orders ∧
    (State.onBow s serial f).fuel = s.fuel ∧ (State.onBow s serial f).legs = s.legs ∧ (State.onBow s serial f).store = s.store ∧
    (State.onBow s serial f).ckpt = s.ckpt ∧ (State.onBow s serial f).ctl = s.ctl ∧ (State.onBow s serial f).clock = s.clock ∧
    (State.onBow s serial f).settling = s.settling ∧ (State.onBow s serial f).readings = s.readings ∧ (State.onBow s serial
    f).pending = s.pending := by
  refine ⟨?_, ?_, ?_, ?_, ?_, ?_, ?_, ?_, ?_, ?_, ?_, ?_, ?_, ?_, ?_⟩ <;> unfold State.onBow <;> (try dsimp only) <;> repeat' first | (simp; done) | split

@[simp] theorem storeBowDemand_frame (serial : Nat) (demand : Int) (s : State) :
    (storeBowDemand serial demand s).port = s.port ∧ (storeBowDemand serial demand s).prop = s.prop ∧ (storeBowDemand serial
    demand s).chans = s.chans ∧ (storeBowDemand serial demand s).sup = s.sup ∧ (storeBowDemand serial demand s).line = s.line ∧
    (storeBowDemand serial demand s).orders = s.orders ∧ (storeBowDemand serial demand s).fuel = s.fuel ∧ (storeBowDemand serial
    demand s).legs = s.legs ∧ (storeBowDemand serial demand s).store = s.store ∧ (storeBowDemand serial demand s).ckpt = s.ckpt ∧
    (storeBowDemand serial demand s).ctl = s.ctl ∧ (storeBowDemand serial demand s).clock = s.clock ∧ (storeBowDemand serial
    demand s).settling = s.settling ∧ (storeBowDemand serial demand s).readings = s.readings ∧ (storeBowDemand serial demand
    s).pending = s.pending := by
  refine ⟨?_, ?_, ?_, ?_, ?_, ?_, ?_, ?_, ?_, ?_, ?_, ?_, ?_, ?_, ?_⟩ <;> unfold storeBowDemand <;> (try dsimp only) <;> repeat' first | (simp; done) | split

@[simp] theorem bowNotice_frame (serial : Nat) (kind : Option NodeKind) (state : Option NodeState) (s : State) :
    (bowNotice serial kind state s).port = s.port ∧ (bowNotice serial kind state s).prop = s.prop ∧ (bowNotice serial kind state
    s).chans = s.chans ∧ (bowNotice serial kind state s).sup = s.sup ∧ (bowNotice serial kind state s).line = s.line ∧ (bowNotice
    serial kind state s).orders = s.orders ∧ (bowNotice serial kind state s).fuel = s.fuel ∧ (bowNotice serial kind state s).legs
    = s.legs ∧ (bowNotice serial kind state s).store = s.store ∧ (bowNotice serial kind state s).ckpt = s.ckpt ∧ (bowNotice serial
    kind state s).ctl = s.ctl ∧ (bowNotice serial kind state s).clock = s.clock ∧ (bowNotice serial kind state s).settling =
    s.settling ∧ (bowNotice serial kind state s).readings = s.readings ∧ (bowNotice serial kind state s).pending = s.pending := by
  refine ⟨?_, ?_, ?_, ?_, ?_, ?_, ?_, ?_, ?_, ?_, ?_, ?_, ?_, ?_, ?_⟩ <;> unfold bowNotice <;> (try dsimp only) <;> repeat' first | (simp; done) | split

@[simp] theorem bowReply_frame (serial : Nat) (actual : Option Int) (running fault : Bool) (s : State) :
    (bowReply serial actual running fault s).port = s.port ∧ (bowReply serial actual running fault s).prop = s.prop ∧ (bowReply
    serial actual running fault s).chans = s.chans ∧ (bowReply serial actual running fault s).sup = s.sup ∧ (bowReply serial
    actual running fault s).line = s.line ∧ (bowReply serial actual running fault s).orders = s.orders ∧ (bowReply serial actual
    running fault s).fuel = s.fuel ∧ (bowReply serial actual running fault s).legs = s.legs ∧ (bowReply serial actual running
    fault s).store = s.store ∧ (bowReply serial actual running fault s).ckpt = s.ckpt ∧ (bowReply serial actual running fault
    s).ctl = s.ctl ∧ (bowReply serial actual running fault s).clock = s.clock ∧ (bowReply serial actual running fault s).settling
    = s.settling ∧ (bowReply serial actual running fault s).readings = s.readings ∧ (bowReply serial actual running fault
    s).pending = s.pending := by
  refine ⟨?_, ?_, ?_, ?_, ?_, ?_, ?_, ?_, ?_, ?_, ?_, ?_, ?_, ?_, ?_⟩ <;> unfold bowReply <;> (try dsimp only) <;> repeat' first | (simp; done) | split

@[simp] theorem addBow_frame (u : BowUnit) (s : State) :
    (addBow u s).port = s.port ∧ (addBow u s).prop = s.prop ∧ (addBow u s).chans = s.chans ∧ (addBow u s).sup = s.sup ∧ (addBow u
    s).line = s.line ∧ (addBow u s).orders = s.orders ∧ (addBow u s).fuel = s.fuel ∧ (addBow u s).legs = s.legs ∧ (addBow u
    s).store = s.store ∧ (addBow u s).ckpt = s.ckpt ∧ (addBow u s).ctl = s.ctl ∧ (addBow u s).clock = s.clock ∧ (addBow u
    s).settling = s.settling ∧ (addBow u s).readings = s.readings ∧ (addBow u s).pending = s.pending := by
  refine ⟨?_, ?_, ?_, ?_, ?_, ?_, ?_, ?_, ?_, ?_, ?_, ?_, ?_, ?_, ?_⟩ <;> unfold addBow <;> (try dsimp only) <;> repeat' first | (simp; done) | split

@[simp] theorem dropBow_frame (p : Pos) (s : State) :
    (dropBow p s).port = s.port ∧ (dropBow p s).prop = s.prop ∧ (dropBow p s).chans = s.chans ∧ (dropBow p s).sup = s.sup ∧
    (dropBow p s).line = s.line ∧ (dropBow p s).orders = s.orders ∧ (dropBow p s).fuel = s.fuel ∧ (dropBow p s).legs = s.legs ∧
    (dropBow p s).store = s.store ∧ (dropBow p s).ckpt = s.ckpt ∧ (dropBow p s).ctl = s.ctl ∧ (dropBow p s).clock = s.clock ∧
    (dropBow p s).settling = s.settling ∧ (dropBow p s).readings = s.readings ∧ (dropBow p s).pending = s.pending := by
  refine ⟨?_, ?_, ?_, ?_, ?_, ?_, ?_, ?_, ?_, ?_, ?_, ?_, ?_, ?_, ?_⟩ <;> unfold dropBow <;> (try dsimp only) <;> repeat' first | (simp; done) | split

@[simp] theorem rudderReturns_frame (r : Fin 8) (s : State) :
    (rudderReturns r s).port = s.port ∧ (rudderReturns r s).prop = s.prop ∧ (rudderReturns r s).chans = s.chans ∧ (rudderReturns r
    s).sup = s.sup ∧ (rudderReturns r s).line = s.line ∧ (rudderReturns r s).orders = s.orders ∧ (rudderReturns r s).fuel = s.fuel
    ∧ (rudderReturns r s).legs = s.legs ∧ (rudderReturns r s).store = s.store ∧ (rudderReturns r s).ckpt = s.ckpt ∧ (rudderReturns
    r s).ctl = s.ctl ∧ (rudderReturns r s).clock = s.clock ∧ (rudderReturns r s).settling = s.settling ∧ (rudderReturns r
    s).readings = s.readings ∧ (rudderReturns r s).pending = s.pending := by
  refine ⟨?_, ?_, ?_, ?_, ?_, ?_, ?_, ?_, ?_, ?_, ?_, ?_, ?_, ?_, ?_⟩ <;> unfold rudderReturns <;> (try dsimp only) <;> repeat' first | (simp; done) | split

@[simp] theorem clearTrims_frame (s : State) :
    (clearTrims s).port = s.port ∧ (clearTrims s).prop = s.prop ∧ (clearTrims s).steer = s.steer ∧ (clearTrims s).sup = s.sup ∧
    (clearTrims s).line = s.line ∧ (clearTrims s).orders = s.orders ∧ (clearTrims s).fuel = s.fuel ∧ (clearTrims s).legs = s.legs
    ∧ (clearTrims s).store = s.store ∧ (clearTrims s).ckpt = s.ckpt ∧ (clearTrims s).ctl = s.ctl ∧ (clearTrims s).clock = s.clock
    ∧ (clearTrims s).settling = s.settling ∧ (clearTrims s).readings = s.readings ∧ (clearTrims s).pending = s.pending := by
  refine ⟨?_, ?_, ?_, ?_, ?_, ?_, ?_, ?_, ?_, ?_, ?_, ?_, ?_, ?_, ?_⟩ <;> unfold clearTrims <;> (try dsimp only) <;> repeat' first | (simp; done) | split

@[simp] theorem directionChanged_frame (s : State) :
    (directionChanged s).prop = s.prop ∧ (directionChanged s).sup = s.sup ∧ (directionChanged s).line = s.line ∧ (directionChanged
    s).orders = s.orders ∧ (directionChanged s).fuel = s.fuel ∧ (directionChanged s).legs = s.legs ∧ (directionChanged s).store =
    s.store ∧ (directionChanged s).ckpt = s.ckpt ∧ (directionChanged s).ctl = s.ctl ∧ (directionChanged s).clock = s.clock ∧
    (directionChanged s).settling = s.settling ∧ (directionChanged s).readings = s.readings ∧ (directionChanged s).pending =
    s.pending := by
  refine ⟨?_, ?_, ?_, ?_, ?_, ?_, ?_, ?_, ?_, ?_, ?_, ?_, ?_⟩ <;> unfold directionChanged <;> (try dsimp only) <;> repeat' first | (simp; done) | split

@[simp] theorem recomputeLe_frame (s : State) :
    (recomputeLe s).sup = s.sup ∧ (recomputeLe s).line = s.line ∧ (recomputeLe s).orders = s.orders ∧ (recomputeLe s).fuel =
    s.fuel ∧ (recomputeLe s).legs = s.legs ∧ (recomputeLe s).store = s.store ∧ (recomputeLe s).ckpt = s.ckpt ∧ (recomputeLe s).ctl
    = s.ctl ∧ (recomputeLe s).clock = s.clock ∧ (recomputeLe s).readings = s.readings ∧ (recomputeLe s).pending = s.pending := by
  refine ⟨?_, ?_, ?_, ?_, ?_, ?_, ?_, ?_, ?_, ?_, ?_⟩ <;> unfold recomputeLe <;> (try dsimp only) <;> repeat' first | (simp; done) | split

@[simp] theorem capsReport_frame (s : State) :
    (capsReport s).prop = s.prop ∧ (capsReport s).chans = s.chans ∧ (capsReport s).steer = s.steer ∧ (capsReport s).sup = s.sup ∧
    (capsReport s).line = s.line ∧ (capsReport s).orders = s.orders ∧ (capsReport s).fuel = s.fuel ∧ (capsReport s).legs = s.legs
    ∧ (capsReport s).store = s.store ∧ (capsReport s).ckpt = s.ckpt ∧ (capsReport s).ctl = s.ctl ∧ (capsReport s).clock = s.clock
    ∧ (capsReport s).settling = s.settling ∧ (capsReport s).readings = s.readings ∧ (capsReport s).pending = s.pending := by
  refine ⟨?_, ?_, ?_, ?_, ?_, ?_, ?_, ?_, ?_, ?_, ?_, ?_, ?_, ?_, ?_⟩ <;> unfold capsReport <;> (try dsimp only) <;> repeat' first | (simp; done) | split

@[simp] theorem sourceReport_frame (s : State) :
    (sourceReport s).prop = s.prop ∧ (sourceReport s).chans = s.chans ∧ (sourceReport s).steer = s.steer ∧ (sourceReport s).sup =
    s.sup ∧ (sourceReport s).line = s.line ∧ (sourceReport s).orders = s.orders ∧ (sourceReport s).fuel = s.fuel ∧ (sourceReport
    s).legs = s.legs ∧ (sourceReport s).store = s.store ∧ (sourceReport s).ckpt = s.ckpt ∧ (sourceReport s).ctl = s.ctl ∧
    (sourceReport s).clock = s.clock ∧ (sourceReport s).settling = s.settling ∧ (sourceReport s).readings = s.readings ∧
    (sourceReport s).pending = s.pending := by
  refine ⟨?_, ?_, ?_, ?_, ?_, ?_, ?_, ?_, ?_, ?_, ?_, ?_, ?_, ?_, ?_⟩ <;> unfold sourceReport <;> (try dsimp only) <;> repeat' first | (simp; done) | split

@[simp] theorem restartSilence_frame (s : State) :
    (restartSilence s).port = s.port ∧ (restartSilence s).chans = s.chans ∧ (restartSilence s).steer = s.steer ∧ (restartSilence
    s).sup = s.sup ∧ (restartSilence s).line = s.line ∧ (restartSilence s).orders = s.orders ∧ (restartSilence s).fuel = s.fuel ∧
    (restartSilence s).legs = s.legs ∧ (restartSilence s).store = s.store ∧ (restartSilence s).ckpt = s.ckpt ∧ (restartSilence
    s).ctl = s.ctl ∧ (restartSilence s).clock = s.clock ∧ (restartSilence s).settling = s.settling ∧ (restartSilence s).readings =
    s.readings ∧ (restartSilence s).pending = s.pending := by
  refine ⟨?_, ?_, ?_, ?_, ?_, ?_, ?_, ?_, ?_, ?_, ?_, ?_, ?_, ?_, ?_⟩ <;> unfold restartSilence <;> (try dsimp only) <;> repeat' first | (simp; done) | split

@[simp] theorem endSilence_frame (s : State) :
    (endSilence s).chans = s.chans ∧ (endSilence s).steer = s.steer ∧ (endSilence s).sup = s.sup ∧ (endSilence s).line = s.line ∧
    (endSilence s).orders = s.orders ∧ (endSilence s).fuel = s.fuel ∧ (endSilence s).legs = s.legs ∧ (endSilence s).store =
    s.store ∧ (endSilence s).ckpt = s.ckpt ∧ (endSilence s).ctl = s.ctl ∧ (endSilence s).clock = s.clock ∧ (endSilence s).settling
    = s.settling ∧ (endSilence s).readings = s.readings ∧ (endSilence s).pending = s.pending := by
  refine ⟨?_, ?_, ?_, ?_, ?_, ?_, ?_, ?_, ?_, ?_, ?_, ?_, ?_, ?_⟩ <;> unfold endSilence <;> (try dsimp only) <;> repeat' first | (simp; done) | split

@[simp] theorem clearLatch_frame (lever : Int) (s : State) :
    (clearLatch lever s).chans = s.chans ∧ (clearLatch lever s).steer = s.steer ∧ (clearLatch lever s).sup = s.sup ∧ (clearLatch
    lever s).line = s.line ∧ (clearLatch lever s).orders = s.orders ∧ (clearLatch lever s).fuel = s.fuel ∧ (clearLatch lever
    s).legs = s.legs ∧ (clearLatch lever s).store = s.store ∧ (clearLatch lever s).ckpt = s.ckpt ∧ (clearLatch lever s).ctl =
    s.ctl ∧ (clearLatch lever s).clock = s.clock ∧ (clearLatch lever s).settling = s.settling ∧ (clearLatch lever s).readings =
    s.readings ∧ (clearLatch lever s).pending = s.pending := by
  refine ⟨?_, ?_, ?_, ?_, ?_, ?_, ?_, ?_, ?_, ?_, ?_, ?_, ?_, ?_⟩ <;> unfold clearLatch <;> (try dsimp only) <;> repeat' first | (simp; done) | split

@[simp] theorem tankReport_frame (k : Fin 8) (s : State) :
    (tankReport k s).prop = s.prop ∧ (tankReport k s).chans = s.chans ∧ (tankReport k s).steer = s.steer ∧ (tankReport k s).sup =
    s.sup ∧ (tankReport k s).line = s.line ∧ (tankReport k s).orders = s.orders ∧ (tankReport k s).fuel = s.fuel ∧ (tankReport k
    s).legs = s.legs ∧ (tankReport k s).store = s.store ∧ (tankReport k s).ckpt = s.ckpt ∧ (tankReport k s).ctl = s.ctl ∧
    (tankReport k s).clock = s.clock ∧ (tankReport k s).settling = s.settling ∧ (tankReport k s).readings = s.readings ∧
    (tankReport k s).pending = s.pending := by
  refine ⟨?_, ?_, ?_, ?_, ?_, ?_, ?_, ?_, ?_, ?_, ?_, ?_, ?_, ?_, ?_⟩ <;> unfold tankReport <;> (try dsimp only) <;> repeat' first | (simp; done) | split

@[simp] theorem tankReportOf_frame (n : Nat) (s : State) :
    (tankReportOf n s).prop = s.prop ∧ (tankReportOf n s).chans = s.chans ∧ (tankReportOf n s).steer = s.steer ∧ (tankReportOf n
    s).sup = s.sup ∧ (tankReportOf n s).line = s.line ∧ (tankReportOf n s).orders = s.orders ∧ (tankReportOf n s).fuel = s.fuel ∧
    (tankReportOf n s).legs = s.legs ∧ (tankReportOf n s).store = s.store ∧ (tankReportOf n s).ckpt = s.ckpt ∧ (tankReportOf n
    s).ctl = s.ctl ∧ (tankReportOf n s).clock = s.clock ∧ (tankReportOf n s).settling = s.settling ∧ (tankReportOf n s).readings =
    s.readings ∧ (tankReportOf n s).pending = s.pending := by
  refine ⟨?_, ?_, ?_, ?_, ?_, ?_, ?_, ?_, ?_, ?_, ?_, ?_, ?_, ?_, ?_⟩ <;> unfold tankReportOf <;> (try dsimp only) <;> repeat' first | (simp; done) | split

@[simp] theorem addAdjustment_frame (x : Int) (s : State) :
    (addAdjustment x s).port = s.port ∧ (addAdjustment x s).prop = s.prop ∧ (addAdjustment x s).chans = s.chans ∧ (addAdjustment x
    s).steer = s.steer ∧ (addAdjustment x s).sup = s.sup ∧ (addAdjustment x s).line = s.line ∧ (addAdjustment x s).orders =
    s.orders ∧ (addAdjustment x s).store = s.store ∧ (addAdjustment x s).ckpt = s.ckpt ∧ (addAdjustment x s).ctl = s.ctl ∧
    (addAdjustment x s).clock = s.clock ∧ (addAdjustment x s).settling = s.settling ∧ (addAdjustment x s).readings = s.readings ∧
    (addAdjustment x s).pending = s.pending := by
  refine ⟨?_, ?_, ?_, ?_, ?_, ?_, ?_, ?_, ?_, ?_, ?_, ?_, ?_, ?_⟩ <;> unfold addAdjustment <;> (try dsimp only) <;> repeat' first | (simp; done) | split

@[simp] theorem takeFromBook_frame (k : Fin 8) (x : Int) (s : State) :
    (takeFromBook k x s).port = s.port ∧ (takeFromBook k x s).prop = s.prop ∧ (takeFromBook k x s).chans = s.chans ∧ (takeFromBook
    k x s).steer = s.steer ∧ (takeFromBook k x s).sup = s.sup ∧ (takeFromBook k x s).line = s.line ∧ (takeFromBook k x s).orders =
    s.orders ∧ (takeFromBook k x s).store = s.store ∧ (takeFromBook k x s).ckpt = s.ckpt ∧ (takeFromBook k x s).ctl = s.ctl ∧
    (takeFromBook k x s).clock = s.clock ∧ (takeFromBook k x s).settling = s.settling ∧ (takeFromBook k x s).readings = s.readings
    ∧ (takeFromBook k x s).pending = s.pending := by
  refine ⟨?_, ?_, ?_, ?_, ?_, ?_, ?_, ?_, ?_, ?_, ?_, ?_, ?_, ?_⟩ <;> unfold takeFromBook <;> (try dsimp only) <;> repeat' first | (simp; done) | split

@[simp] theorem lowTest_frame (k : Fin 8) (s : State) :
    (lowTest k s).prop = s.prop ∧ (lowTest k s).chans = s.chans ∧ (lowTest k s).steer = s.steer ∧ (lowTest k s).sup = s.sup ∧
    (lowTest k s).line = s.line ∧ (lowTest k s).orders = s.orders ∧ (lowTest k s).legs = s.legs ∧ (lowTest k s).store = s.store ∧
    (lowTest k s).ckpt = s.ckpt ∧ (lowTest k s).ctl = s.ctl ∧ (lowTest k s).clock = s.clock ∧ (lowTest k s).settling = s.settling
    ∧ (lowTest k s).readings = s.readings ∧ (lowTest k s).pending = s.pending := by
  refine ⟨?_, ?_, ?_, ?_, ?_, ?_, ?_, ?_, ?_, ?_, ?_, ?_, ?_, ?_⟩ <;> unfold lowTest <;> (try dsimp only) <;> repeat' first | (simp; done) | split

@[simp] theorem overfullTest_frame (k : Fin 8) (s : State) :
    (overfullTest k s).prop = s.prop ∧ (overfullTest k s).chans = s.chans ∧ (overfullTest k s).steer = s.steer ∧ (overfullTest k
    s).sup = s.sup ∧ (overfullTest k s).line = s.line ∧ (overfullTest k s).orders = s.orders ∧ (overfullTest k s).legs = s.legs ∧
    (overfullTest k s).store = s.store ∧ (overfullTest k s).ckpt = s.ckpt ∧ (overfullTest k s).ctl = s.ctl ∧ (overfullTest k
    s).clock = s.clock ∧ (overfullTest k s).settling = s.settling ∧ (overfullTest k s).readings = s.readings ∧ (overfullTest k
    s).pending = s.pending := by
  refine ⟨?_, ?_, ?_, ?_, ?_, ?_, ?_, ?_, ?_, ?_, ?_, ?_, ?_, ?_⟩ <;> unfold overfullTest <;> (try dsimp only) <;> repeat' first | (simp; done) | split

@[simp] theorem tankTests_frame (k : Fin 8) (s : State) :
    (tankTests k s).prop = s.prop ∧ (tankTests k s).chans = s.chans ∧ (tankTests k s).steer = s.steer ∧ (tankTests k s).sup =
    s.sup ∧ (tankTests k s).line = s.line ∧ (tankTests k s).orders = s.orders ∧ (tankTests k s).legs = s.legs ∧ (tankTests k
    s).store = s.store ∧ (tankTests k s).ckpt = s.ckpt ∧ (tankTests k s).ctl = s.ctl ∧ (tankTests k s).clock = s.clock ∧
    (tankTests k s).settling = s.settling ∧ (tankTests k s).readings = s.readings ∧ (tankTests k s).pending = s.pending := by
  refine ⟨?_, ?_, ?_, ?_, ?_, ?_, ?_, ?_, ?_, ?_, ?_, ?_, ?_, ?_⟩ <;> unfold tankTests <;> (try dsimp only) <;> repeat' first | (simp; done) | split

@[simp] theorem reserveTest_frame (s : State) :
    (reserveTest s).prop = s.prop ∧ (reserveTest s).chans = s.chans ∧ (reserveTest s).steer = s.steer ∧ (reserveTest s).sup =
    s.sup ∧ (reserveTest s).line = s.line ∧ (reserveTest s).orders = s.orders ∧ (reserveTest s).legs = s.legs ∧ (reserveTest
    s).store = s.store ∧ (reserveTest s).ckpt = s.ckpt ∧ (reserveTest s).ctl = s.ctl ∧ (reserveTest s).clock = s.clock ∧
    (reserveTest s).settling = s.settling ∧ (reserveTest s).readings = s.readings ∧ (reserveTest s).pending = s.pending := by
  refine ⟨?_, ?_, ?_, ?_, ?_, ?_, ?_, ?_, ?_, ?_, ?_, ?_, ?_, ?_⟩ <;> unfold reserveTest <;> (try dsimp only) <;> repeat' first | (simp; done) | split

@[simp] theorem fcapRecompute_frame (s : State) :
    (fcapRecompute s).sup = s.sup ∧ (fcapRecompute s).line = s.line ∧ (fcapRecompute s).orders = s.orders ∧ (fcapRecompute s).legs
    = s.legs ∧ (fcapRecompute s).store = s.store ∧ (fcapRecompute s).ckpt = s.ckpt ∧ (fcapRecompute s).ctl = s.ctl ∧
    (fcapRecompute s).clock = s.clock ∧ (fcapRecompute s).readings = s.readings ∧ (fcapRecompute s).pending = s.pending := by
  refine ⟨?_, ?_, ?_, ?_, ?_, ?_, ?_, ?_, ?_, ?_⟩ <;> unfold fcapRecompute <;> (try dsimp only) <;> repeat' first | (simp; done) | split

@[simp] theorem soundTo_frame (k : Fin 8) (book : Int) (s : State) :
    (soundTo k book s).port = s.port ∧ (soundTo k book s).prop = s.prop ∧ (soundTo k book s).chans = s.chans ∧ (soundTo k book
    s).steer = s.steer ∧ (soundTo k book s).sup = s.sup ∧ (soundTo k book s).line = s.line ∧ (soundTo k book s).orders = s.orders
    ∧ (soundTo k book s).store = s.store ∧ (soundTo k book s).ckpt = s.ckpt ∧ (soundTo k book s).ctl = s.ctl ∧ (soundTo k book
    s).clock = s.clock ∧ (soundTo k book s).settling = s.settling ∧ (soundTo k book s).readings = s.readings ∧ (soundTo k book
    s).pending = s.pending := by
  refine ⟨?_, ?_, ?_, ?_, ?_, ?_, ?_, ?_, ?_, ?_, ?_, ?_, ?_, ?_⟩ <;> unfold soundTo <;> (try dsimp only) <;> repeat' first | (simp; done) | split

@[simp] theorem startWrite_frame (s : State) :
    (startWrite s).port = s.port ∧ (startWrite s).prop = s.prop ∧ (startWrite s).chans = s.chans ∧ (startWrite s).steer = s.steer
    ∧ (startWrite s).sup = s.sup ∧ (startWrite s).line = s.line ∧ (startWrite s).orders = s.orders ∧ (startWrite s).fuel = s.fuel
    ∧ (startWrite s).legs = s.legs ∧ (startWrite s).store = s.store ∧ (startWrite s).ctl = s.ctl ∧ (startWrite s).clock = s.clock
    ∧ (startWrite s).settling = s.settling ∧ (startWrite s).readings = s.readings ∧ (startWrite s).pending = s.pending := by
  refine ⟨?_, ?_, ?_, ?_, ?_, ?_, ?_, ?_, ?_, ?_, ?_, ?_, ?_, ?_, ?_⟩ <;> unfold startWrite <;> (try dsimp only) <;> repeat' first | (simp; done) | split

@[simp] theorem writeAsked_frame (s : State) :
    (writeAsked s).port = s.port ∧ (writeAsked s).prop = s.prop ∧ (writeAsked s).chans = s.chans ∧ (writeAsked s).steer = s.steer
    ∧ (writeAsked s).sup = s.sup ∧ (writeAsked s).line = s.line ∧ (writeAsked s).orders = s.orders ∧ (writeAsked s).fuel = s.fuel
    ∧ (writeAsked s).legs = s.legs ∧ (writeAsked s).store = s.store ∧ (writeAsked s).ctl = s.ctl ∧ (writeAsked s).clock = s.clock
    ∧ (writeAsked s).readings = s.readings ∧ (writeAsked s).pending = s.pending := by
  refine ⟨?_, ?_, ?_, ?_, ?_, ?_, ?_, ?_, ?_, ?_, ?_, ?_, ?_, ?_⟩ <;> unfold writeAsked <;> (try dsimp only) <;> repeat' first | (simp; done) | split

@[simp] theorem legClosedReport_frame (c : ClosedLeg) (s : State) :
    (legClosedReport c s).prop = s.prop ∧ (legClosedReport c s).chans = s.chans ∧ (legClosedReport c s).steer = s.steer ∧
    (legClosedReport c s).sup = s.sup ∧ (legClosedReport c s).line = s.line ∧ (legClosedReport c s).orders = s.orders ∧
    (legClosedReport c s).fuel = s.fuel ∧ (legClosedReport c s).legs = s.legs ∧ (legClosedReport c s).store = s.store ∧
    (legClosedReport c s).ckpt = s.ckpt ∧ (legClosedReport c s).ctl = s.ctl ∧ (legClosedReport c s).clock = s.clock ∧
    (legClosedReport c s).settling = s.settling ∧ (legClosedReport c s).readings = s.readings ∧ (legClosedReport c s).pending =
    s.pending := by
  refine ⟨?_, ?_, ?_, ?_, ?_, ?_, ?_, ?_, ?_, ?_, ?_, ?_, ?_, ?_, ?_⟩ <;> unfold legClosedReport <;> (try dsimp only) <;> repeat' first | (simp; done) | split

@[simp] theorem closeLeg_frame (cause : CloseCause) (s : State) :
    (closeLeg cause s).prop = s.prop ∧ (closeLeg cause s).chans = s.chans ∧ (closeLeg cause s).steer = s.steer ∧ (closeLeg cause
    s).sup = s.sup ∧ (closeLeg cause s).line = s.line ∧ (closeLeg cause s).orders = s.orders ∧ (closeLeg cause s).fuel = s.fuel ∧
    (closeLeg cause s).store = s.store ∧ (closeLeg cause s).ckpt = s.ckpt ∧ (closeLeg cause s).ctl = s.ctl ∧ (closeLeg cause
    s).clock = s.clock ∧ (closeLeg cause s).readings = s.readings ∧ (closeLeg cause s).pending = s.pending := by
  refine ⟨?_, ?_, ?_, ?_, ?_, ?_, ?_, ?_, ?_, ?_, ?_, ?_, ?_⟩ <;> unfold closeLeg <;> (try dsimp only) <;> repeat' first | (simp; done) | split

@[simp] theorem makeupEvent_frame (s : State) :
    (makeupEvent s).prop = s.prop ∧ (makeupEvent s).chans = s.chans ∧ (makeupEvent s).steer = s.steer ∧ (makeupEvent s).sup =
    s.sup ∧ (makeupEvent s).line = s.line ∧ (makeupEvent s).orders = s.orders ∧ (makeupEvent s).fuel = s.fuel ∧ (makeupEvent
    s).store = s.store ∧ (makeupEvent s).ckpt = s.ckpt ∧ (makeupEvent s).ctl = s.ctl ∧ (makeupEvent s).clock = s.clock ∧
    (makeupEvent s).readings = s.readings ∧ (makeupEvent s).pending = s.pending := by
  refine ⟨?_, ?_, ?_, ?_, ?_, ?_, ?_, ?_, ?_, ?_, ?_, ?_, ?_⟩ <;> unfold makeupEvent <;> (try dsimp only) <;> repeat' first | (simp; done) | split

@[simp] theorem logPulse_frame (s : State) :
    (logPulse s).port = s.port ∧ (logPulse s).prop = s.prop ∧ (logPulse s).chans = s.chans ∧ (logPulse s).steer = s.steer ∧
    (logPulse s).sup = s.sup ∧ (logPulse s).line = s.line ∧ (logPulse s).orders = s.orders ∧ (logPulse s).fuel = s.fuel ∧
    (logPulse s).store = s.store ∧ (logPulse s).ckpt = s.ckpt ∧ (logPulse s).ctl = s.ctl ∧ (logPulse s).clock = s.clock ∧
    (logPulse s).settling = s.settling ∧ (logPulse s).readings = s.readings ∧ (logPulse s).pending = s.pending := by
  refine ⟨?_, ?_, ?_, ?_, ?_, ?_, ?_, ?_, ?_, ?_, ?_, ?_, ?_, ?_, ?_⟩ <;> unfold logPulse <;> (try dsimp only) <;> repeat' first | (simp; done) | split

@[simp] theorem voyageClockTick_frame (s : State) :
    (voyageClockTick s).port = s.port ∧ (voyageClockTick s).prop = s.prop ∧ (voyageClockTick s).chans = s.chans ∧ (voyageClockTick
    s).steer = s.steer ∧ (voyageClockTick s).sup = s.sup ∧ (voyageClockTick s).line = s.line ∧ (voyageClockTick s).orders =
    s.orders ∧ (voyageClockTick s).fuel = s.fuel ∧ (voyageClockTick s).legs = s.legs ∧ (voyageClockTick s).store = s.store ∧
    (voyageClockTick s).ckpt = s.ckpt ∧ (voyageClockTick s).ctl = s.ctl ∧ (voyageClockTick s).settling = s.settling ∧
    (voyageClockTick s).readings = s.readings ∧ (voyageClockTick s).pending = s.pending := by
  refine ⟨?_, ?_, ?_, ?_, ?_, ?_, ?_, ?_, ?_, ?_, ?_, ?_, ?_, ?_, ?_⟩ <;> unfold voyageClockTick <;> (try dsimp only) <;> repeat' first | (simp; done) | split

end Sys2Proof.Machine
end

