-- ==== Sys2Proof/Laws/FramesOrders.lean ====
section
/-! SUPPORT. What each operation of the orders, couplings and the tow leaves: every part of the state it does not act on. -/

set_option linter.unusedTactic false
set_option linter.unreachableTactic false

namespace Sys2Proof.Machine

@[simp] theorem onCoupling_frame (s : State) (n : Nat) (f : Coupling → Coupling) :
    (State.onCoupling s n f).port = s.port ∧ (State.onCoupling s n f).prop = s.prop ∧ (State.onCoupling s n f).chans = s.chans ∧
    (State.onCoupling s n f).steer = s.steer ∧ (State.onCoupling s n f).line = s.line ∧ (State.onCoupling s n f).orders = s.orders
    ∧ (State.onCoupling s n f).fuel = s.fuel ∧ (State.onCoupling s n f).legs = s.legs ∧ (State.onCoupling s n f).store = s.store ∧
    (State.onCoupling s n f).ckpt = s.ckpt ∧ (State.onCoupling s n f).ctl = s.ctl ∧ (State.onCoupling s n f).clock = s.clock ∧
    (State.onCoupling s n f).settling = s.settling ∧ (State.onCoupling s n f).readings = s.readings ∧ (State.onCoupling s n
    f).pending = s.pending := by
  refine ⟨?_, ?_, ?_, ?_, ?_, ?_, ?_, ?_, ?_, ?_, ?_, ?_, ?_, ?_, ?_⟩ <;> unfold State.onCoupling <;> (try dsimp only) <;> repeat' first | (simp; done) | split

@[simp] theorem couplingReport_frame (n : Nat) (s : State) :
    (couplingReport n s).prop = s.prop ∧ (couplingReport n s).chans = s.chans ∧ (couplingReport n s).steer = s.steer ∧
    (couplingReport n s).sup = s.sup ∧ (couplingReport n s).line = s.line ∧ (couplingReport n s).orders = s.orders ∧
    (couplingReport n s).fuel = s.fuel ∧ (couplingReport n s).legs = s.legs ∧ (couplingReport n s).store = s.store ∧
    (couplingReport n s).ckpt = s.ckpt ∧ (couplingReport n s).ctl = s.ctl ∧ (couplingReport n s).clock = s.clock ∧ (couplingReport
    n s).settling = s.settling ∧ (couplingReport n s).readings = s.readings ∧ (couplingReport n s).pending = s.pending := by
  refine ⟨?_, ?_, ?_, ?_, ?_, ?_, ?_, ?_, ?_, ?_, ?_, ?_, ?_, ?_, ?_⟩ <;> unfold couplingReport <;> (try dsimp only) <;> repeat' first | (simp; done) | split

@[simp] theorem couplingAlarm_frame (c : Coupling) (st : CouplingState) (s : State) :
    (couplingAlarm c st s).prop = s.prop ∧ (couplingAlarm c st s).chans = s.chans ∧ (couplingAlarm c st s).steer = s.steer ∧
    (couplingAlarm c st s).sup = s.sup ∧ (couplingAlarm c st s).line = s.line ∧ (couplingAlarm c st s).orders = s.orders ∧
    (couplingAlarm c st s).fuel = s.fuel ∧ (couplingAlarm c st s).legs = s.legs ∧ (couplingAlarm c st s).store = s.store ∧
    (couplingAlarm c st s).ckpt = s.ckpt ∧ (couplingAlarm c st s).ctl = s.ctl ∧ (couplingAlarm c st s).clock = s.clock ∧
    (couplingAlarm c st s).settling = s.settling ∧ (couplingAlarm c st s).readings = s.readings ∧ (couplingAlarm c st s).pending =
    s.pending := by
  refine ⟨?_, ?_, ?_, ?_, ?_, ?_, ?_, ?_, ?_, ?_, ?_, ?_, ?_, ?_, ?_⟩ <;> unfold couplingAlarm <;> (try dsimp only) <;> repeat' first | (simp; done) | split

@[simp] theorem setCouplingState_frame (n : Nat) (st : CouplingState) (s : State) :
    (setCouplingState n st s).prop = s.prop ∧ (setCouplingState n st s).chans = s.chans ∧ (setCouplingState n st s).steer =
    s.steer ∧ (setCouplingState n st s).line = s.line ∧ (setCouplingState n st s).orders = s.orders ∧ (setCouplingState n st
    s).fuel = s.fuel ∧ (setCouplingState n st s).legs = s.legs ∧ (setCouplingState n st s).store = s.store ∧ (setCouplingState n
    st s).ckpt = s.ckpt ∧ (setCouplingState n st s).ctl = s.ctl ∧ (setCouplingState n st s).clock = s.clock ∧ (setCouplingState n
    st s).readings = s.readings ∧ (setCouplingState n st s).pending = s.pending := by
  refine ⟨?_, ?_, ?_, ?_, ?_, ?_, ?_, ?_, ?_, ?_, ?_, ?_, ?_⟩ <;> unfold setCouplingState <;> (try dsimp only) <;> repeat' first | (simp; done) | split

@[simp] theorem setCommand_frame (n : Nat) (cmd : WinchCmd) (s : State) :
    (setCommand n cmd s).port = s.port ∧ (setCommand n cmd s).prop = s.prop ∧ (setCommand n cmd s).chans = s.chans ∧ (setCommand n
    cmd s).steer = s.steer ∧ (setCommand n cmd s).line = s.line ∧ (setCommand n cmd s).orders = s.orders ∧ (setCommand n cmd
    s).fuel = s.fuel ∧ (setCommand n cmd s).legs = s.legs ∧ (setCommand n cmd s).store = s.store ∧ (setCommand n cmd s).ckpt =
    s.ckpt ∧ (setCommand n cmd s).ctl = s.ctl ∧ (setCommand n cmd s).clock = s.clock ∧ (setCommand n cmd s).settling = s.settling
    ∧ (setCommand n cmd s).readings = s.readings ∧ (setCommand n cmd s).pending = s.pending := by
  refine ⟨?_, ?_, ?_, ?_, ?_, ?_, ?_, ?_, ?_, ?_, ?_, ?_, ?_, ?_, ?_⟩ <;> unfold setCommand <;> (try dsimp only) <;> repeat' first | (simp; done) | split

@[simp] theorem commandLeaves_frame (n : Nat) (s : State) :
    (commandLeaves n s).port = s.port ∧ (commandLeaves n s).prop = s.prop ∧ (commandLeaves n s).chans = s.chans ∧ (commandLeaves n
    s).steer = s.steer ∧ (commandLeaves n s).line = s.line ∧ (commandLeaves n s).orders = s.orders ∧ (commandLeaves n s).fuel =
    s.fuel ∧ (commandLeaves n s).legs = s.legs ∧ (commandLeaves n s).store = s.store ∧ (commandLeaves n s).ckpt = s.ckpt ∧
    (commandLeaves n s).ctl = s.ctl ∧ (commandLeaves n s).clock = s.clock ∧ (commandLeaves n s).settling = s.settling ∧
    (commandLeaves n s).readings = s.readings ∧ (commandLeaves n s).pending = s.pending := by
  refine ⟨?_, ?_, ?_, ?_, ?_, ?_, ?_, ?_, ?_, ?_, ?_, ?_, ?_, ?_, ?_⟩ <;> unfold commandLeaves <;> (try dsimp only) <;> repeat' first | (simp; done) | split

@[simp] theorem setSlot_frame (s : State) (i : Fin 16) (o : Option Order) :
    (State.setSlot s i o).port = s.port ∧ (State.setSlot s i o).prop = s.prop ∧ (State.setSlot s i o).chans = s.chans ∧
    (State.setSlot s i o).steer = s.steer ∧ (State.setSlot s i o).sup = s.sup ∧ (State.setSlot s i o).line = s.line ∧
    (State.setSlot s i o).fuel = s.fuel ∧ (State.setSlot s i o).legs = s.legs ∧ (State.setSlot s i o).store = s.store ∧
    (State.setSlot s i o).ckpt = s.ckpt ∧ (State.setSlot s i o).ctl = s.ctl ∧ (State.setSlot s i o).clock = s.clock ∧
    (State.setSlot s i o).settling = s.settling ∧ (State.setSlot s i o).readings = s.readings ∧ (State.setSlot s i o).pending =
    s.pending := by
  refine ⟨?_, ?_, ?_, ?_, ?_, ?_, ?_, ?_, ?_, ?_, ?_, ?_, ?_, ?_, ?_⟩ <;> unfold State.setSlot <;> (try dsimp only) <;> repeat' first | (simp; done) | split

@[simp] theorem startHaul_frame (n : Nat) (s : State) :
    (startHaul n s).prop = s.prop ∧ (startHaul n s).chans = s.chans ∧ (startHaul n s).steer = s.steer ∧ (startHaul n s).line =
    s.line ∧ (startHaul n s).orders = s.orders ∧ (startHaul n s).fuel = s.fuel ∧ (startHaul n s).legs = s.legs ∧ (startHaul n
    s).store = s.store ∧ (startHaul n s).ckpt = s.ckpt ∧ (startHaul n s).ctl = s.ctl ∧ (startHaul n s).clock = s.clock ∧
    (startHaul n s).readings = s.readings ∧ (startHaul n s).pending = s.pending := by
  refine ⟨?_, ?_, ?_, ?_, ?_, ?_, ?_, ?_, ?_, ?_, ?_, ?_, ?_⟩ <;> unfold startHaul <;> (try dsimp only) <;> repeat' first | (simp; done) | split

@[simp] theorem startRelease_frame (n : Nat) (s : State) :
    (startRelease n s).prop = s.prop ∧ (startRelease n s).chans = s.chans ∧ (startRelease n s).steer = s.steer ∧ (startRelease n
    s).line = s.line ∧ (startRelease n s).orders = s.orders ∧ (startRelease n s).fuel = s.fuel ∧ (startRelease n s).legs = s.legs
    ∧ (startRelease n s).store = s.store ∧ (startRelease n s).ckpt = s.ckpt ∧ (startRelease n s).ctl = s.ctl ∧ (startRelease n
    s).clock = s.clock ∧ (startRelease n s).readings = s.readings ∧ (startRelease n s).pending = s.pending := by
  refine ⟨?_, ?_, ?_, ?_, ?_, ?_, ?_, ?_, ?_, ?_, ?_, ?_, ?_⟩ <;> unfold startRelease <;> (try dsimp only) <;> repeat' first | (simp; done) | split

@[simp] theorem handToBlock_frame (w : Work) (s : State) :
    (handToBlock w s).prop = s.prop ∧ (handToBlock w s).chans = s.chans ∧ (handToBlock w s).steer = s.steer ∧ (handToBlock w
    s).line = s.line ∧ (handToBlock w s).orders = s.orders ∧ (handToBlock w s).fuel = s.fuel ∧ (handToBlock w s).legs = s.legs ∧
    (handToBlock w s).store = s.store ∧ (handToBlock w s).ckpt = s.ckpt ∧ (handToBlock w s).ctl = s.ctl ∧ (handToBlock w s).clock
    = s.clock ∧ (handToBlock w s).readings = s.readings ∧ (handToBlock w s).pending = s.pending := by
  refine ⟨?_, ?_, ?_, ?_, ?_, ?_, ?_, ?_, ?_, ?_, ?_, ?_, ?_⟩ <;> unfold handToBlock <;> (try dsimp only) <;> repeat' first | (simp; done) | split

@[simp] theorem startOrder_frame (i : Fin 16) (s : State) :
    (startOrder i s).prop = s.prop ∧ (startOrder i s).chans = s.chans ∧ (startOrder i s).steer = s.steer ∧ (startOrder i s).line =
    s.line ∧ (startOrder i s).fuel = s.fuel ∧ (startOrder i s).legs = s.legs ∧ (startOrder i s).store = s.store ∧ (startOrder i
    s).ckpt = s.ckpt ∧ (startOrder i s).ctl = s.ctl ∧ (startOrder i s).clock = s.clock ∧ (startOrder i s).readings = s.readings ∧
    (startOrder i s).pending = s.pending := by
  refine ⟨?_, ?_, ?_, ?_, ?_, ?_, ?_, ?_, ?_, ?_, ?_, ?_⟩ <;> unfold startOrder <;> (try dsimp only) <;> repeat' first | (simp; done) | split

@[simp] theorem grantScan_frame (r : Resource) (s : State) :
    (grantScan r s).prop = s.prop ∧ (grantScan r s).chans = s.chans ∧ (grantScan r s).steer = s.steer ∧ (grantScan r s).line =
    s.line ∧ (grantScan r s).fuel = s.fuel ∧ (grantScan r s).legs = s.legs ∧ (grantScan r s).store = s.store ∧ (grantScan r
    s).ckpt = s.ckpt ∧ (grantScan r s).ctl = s.ctl ∧ (grantScan r s).clock = s.clock ∧ (grantScan r s).readings = s.readings ∧
    (grantScan r s).pending = s.pending := by
  refine ⟨?_, ?_, ?_, ?_, ?_, ?_, ?_, ?_, ?_, ?_, ?_, ?_⟩ <;> unfold grantScan <;> (try dsimp only) <;> repeat' first | (simp; done) | split

@[simp] theorem orderDoneReport_frame (o : Order) (c : Completion) (s : State) :
    (orderDoneReport o c s).prop = s.prop ∧ (orderDoneReport o c s).chans = s.chans ∧ (orderDoneReport o c s).steer = s.steer ∧
    (orderDoneReport o c s).sup = s.sup ∧ (orderDoneReport o c s).line = s.line ∧ (orderDoneReport o c s).orders = s.orders ∧
    (orderDoneReport o c s).fuel = s.fuel ∧ (orderDoneReport o c s).legs = s.legs ∧ (orderDoneReport o c s).store = s.store ∧
    (orderDoneReport o c s).ckpt = s.ckpt ∧ (orderDoneReport o c s).ctl = s.ctl ∧ (orderDoneReport o c s).clock = s.clock ∧
    (orderDoneReport o c s).settling = s.settling ∧ (orderDoneReport o c s).readings = s.readings ∧ (orderDoneReport o c
    s).pending = s.pending := by
  refine ⟨?_, ?_, ?_, ?_, ?_, ?_, ?_, ?_, ?_, ?_, ?_, ?_, ?_, ?_, ?_⟩ <;> unfold orderDoneReport <;> (try dsimp only) <;> repeat' first | (simp; done) | split

@[simp] theorem completeOrder_frame (i : Fin 16) (c : Completion) (s : State) :
    (completeOrder i c s).prop = s.prop ∧ (completeOrder i c s).chans = s.chans ∧ (completeOrder i c s).steer = s.steer ∧
    (completeOrder i c s).line = s.line ∧ (completeOrder i c s).fuel = s.fuel ∧ (completeOrder i c s).legs = s.legs ∧
    (completeOrder i c s).store = s.store ∧ (completeOrder i c s).ckpt = s.ckpt ∧ (completeOrder i c s).ctl = s.ctl ∧
    (completeOrder i c s).clock = s.clock ∧ (completeOrder i c s).readings = s.readings ∧ (completeOrder i c s).pending =
    s.pending := by
  refine ⟨?_, ?_, ?_, ?_, ?_, ?_, ?_, ?_, ?_, ?_, ?_, ?_⟩ <;> unfold completeOrder <;> (try dsimp only) <;> repeat' first | (simp; done) | split

@[simp] theorem endActive_frame (i : Fin 16) (n : Nat) (r : OrderResult) (tension : Option Nat) (s : State) :
    (endActive i n r tension s).prop = s.prop ∧ (endActive i n r tension s).chans = s.chans ∧ (endActive i n r tension s).steer =
    s.steer ∧ (endActive i n r tension s).line = s.line ∧ (endActive i n r tension s).fuel = s.fuel ∧ (endActive i n r tension
    s).legs = s.legs ∧ (endActive i n r tension s).store = s.store ∧ (endActive i n r tension s).ckpt = s.ckpt ∧ (endActive i n r
    tension s).ctl = s.ctl ∧ (endActive i n r tension s).clock = s.clock ∧ (endActive i n r tension s).readings = s.readings ∧
    (endActive i n r tension s).pending = s.pending := by
  refine ⟨?_, ?_, ?_, ?_, ?_, ?_, ?_, ?_, ?_, ?_, ?_, ?_⟩ <;> unfold endActive <;> (try dsimp only) <;> repeat' first | (simp; done) | split

@[simp] theorem retestSlot_frame (i : Fin 16) (s : State) :
    (retestSlot i s).prop = s.prop ∧ (retestSlot i s).chans = s.chans ∧ (retestSlot i s).steer = s.steer ∧ (retestSlot i s).line =
    s.line ∧ (retestSlot i s).fuel = s.fuel ∧ (retestSlot i s).legs = s.legs ∧ (retestSlot i s).store = s.store ∧ (retestSlot i
    s).ckpt = s.ckpt ∧ (retestSlot i s).ctl = s.ctl ∧ (retestSlot i s).clock = s.clock ∧ (retestSlot i s).readings = s.readings ∧
    (retestSlot i s).pending = s.pending := by
  refine ⟨?_, ?_, ?_, ?_, ?_, ?_, ?_, ?_, ?_, ?_, ?_, ?_⟩ <;> unfold retestSlot <;> (try dsimp only) <;> repeat' first | (simp; done) | split

@[simp] theorem retestOrders_frame (s : State) :
    (retestOrders s).prop = s.prop ∧ (retestOrders s).chans = s.chans ∧ (retestOrders s).steer = s.steer ∧ (retestOrders s).line =
    s.line ∧ (retestOrders s).fuel = s.fuel ∧ (retestOrders s).legs = s.legs ∧ (retestOrders s).store = s.store ∧ (retestOrders
    s).ckpt = s.ckpt ∧ (retestOrders s).ctl = s.ctl ∧ (retestOrders s).clock = s.clock ∧ (retestOrders s).readings = s.readings ∧
    (retestOrders s).pending = s.pending := by
  refine ⟨?_, ?_, ?_, ?_, ?_, ?_, ?_, ?_, ?_, ?_, ?_, ?_⟩ <;> unfold retestOrders <;> (try dsimp only) <;> repeat' first | (simp; done) | split

@[simp] theorem bargeReport_frame (p : Pos) (s : State) :
    (bargeReport p s).prop = s.prop ∧ (bargeReport p s).chans = s.chans ∧ (bargeReport p s).steer = s.steer ∧ (bargeReport p
    s).sup = s.sup ∧ (bargeReport p s).line = s.line ∧ (bargeReport p s).orders = s.orders ∧ (bargeReport p s).fuel = s.fuel ∧
    (bargeReport p s).legs = s.legs ∧ (bargeReport p s).store = s.store ∧ (bargeReport p s).ckpt = s.ckpt ∧ (bargeReport p s).ctl
    = s.ctl ∧ (bargeReport p s).clock = s.clock ∧ (bargeReport p s).settling = s.settling ∧ (bargeReport p s).readings =
    s.readings ∧ (bargeReport p s).pending = s.pending := by
  refine ⟨?_, ?_, ?_, ?_, ?_, ?_, ?_, ?_, ?_, ?_, ?_, ?_, ?_, ?_, ?_⟩ <;> unfold bargeReport <;> (try dsimp only) <;> repeat' first | (simp; done) | split

@[simp] theorem onBarge_frame (s : State) (p : Pos) (f : Barge → Barge) :
    (State.onBarge s p f).port = s.port ∧ (State.onBarge s p f).prop = s.prop ∧ (State.onBarge s p f).chans = s.chans ∧
    (State.onBarge s p f).steer = s.steer ∧ (State.onBarge s p f).line = s.line ∧ (State.onBarge s p f).orders = s.orders ∧
    (State.onBarge s p f).fuel = s.fuel ∧ (State.onBarge s p f).legs = s.legs ∧ (State.onBarge s p f).store = s.store ∧
    (State.onBarge s p f).ckpt = s.ckpt ∧ (State.onBarge s p f).ctl = s.ctl ∧ (State.onBarge s p f).clock = s.clock ∧
    (State.onBarge s p f).settling = s.settling ∧ (State.onBarge s p f).readings = s.readings ∧ (State.onBarge s p f).pending =
    s.pending := by
  refine ⟨?_, ?_, ?_, ?_, ?_, ?_, ?_, ?_, ?_, ?_, ?_, ?_, ?_, ?_, ?_⟩ <;> unfold State.onBarge <;> (try dsimp only) <;> repeat' first | (simp; done) | split

@[simp] theorem setBargeState_frame (p : Pos) (st : BargeState) (s : State) :
    (setBargeState p st s).prop = s.prop ∧ (setBargeState p st s).chans = s.chans ∧ (setBargeState p st s).steer = s.steer ∧
    (setBargeState p st s).line = s.line ∧ (setBargeState p st s).orders = s.orders ∧ (setBargeState p st s).fuel = s.fuel ∧
    (setBargeState p st s).legs = s.legs ∧ (setBargeState p st s).store = s.store ∧ (setBargeState p st s).ckpt = s.ckpt ∧
    (setBargeState p st s).ctl = s.ctl ∧ (setBargeState p st s).clock = s.clock ∧ (setBargeState p st s).readings = s.readings ∧
    (setBargeState p st s).pending = s.pending := by
  refine ⟨?_, ?_, ?_, ?_, ?_, ?_, ?_, ?_, ?_, ?_, ?_, ?_, ?_⟩ <;> unfold setBargeState <;> (try dsimp only) <;> repeat' first | (simp; done) | split

@[simp] theorem keepHeld_frame (held : List Pos) (s : State) :
    (keepHeld held s).port = s.port ∧ (keepHeld held s).prop = s.prop ∧ (keepHeld held s).chans = s.chans ∧ (keepHeld held
    s).steer = s.steer ∧ (keepHeld held s).line = s.line ∧ (keepHeld held s).orders = s.orders ∧ (keepHeld held s).fuel = s.fuel ∧
    (keepHeld held s).legs = s.legs ∧ (keepHeld held s).store = s.store ∧ (keepHeld held s).ckpt = s.ckpt ∧ (keepHeld held s).ctl
    = s.ctl ∧ (keepHeld held s).clock = s.clock ∧ (keepHeld held s).settling = s.settling ∧ (keepHeld held s).readings =
    s.readings ∧ (keepHeld held s).pending = s.pending := by
  refine ⟨?_, ?_, ?_, ?_, ?_, ?_, ?_, ?_, ?_, ?_, ?_, ?_, ?_, ?_, ?_⟩ <;> unfold keepHeld <;> (try dsimp only) <;> repeat' first | (simp; done) | split

@[simp] theorem takeTonnage_frame (s : State) :
    (takeTonnage s).port = s.port ∧ (takeTonnage s).prop = s.prop ∧ (takeTonnage s).chans = s.chans ∧ (takeTonnage s).steer =
    s.steer ∧ (takeTonnage s).line = s.line ∧ (takeTonnage s).orders = s.orders ∧ (takeTonnage s).fuel = s.fuel ∧ (takeTonnage
    s).legs = s.legs ∧ (takeTonnage s).store = s.store ∧ (takeTonnage s).ckpt = s.ckpt ∧ (takeTonnage s).ctl = s.ctl ∧
    (takeTonnage s).clock = s.clock ∧ (takeTonnage s).settling = s.settling ∧ (takeTonnage s).readings = s.readings ∧ (takeTonnage
    s).pending = s.pending := by
  refine ⟨?_, ?_, ?_, ?_, ?_, ?_, ?_, ?_, ?_, ?_, ?_, ?_, ?_, ?_, ?_⟩ <;> unfold takeTonnage <;> (try dsimp only) <;> repeat' first | (simp; done) | split

@[simp] theorem ccapRecompute_frame (clearing : Bool) (s : State) :
    (ccapRecompute clearing s).line = s.line ∧ (ccapRecompute clearing s).orders = s.orders ∧ (ccapRecompute clearing s).fuel =
    s.fuel ∧ (ccapRecompute clearing s).legs = s.legs ∧ (ccapRecompute clearing s).store = s.store ∧ (ccapRecompute clearing
    s).ckpt = s.ckpt ∧ (ccapRecompute clearing s).ctl = s.ctl ∧ (ccapRecompute clearing s).clock = s.clock ∧ (ccapRecompute
    clearing s).readings = s.readings ∧ (ccapRecompute clearing s).pending = s.pending := by
  refine ⟨?_, ?_, ?_, ?_, ?_, ?_, ?_, ?_, ?_, ?_⟩ <;> unfold ccapRecompute <;> (try dsimp only) <;> repeat' first | (simp; done) | split

@[simp] theorem makeupChange_frame (s : State) :
    (makeupChange s).prop = s.prop ∧ (makeupChange s).chans = s.chans ∧ (makeupChange s).steer = s.steer ∧ (makeupChange s).line =
    s.line ∧ (makeupChange s).orders = s.orders ∧ (makeupChange s).fuel = s.fuel ∧ (makeupChange s).store = s.store ∧
    (makeupChange s).ckpt = s.ckpt ∧ (makeupChange s).ctl = s.ctl ∧ (makeupChange s).clock = s.clock ∧ (makeupChange s).readings =
    s.readings ∧ (makeupChange s).pending = s.pending := by
  refine ⟨?_, ?_, ?_, ?_, ?_, ?_, ?_, ?_, ?_, ?_, ?_, ?_⟩ <;> unfold makeupChange <;> (try dsimp only) <;> repeat' first | (simp; done) | split

@[simp] theorem unheldAlarm_frame (p : Pos) (s : State) :
    (unheldAlarm p s).prop = s.prop ∧ (unheldAlarm p s).chans = s.chans ∧ (unheldAlarm p s).steer = s.steer ∧ (unheldAlarm p
    s).sup = s.sup ∧ (unheldAlarm p s).line = s.line ∧ (unheldAlarm p s).orders = s.orders ∧ (unheldAlarm p s).fuel = s.fuel ∧
    (unheldAlarm p s).legs = s.legs ∧ (unheldAlarm p s).store = s.store ∧ (unheldAlarm p s).ckpt = s.ckpt ∧ (unheldAlarm p s).ctl
    = s.ctl ∧ (unheldAlarm p s).clock = s.clock ∧ (unheldAlarm p s).settling = s.settling ∧ (unheldAlarm p s).readings =
    s.readings ∧ (unheldAlarm p s).pending = s.pending := by
  refine ⟨?_, ?_, ?_, ?_, ?_, ?_, ?_, ?_, ?_, ?_, ?_, ?_, ?_, ?_, ?_⟩ <;> unfold unheldAlarm <;> (try dsimp only) <;> repeat' first | (simp; done) | split

@[simp] theorem holdingAnalysis_frame (s : State) :
    (holdingAnalysis s).line = s.line ∧ (holdingAnalysis s).orders = s.orders ∧ (holdingAnalysis s).fuel = s.fuel ∧
    (holdingAnalysis s).store = s.store ∧ (holdingAnalysis s).ckpt = s.ckpt ∧ (holdingAnalysis s).ctl = s.ctl ∧ (holdingAnalysis
    s).clock = s.clock ∧ (holdingAnalysis s).readings = s.readings ∧ (holdingAnalysis s).pending = s.pending := by
  refine ⟨?_, ?_, ?_, ?_, ?_, ?_, ?_, ?_, ?_⟩ <;> unfold holdingAnalysis <;> (try dsimp only) <;> repeat' first | (simp; done) | split

@[simp] theorem settleOnce_frame (s : State) :
    (settleOnce s).line = s.line ∧ (settleOnce s).fuel = s.fuel ∧ (settleOnce s).store = s.store ∧ (settleOnce s).ckpt = s.ckpt ∧
    (settleOnce s).ctl = s.ctl ∧ (settleOnce s).clock = s.clock ∧ (settleOnce s).readings = s.readings ∧ (settleOnce s).pending =
    s.pending := by
  refine ⟨?_, ?_, ?_, ?_, ?_, ?_, ?_, ?_⟩ <;> unfold settleOnce <;> (try dsimp only) <;> repeat' first | (simp; done) | split

@[simp] theorem settle_frame (s : State) :
    (settle s).line = s.line ∧ (settle s).fuel = s.fuel ∧ (settle s).store = s.store ∧ (settle s).ckpt = s.ckpt ∧ (settle s).ctl =
    s.ctl ∧ (settle s).clock = s.clock ∧ (settle s).readings = s.readings ∧ (settle s).pending = s.pending := by
  have h : ∀ (n : Nat) (s : State), (settleFor n s).line = s.line ∧ (settleFor n s).fuel = s.fuel ∧ (settleFor n s).store = s.store ∧ (settleFor n s).ckpt = s.ckpt ∧ (settleFor n s).ctl = s.ctl ∧ (settleFor n s).clock = s.clock ∧ (settleFor n s).readings = s.readings ∧ (settleFor n s).pending = s.pending := by
    intro n; induction n with
    | zero => intro s; simp [settleFor]
    | succ n ih => intro s; simp [settleFor, ih]
  exact h 40 s

@[simp] theorem finish_frame (s : State) :
    (finish s).line = s.line ∧ (finish s).fuel = s.fuel ∧ (finish s).store = s.store ∧ (finish s).ctl = s.ctl ∧ (finish s).clock =
    s.clock ∧ (finish s).readings = s.readings ∧ (finish s).pending = s.pending := by
  refine ⟨?_, ?_, ?_, ?_, ?_, ?_, ?_⟩ <;> unfold finish <;> (try dsimp only) <;> repeat' first | (simp; done) | split

@[simp] theorem placeOrder_frame (tag : Nat) (i : Fin 16) (w : Work) (r : Option Resource) (s : State) :
    (placeOrder tag i w r s).prop = s.prop ∧ (placeOrder tag i w r s).chans = s.chans ∧ (placeOrder tag i w r s).steer = s.steer ∧
    (placeOrder tag i w r s).line = s.line ∧ (placeOrder tag i w r s).fuel = s.fuel ∧ (placeOrder tag i w r s).legs = s.legs ∧
    (placeOrder tag i w r s).store = s.store ∧ (placeOrder tag i w r s).ckpt = s.ckpt ∧ (placeOrder tag i w r s).ctl = s.ctl ∧
    (placeOrder tag i w r s).clock = s.clock ∧ (placeOrder tag i w r s).readings = s.readings ∧ (placeOrder tag i w r s).pending =
    s.pending := by
  refine ⟨?_, ?_, ?_, ?_, ?_, ?_, ?_, ?_, ?_, ?_, ?_, ?_⟩ <;> unfold placeOrder <;> (try dsimp only) <;> repeat' first | (simp; done) | split

@[simp] theorem windDown_frame (i : Fin 16) (o : Order) (s : State) :
    (windDown i o s).port = s.port ∧ (windDown i o s).prop = s.prop ∧ (windDown i o s).chans = s.chans ∧ (windDown i o s).steer =
    s.steer ∧ (windDown i o s).line = s.line ∧ (windDown i o s).fuel = s.fuel ∧ (windDown i o s).legs = s.legs ∧ (windDown i o
    s).store = s.store ∧ (windDown i o s).ckpt = s.ckpt ∧ (windDown i o s).ctl = s.ctl ∧ (windDown i o s).clock = s.clock ∧
    (windDown i o s).settling = s.settling ∧ (windDown i o s).readings = s.readings ∧ (windDown i o s).pending = s.pending := by
  refine ⟨?_, ?_, ?_, ?_, ?_, ?_, ?_, ?_, ?_, ?_, ?_, ?_, ?_, ?_⟩ <;> unfold windDown <;> (try dsimp only) <;> repeat' first | (simp; done) | split

@[simp] theorem releaseWaitExpiry_frame (tag : Nat) (s : State) :
    (releaseWaitExpiry tag s).prop = s.prop ∧ (releaseWaitExpiry tag s).chans = s.chans ∧ (releaseWaitExpiry tag s).steer =
    s.steer ∧ (releaseWaitExpiry tag s).line = s.line ∧ (releaseWaitExpiry tag s).fuel = s.fuel ∧ (releaseWaitExpiry tag s).legs =
    s.legs ∧ (releaseWaitExpiry tag s).store = s.store ∧ (releaseWaitExpiry tag s).ckpt = s.ckpt ∧ (releaseWaitExpiry tag s).ctl =
    s.ctl ∧ (releaseWaitExpiry tag s).clock = s.clock ∧ (releaseWaitExpiry tag s).readings = s.readings ∧ (releaseWaitExpiry tag
    s).pending = s.pending := by
  refine ⟨?_, ?_, ?_, ?_, ?_, ?_, ?_, ?_, ?_, ?_, ?_, ?_⟩ <;> unfold releaseWaitExpiry <;> (try dsimp only) <;> repeat' first | (simp; done) | split

@[simp] theorem haulTimerExpiry_frame (n : Nat) (s : State) :
    (haulTimerExpiry n s).prop = s.prop ∧ (haulTimerExpiry n s).chans = s.chans ∧ (haulTimerExpiry n s).steer = s.steer ∧
    (haulTimerExpiry n s).line = s.line ∧ (haulTimerExpiry n s).fuel = s.fuel ∧ (haulTimerExpiry n s).legs = s.legs ∧
    (haulTimerExpiry n s).store = s.store ∧ (haulTimerExpiry n s).ckpt = s.ckpt ∧ (haulTimerExpiry n s).ctl = s.ctl ∧
    (haulTimerExpiry n s).clock = s.clock ∧ (haulTimerExpiry n s).readings = s.readings ∧ (haulTimerExpiry n s).pending =
    s.pending := by
  refine ⟨?_, ?_, ?_, ?_, ?_, ?_, ?_, ?_, ?_, ?_, ?_, ?_⟩ <;> unfold haulTimerExpiry <;> (try dsimp only) <;> repeat' first | (simp; done) | split

@[simp] theorem releaseTimerExpiry_frame (n : Nat) (s : State) :
    (releaseTimerExpiry n s).prop = s.prop ∧ (releaseTimerExpiry n s).chans = s.chans ∧ (releaseTimerExpiry n s).steer = s.steer ∧
    (releaseTimerExpiry n s).line = s.line ∧ (releaseTimerExpiry n s).fuel = s.fuel ∧ (releaseTimerExpiry n s).legs = s.legs ∧
    (releaseTimerExpiry n s).store = s.store ∧ (releaseTimerExpiry n s).ckpt = s.ckpt ∧ (releaseTimerExpiry n s).ctl = s.ctl ∧
    (releaseTimerExpiry n s).clock = s.clock ∧ (releaseTimerExpiry n s).readings = s.readings ∧ (releaseTimerExpiry n s).pending =
    s.pending := by
  refine ⟨?_, ?_, ?_, ?_, ?_, ?_, ?_, ?_, ?_, ?_, ?_, ?_⟩ <;> unfold releaseTimerExpiry <;> (try dsimp only) <;> repeat' first | (simp; done) | split

end Sys2Proof.Machine
end

