-- ==== Sys2Proof/Laws/FramesLine.lean ====
section
/-! SUPPORT. What each operation of the Barge Line and the makeup leaves: every part of the state it does not act on. -/

set_option linter.unusedTactic false
set_option linter.unreachableTactic false

namespace Sys2Proof.Machine

@[simp] theorem failWaiting_frame (x : Fin 16 × Order) (s : State) :
    (failWaiting x s).prop = s.prop ∧ (failWaiting x s).chans = s.chans ∧ (failWaiting x s).steer = s.steer ∧ (failWaiting x
    s).line = s.line ∧ (failWaiting x s).fuel = s.fuel ∧ (failWaiting x s).legs = s.legs ∧ (failWaiting x s).store = s.store ∧
    (failWaiting x s).ckpt = s.ckpt ∧ (failWaiting x s).ctl = s.ctl ∧ (failWaiting x s).clock = s.clock ∧ (failWaiting x
    s).readings = s.readings ∧ (failWaiting x s).pending = s.pending := by
  refine ⟨?_, ?_, ?_, ?_, ?_, ?_, ?_, ?_, ?_, ?_, ?_, ?_⟩ <;> unfold failWaiting <;> (try dsimp only) <;> repeat' first | (simp; done) | split

@[simp] theorem loseCoupling_frame (c : Coupling) (s : State) :
    (loseCoupling c s).prop = s.prop ∧ (loseCoupling c s).chans = s.chans ∧ (loseCoupling c s).steer = s.steer ∧ (loseCoupling c
    s).line = s.line ∧ (loseCoupling c s).fuel = s.fuel ∧ (loseCoupling c s).legs = s.legs ∧ (loseCoupling c s).store = s.store ∧
    (loseCoupling c s).ckpt = s.ckpt ∧ (loseCoupling c s).ctl = s.ctl ∧ (loseCoupling c s).clock = s.clock ∧ (loseCoupling c
    s).readings = s.readings ∧ (loseCoupling c s).pending = s.pending := by
  refine ⟨?_, ?_, ?_, ?_, ?_, ?_, ?_, ?_, ?_, ?_, ?_, ?_⟩ <;> unfold loseCoupling <;> (try dsimp only) <;> repeat' first | (simp; done) | split

@[simp] theorem winchLost_frame (serial : Nat) (s : State) :
    (winchLost serial s).prop = s.prop ∧ (winchLost serial s).chans = s.chans ∧ (winchLost serial s).steer = s.steer ∧ (winchLost
    serial s).line = s.line ∧ (winchLost serial s).fuel = s.fuel ∧ (winchLost serial s).legs = s.legs ∧ (winchLost serial s).store
    = s.store ∧ (winchLost serial s).ckpt = s.ckpt ∧ (winchLost serial s).ctl = s.ctl ∧ (winchLost serial s).clock = s.clock ∧
    (winchLost serial s).readings = s.readings ∧ (winchLost serial s).pending = s.pending := by
  refine ⟨?_, ?_, ?_, ?_, ?_, ?_, ?_, ?_, ?_, ?_, ?_, ?_⟩ <;> unfold winchLost <;> (try dsimp only) <;> repeat' first | (simp; done) | split

@[simp] theorem failUnable_frame (x : Fin 16 × Order) (s : State) :
    (failUnable x s).prop = s.prop ∧ (failUnable x s).chans = s.chans ∧ (failUnable x s).steer = s.steer ∧ (failUnable x s).line =
    s.line ∧ (failUnable x s).fuel = s.fuel ∧ (failUnable x s).legs = s.legs ∧ (failUnable x s).store = s.store ∧ (failUnable x
    s).ckpt = s.ckpt ∧ (failUnable x s).ctl = s.ctl ∧ (failUnable x s).clock = s.clock ∧ (failUnable x s).readings = s.readings ∧
    (failUnable x s).pending = s.pending := by
  refine ⟨?_, ?_, ?_, ?_, ?_, ?_, ?_, ?_, ?_, ?_, ?_, ?_⟩ <;> unfold failUnable <;> (try dsimp only) <;> repeat' first | (simp; done) | split

@[simp] theorem winchActive_frame (d : Node) (s : State) :
    (winchActive d s).prop = s.prop ∧ (winchActive d s).chans = s.chans ∧ (winchActive d s).steer = s.steer ∧ (winchActive d
    s).line = s.line ∧ (winchActive d s).fuel = s.fuel ∧ (winchActive d s).legs = s.legs ∧ (winchActive d s).store = s.store ∧
    (winchActive d s).ckpt = s.ckpt ∧ (winchActive d s).ctl = s.ctl ∧ (winchActive d s).clock = s.clock ∧ (winchActive d
    s).readings = s.readings ∧ (winchActive d s).pending = s.pending := by
  refine ⟨?_, ?_, ?_, ?_, ?_, ?_, ?_, ?_, ?_, ?_, ?_, ?_⟩ <;> unfold winchActive <;> (try dsimp only) <;> repeat' first | (simp; done) | split

@[simp] theorem supervisorNotice_frame (d : Node) (st : Option NodeState) (s : State) :
    (supervisorNotice d st s).prop = s.prop ∧ (supervisorNotice d st s).chans = s.chans ∧ (supervisorNotice d st s).steer =
    s.steer ∧ (supervisorNotice d st s).line = s.line ∧ (supervisorNotice d st s).fuel = s.fuel ∧ (supervisorNotice d st s).legs =
    s.legs ∧ (supervisorNotice d st s).store = s.store ∧ (supervisorNotice d st s).ckpt = s.ckpt ∧ (supervisorNotice d st s).ctl =
    s.ctl ∧ (supervisorNotice d st s).clock = s.clock ∧ (supervisorNotice d st s).readings = s.readings ∧ (supervisorNotice d st
    s).pending = s.pending := by
  refine ⟨?_, ?_, ?_, ?_, ?_, ?_, ?_, ?_, ?_, ?_, ?_, ?_⟩ <;> unfold supervisorNotice <;> (try dsimp only) <;> repeat' first | (simp; done) | split

@[simp] theorem missOrder_frame (count : Nat) (x : Fin 16 × Order) (s : State) :
    (missOrder count x s).prop = s.prop ∧ (missOrder count x s).chans = s.chans ∧ (missOrder count x s).steer = s.steer ∧
    (missOrder count x s).line = s.line ∧ (missOrder count x s).fuel = s.fuel ∧ (missOrder count x s).legs = s.legs ∧ (missOrder
    count x s).store = s.store ∧ (missOrder count x s).ckpt = s.ckpt ∧ (missOrder count x s).ctl = s.ctl ∧ (missOrder count x
    s).clock = s.clock ∧ (missOrder count x s).readings = s.readings ∧ (missOrder count x s).pending = s.pending := by
  refine ⟨?_, ?_, ?_, ?_, ?_, ?_, ?_, ?_, ?_, ?_, ?_, ?_⟩ <;> unfold missOrder <;> (try dsimp only) <;> repeat' first | (simp; done) | split

@[simp] theorem missNotice_frame (serial count : Nat) (s : State) :
    (missNotice serial count s).prop = s.prop ∧ (missNotice serial count s).chans = s.chans ∧ (missNotice serial count s).steer =
    s.steer ∧ (missNotice serial count s).line = s.line ∧ (missNotice serial count s).fuel = s.fuel ∧ (missNotice serial count
    s).legs = s.legs ∧ (missNotice serial count s).store = s.store ∧ (missNotice serial count s).ckpt = s.ckpt ∧ (missNotice
    serial count s).ctl = s.ctl ∧ (missNotice serial count s).clock = s.clock ∧ (missNotice serial count s).readings = s.readings
    ∧ (missNotice serial count s).pending = s.pending := by
  refine ⟨?_, ?_, ?_, ?_, ?_, ?_, ?_, ?_, ?_, ?_, ?_, ?_⟩ <;> unfold missNotice <;> (try dsimp only) <;> repeat' first | (simp; done) | split

@[simp] theorem onNode_frame (s : State) (serial : Nat) (f : Node → Node) :
    (State.onNode s serial f).port = s.port ∧ (State.onNode s serial f).prop = s.prop ∧ (State.onNode s serial f).chans = s.chans
    ∧ (State.onNode s serial f).steer = s.steer ∧ (State.onNode s serial f).sup = s.sup ∧ (State.onNode s serial f).orders =
    s.orders ∧ (State.onNode s serial f).fuel = s.fuel ∧ (State.onNode s serial f).legs = s.legs ∧ (State.onNode s serial f).store
    = s.store ∧ (State.onNode s serial f).ckpt = s.ckpt ∧ (State.onNode s serial f).ctl = s.ctl ∧ (State.onNode s serial f).clock
    = s.clock ∧ (State.onNode s serial f).settling = s.settling ∧ (State.onNode s serial f).readings = s.readings ∧ (State.onNode
    s serial f).pending = s.pending := by
  refine ⟨?_, ?_, ?_, ?_, ?_, ?_, ?_, ?_, ?_, ?_, ?_, ?_, ?_, ?_, ?_⟩ <;> unfold State.onNode <;> (try dsimp only) <;> repeat' first | (simp; done) | split

@[simp] theorem nodeReport_frame (serial : Nat) (s : State) :
    (nodeReport serial s).prop = s.prop ∧ (nodeReport serial s).chans = s.chans ∧ (nodeReport serial s).steer = s.steer ∧
    (nodeReport serial s).sup = s.sup ∧ (nodeReport serial s).line = s.line ∧ (nodeReport serial s).orders = s.orders ∧
    (nodeReport serial s).fuel = s.fuel ∧ (nodeReport serial s).legs = s.legs ∧ (nodeReport serial s).store = s.store ∧
    (nodeReport serial s).ckpt = s.ckpt ∧ (nodeReport serial s).ctl = s.ctl ∧ (nodeReport serial s).clock = s.clock ∧ (nodeReport
    serial s).settling = s.settling ∧ (nodeReport serial s).readings = s.readings ∧ (nodeReport serial s).pending = s.pending := by
  refine ⟨?_, ?_, ?_, ?_, ?_, ?_, ?_, ?_, ?_, ?_, ?_, ?_, ?_, ?_, ?_⟩ <;> unfold nodeReport <;> (try dsimp only) <;> repeat' first | (simp; done) | split

@[simp] theorem nodeNotices_frame (d : Node) (st : Option NodeState) (s : State) :
    (nodeNotices d st s).prop = s.prop ∧ (nodeNotices d st s).chans = s.chans ∧ (nodeNotices d st s).line = s.line ∧ (nodeNotices
    d st s).fuel = s.fuel ∧ (nodeNotices d st s).legs = s.legs ∧ (nodeNotices d st s).store = s.store ∧ (nodeNotices d st s).ckpt
    = s.ckpt ∧ (nodeNotices d st s).ctl = s.ctl ∧ (nodeNotices d st s).clock = s.clock ∧ (nodeNotices d st s).readings =
    s.readings ∧ (nodeNotices d st s).pending = s.pending := by
  refine ⟨?_, ?_, ?_, ?_, ?_, ?_, ?_, ?_, ?_, ?_, ?_⟩ <;> unfold nodeNotices <;> (try dsimp only) <;> repeat' first | (simp; done) | split

@[simp] theorem setNodeState_frame (serial : Nat) (st : NodeState) (s : State) :
    (setNodeState serial st s).prop = s.prop ∧ (setNodeState serial st s).chans = s.chans ∧ (setNodeState serial st s).fuel =
    s.fuel ∧ (setNodeState serial st s).legs = s.legs ∧ (setNodeState serial st s).store = s.store ∧ (setNodeState serial st
    s).ckpt = s.ckpt ∧ (setNodeState serial st s).ctl = s.ctl ∧ (setNodeState serial st s).clock = s.clock ∧ (setNodeState serial
    st s).readings = s.readings ∧ (setNodeState serial st s).pending = s.pending := by
  refine ⟨?_, ?_, ?_, ?_, ?_, ?_, ?_, ?_, ?_, ?_⟩ <;> unfold setNodeState <;> (try dsimp only) <;> repeat' first | (simp; done) | split

@[simp] theorem removeNode_frame (serial : Nat) (s : State) :
    (removeNode serial s).prop = s.prop ∧ (removeNode serial s).chans = s.chans ∧ (removeNode serial s).fuel = s.fuel ∧
    (removeNode serial s).legs = s.legs ∧ (removeNode serial s).store = s.store ∧ (removeNode serial s).ckpt = s.ckpt ∧
    (removeNode serial s).ctl = s.ctl ∧ (removeNode serial s).clock = s.clock ∧ (removeNode serial s).readings = s.readings ∧
    (removeNode serial s).pending = s.pending := by
  refine ⟨?_, ?_, ?_, ?_, ?_, ?_, ?_, ?_, ?_, ?_⟩ <;> unfold removeNode <;> (try dsimp only) <;> repeat' first | (simp; done) | split

@[simp] theorem nodeLost_frame (serial : Nat) (s : State) :
    (nodeLost serial s).prop = s.prop ∧ (nodeLost serial s).chans = s.chans ∧ (nodeLost serial s).fuel = s.fuel ∧ (nodeLost serial
    s).legs = s.legs ∧ (nodeLost serial s).store = s.store ∧ (nodeLost serial s).ckpt = s.ckpt ∧ (nodeLost serial s).ctl = s.ctl ∧
    (nodeLost serial s).clock = s.clock ∧ (nodeLost serial s).readings = s.readings ∧ (nodeLost serial s).pending = s.pending := by
  refine ⟨?_, ?_, ?_, ?_, ?_, ?_, ?_, ?_, ?_, ?_⟩ <;> unfold nodeLost <;> (try dsimp only) <;> repeat' first | (simp; done) | split

@[simp] theorem loseNode_frame (serial : Nat) (s : State) :
    (loseNode serial s).prop = s.prop ∧ (loseNode serial s).chans = s.chans ∧ (loseNode serial s).fuel = s.fuel ∧ (loseNode serial
    s).legs = s.legs ∧ (loseNode serial s).store = s.store ∧ (loseNode serial s).ckpt = s.ckpt ∧ (loseNode serial s).ctl = s.ctl ∧
    (loseNode serial s).clock = s.clock ∧ (loseNode serial s).readings = s.readings ∧ (loseNode serial s).pending = s.pending := by
  refine ⟨?_, ?_, ?_, ?_, ?_, ?_, ?_, ?_, ?_, ?_⟩ <;> unfold loseNode <;> (try dsimp only) <;> repeat' first | (simp; done) | split

@[simp] theorem newClaim_frame (serial : Nat) (s : State) :
    (newClaim serial s).prop = s.prop ∧ (newClaim serial s).chans = s.chans ∧ (newClaim serial s).fuel = s.fuel ∧ (newClaim serial
    s).legs = s.legs ∧ (newClaim serial s).store = s.store ∧ (newClaim serial s).ckpt = s.ckpt ∧ (newClaim serial s).ctl = s.ctl ∧
    (newClaim serial s).clock = s.clock ∧ (newClaim serial s).readings = s.readings ∧ (newClaim serial s).pending = s.pending := by
  refine ⟨?_, ?_, ?_, ?_, ?_, ?_, ?_, ?_, ?_, ?_⟩ <;> unfold newClaim <;> (try dsimp only) <;> repeat' first | (simp; done) | split

@[simp] theorem departingNotice_frame (serial : Nat) (s : State) :
    (departingNotice serial s).prop = s.prop ∧ (departingNotice serial s).chans = s.chans ∧ (departingNotice serial s).fuel =
    s.fuel ∧ (departingNotice serial s).legs = s.legs ∧ (departingNotice serial s).store = s.store ∧ (departingNotice serial
    s).ckpt = s.ckpt ∧ (departingNotice serial s).ctl = s.ctl ∧ (departingNotice serial s).clock = s.clock ∧ (departingNotice
    serial s).readings = s.readings ∧ (departingNotice serial s).pending = s.pending := by
  refine ⟨?_, ?_, ?_, ?_, ?_, ?_, ?_, ?_, ?_, ?_⟩ <;> unfold departingNotice <;> (try dsimp only) <;> repeat' first | (simp; done) | split

@[simp] theorem giveDepartures_frame (serials : List Nat) (s : State) :
    (giveDepartures serials s).prop = s.prop ∧ (giveDepartures serials s).chans = s.chans ∧ (giveDepartures serials s).fuel =
    s.fuel ∧ (giveDepartures serials s).legs = s.legs ∧ (giveDepartures serials s).store = s.store ∧ (giveDepartures serials
    s).ckpt = s.ckpt ∧ (giveDepartures serials s).ctl = s.ctl ∧ (giveDepartures serials s).clock = s.clock ∧ (giveDepartures
    serials s).readings = s.readings ∧ (giveDepartures serials s).pending = s.pending := by
  refine ⟨?_, ?_, ?_, ?_, ?_, ?_, ?_, ?_, ?_, ?_⟩ <;> unfold giveDepartures <;> (try dsimp only) <;> repeat' first | (simp; done) | split

@[simp] theorem castOff_frame (ps : List Pos) (s : State) :
    (castOff ps s).prop = s.prop ∧ (castOff ps s).chans = s.chans ∧ (castOff ps s).fuel = s.fuel ∧ (castOff ps s).legs = s.legs ∧
    (castOff ps s).store = s.store ∧ (castOff ps s).ckpt = s.ckpt ∧ (castOff ps s).ctl = s.ctl ∧ (castOff ps s).clock = s.clock ∧
    (castOff ps s).readings = s.readings ∧ (castOff ps s).pending = s.pending := by
  refine ⟨?_, ?_, ?_, ?_, ?_, ?_, ?_, ?_, ?_, ?_⟩ <;> unfold castOff <;> (try dsimp only) <;> repeat' first | (simp; done) | split

@[simp] theorem haulReply_frame (i : Fin 16) (n : Nat) (h : Thresholds) (t : Nat) (s : State) :
    (haulReply i n h t s).prop = s.prop ∧ (haulReply i n h t s).chans = s.chans ∧ (haulReply i n h t s).steer = s.steer ∧
    (haulReply i n h t s).line = s.line ∧ (haulReply i n h t s).fuel = s.fuel ∧ (haulReply i n h t s).legs = s.legs ∧ (haulReply i
    n h t s).store = s.store ∧ (haulReply i n h t s).ckpt = s.ckpt ∧ (haulReply i n h t s).ctl = s.ctl ∧ (haulReply i n h t
    s).clock = s.clock ∧ (haulReply i n h t s).readings = s.readings ∧ (haulReply i n h t s).pending = s.pending := by
  refine ⟨?_, ?_, ?_, ?_, ?_, ?_, ?_, ?_, ?_, ?_, ?_, ?_⟩ <;> unfold haulReply <;> (try dsimp only) <;> repeat' first | (simp; done) | split

@[simp] theorem releaseReply_frame (i : Fin 16) (n : Nat) (set : List Pos) (h : Thresholds) (t : Nat) (f : WinchFlags) (s : State) :
    (releaseReply i n set h t f s).prop = s.prop ∧ (releaseReply i n set h t f s).chans = s.chans ∧ (releaseReply i n set h t f
    s).fuel = s.fuel ∧ (releaseReply i n set h t f s).legs = s.legs ∧ (releaseReply i n set h t f s).store = s.store ∧
    (releaseReply i n set h t f s).ckpt = s.ckpt ∧ (releaseReply i n set h t f s).ctl = s.ctl ∧ (releaseReply i n set h t f
    s).clock = s.clock ∧ (releaseReply i n set h t f s).readings = s.readings ∧ (releaseReply i n set h t f s).pending = s.pending := by
  refine ⟨?_, ?_, ?_, ?_, ?_, ?_, ?_, ?_, ?_, ?_⟩ <;> unfold releaseReply <;> (try dsimp only) <;> repeat' first | (simp; done) | split

@[simp] theorem orderReply_frame (n : Nat) (h : Thresholds) (t : Nat) (f : WinchFlags) (stopSent : Bool) (s : State) :
    (orderReply n h t f stopSent s).prop = s.prop ∧ (orderReply n h t f stopSent s).chans = s.chans ∧ (orderReply n h t f stopSent
    s).fuel = s.fuel ∧ (orderReply n h t f stopSent s).legs = s.legs ∧ (orderReply n h t f stopSent s).store = s.store ∧
    (orderReply n h t f stopSent s).ckpt = s.ckpt ∧ (orderReply n h t f stopSent s).ctl = s.ctl ∧ (orderReply n h t f stopSent
    s).clock = s.clock ∧ (orderReply n h t f stopSent s).readings = s.readings ∧ (orderReply n h t f stopSent s).pending =
    s.pending := by
  refine ⟨?_, ?_, ?_, ?_, ?_, ?_, ?_, ?_, ?_, ?_⟩ <;> unfold orderReply <;> (try dsimp only) <;> repeat' first | (simp; done) | split

@[simp] theorem classifyCoupling_frame (n : Nat) (h : Thresholds) (t : Nat) (f : WinchFlags) (s : State) :
    (classifyCoupling n h t f s).prop = s.prop ∧ (classifyCoupling n h t f s).chans = s.chans ∧ (classifyCoupling n h t f s).steer
    = s.steer ∧ (classifyCoupling n h t f s).line = s.line ∧ (classifyCoupling n h t f s).orders = s.orders ∧ (classifyCoupling n
    h t f s).fuel = s.fuel ∧ (classifyCoupling n h t f s).legs = s.legs ∧ (classifyCoupling n h t f s).store = s.store ∧
    (classifyCoupling n h t f s).ckpt = s.ckpt ∧ (classifyCoupling n h t f s).ctl = s.ctl ∧ (classifyCoupling n h t f s).clock =
    s.clock ∧ (classifyCoupling n h t f s).readings = s.readings ∧ (classifyCoupling n h t f s).pending = s.pending := by
  refine ⟨?_, ?_, ?_, ?_, ?_, ?_, ?_, ?_, ?_, ?_, ?_, ?_, ?_⟩ <;> unfold classifyCoupling <;> (try dsimp only) <;> repeat' first | (simp; done) | split

@[simp] theorem couplingReply_frame (n : Nat) (r : ChannelReport) (sent : WinchCmd) (s : State) :
    (couplingReply n r sent s).prop = s.prop ∧ (couplingReply n r sent s).chans = s.chans ∧ (couplingReply n r sent s).fuel =
    s.fuel ∧ (couplingReply n r sent s).legs = s.legs ∧ (couplingReply n r sent s).store = s.store ∧ (couplingReply n r sent
    s).ckpt = s.ckpt ∧ (couplingReply n r sent s).ctl = s.ctl ∧ (couplingReply n r sent s).clock = s.clock ∧ (couplingReply n r
    sent s).readings = s.readings ∧ (couplingReply n r sent s).pending = s.pending := by
  refine ⟨?_, ?_, ?_, ?_, ?_, ?_, ?_, ?_, ?_, ?_⟩ <;> unfold couplingReply <;> (try dsimp only) <;> repeat' first | (simp; done) | split

@[simp] theorem winchReply_frame (serial : Nat) (reports : List ChannelReport) (sent : List WinchCmd) (s : State) :
    (winchReply serial reports sent s).prop = s.prop ∧ (winchReply serial reports sent s).chans = s.chans ∧ (winchReply serial
    reports sent s).fuel = s.fuel ∧ (winchReply serial reports sent s).legs = s.legs ∧ (winchReply serial reports sent s).store =
    s.store ∧ (winchReply serial reports sent s).ckpt = s.ckpt ∧ (winchReply serial reports sent s).ctl = s.ctl ∧ (winchReply
    serial reports sent s).clock = s.clock ∧ (winchReply serial reports sent s).readings = s.readings ∧ (winchReply serial reports
    sent s).pending = s.pending := by
  refine ⟨forAll_prop _ _ _ fun c t => ?_, forAll_chans _ _ _ fun c t => ?_, forAll_fuel _ _ _ fun c t => ?_, forAll_legs _ _ _ fun c t => ?_, forAll_store _ _ _ fun c t => ?_, forAll_ckpt _ _ _ fun c t => ?_, forAll_ctl _ _ _ fun c t => ?_, forAll_clock _ _ _ fun c t => ?_, forAll_readings _ _ _ fun c t => ?_, forAll_pending _ _ _ fun c t => ?_⟩ <;> split <;> simp

@[simp] theorem send_frame (f : TxFrame) (s : State) :
    (send f s).port = s.port ∧ (send f s).prop = s.prop ∧ (send f s).chans = s.chans ∧ (send f s).steer = s.steer ∧ (send f s).sup
    = s.sup ∧ (send f s).orders = s.orders ∧ (send f s).fuel = s.fuel ∧ (send f s).legs = s.legs ∧ (send f s).store = s.store ∧
    (send f s).ckpt = s.ckpt ∧ (send f s).ctl = s.ctl ∧ (send f s).clock = s.clock ∧ (send f s).settling = s.settling ∧ (send f
    s).readings = s.readings ∧ (send f s).pending = s.pending := by
  refine ⟨?_, ?_, ?_, ?_, ?_, ?_, ?_, ?_, ?_, ?_, ?_, ?_, ?_, ?_, ?_⟩ <;> unfold send <;> (try dsimp only) <;> repeat' first | (simp; done) | split

@[simp] theorem poll_frame (d : Node) (again : Bool) (s : State) :
    (poll d again s).port = s.port ∧ (poll d again s).prop = s.prop ∧ (poll d again s).chans = s.chans ∧ (poll d again s).sup =
    s.sup ∧ (poll d again s).orders = s.orders ∧ (poll d again s).fuel = s.fuel ∧ (poll d again s).legs = s.legs ∧ (poll d again
    s).store = s.store ∧ (poll d again s).ckpt = s.ckpt ∧ (poll d again s).ctl = s.ctl ∧ (poll d again s).clock = s.clock ∧ (poll
    d again s).settling = s.settling ∧ (poll d again s).readings = s.readings ∧ (poll d again s).pending = s.pending := by
  refine ⟨?_, ?_, ?_, ?_, ?_, ?_, ?_, ?_, ?_, ?_, ?_, ?_, ?_, ?_⟩ <;> unfold poll <;> (try dsimp only) <;> repeat' first | (simp; done) | split

@[simp] theorem joiningSlot_frame (s : State) :
    (joiningSlot s).port = s.port ∧ (joiningSlot s).prop = s.prop ∧ (joiningSlot s).chans = s.chans ∧ (joiningSlot s).steer =
    s.steer ∧ (joiningSlot s).sup = s.sup ∧ (joiningSlot s).orders = s.orders ∧ (joiningSlot s).fuel = s.fuel ∧ (joiningSlot
    s).legs = s.legs ∧ (joiningSlot s).store = s.store ∧ (joiningSlot s).ckpt = s.ckpt ∧ (joiningSlot s).ctl = s.ctl ∧
    (joiningSlot s).clock = s.clock ∧ (joiningSlot s).settling = s.settling ∧ (joiningSlot s).readings = s.readings ∧ (joiningSlot
    s).pending = s.pending := by
  refine ⟨?_, ?_, ?_, ?_, ?_, ?_, ?_, ?_, ?_, ?_, ?_, ?_, ?_, ?_, ?_⟩ <;> unfold joiningSlot <;> (try dsimp only) <;> repeat' first | (simp; done) | split

@[simp] theorem startNext_frame (s : State) :
    (startNext s).port = s.port ∧ (startNext s).prop = s.prop ∧ (startNext s).chans = s.chans ∧ (startNext s).sup = s.sup ∧
    (startNext s).orders = s.orders ∧ (startNext s).fuel = s.fuel ∧ (startNext s).legs = s.legs ∧ (startNext s).store = s.store ∧
    (startNext s).ckpt = s.ckpt ∧ (startNext s).ctl = s.ctl ∧ (startNext s).clock = s.clock ∧ (startNext s).settling = s.settling
    ∧ (startNext s).readings = s.readings ∧ (startNext s).pending = s.pending := by
  refine ⟨?_, ?_, ?_, ?_, ?_, ?_, ?_, ?_, ?_, ?_, ?_, ?_, ?_, ?_⟩ <;> unfold startNext <;> (try dsimp only) <;> repeat' first | (simp; done) | split

@[simp] theorem turnaroundExpiry_frame (s : State) :
    (turnaroundExpiry s).port = s.port ∧ (turnaroundExpiry s).prop = s.prop ∧ (turnaroundExpiry s).chans = s.chans ∧
    (turnaroundExpiry s).sup = s.sup ∧ (turnaroundExpiry s).orders = s.orders ∧ (turnaroundExpiry s).fuel = s.fuel ∧
    (turnaroundExpiry s).legs = s.legs ∧ (turnaroundExpiry s).store = s.store ∧ (turnaroundExpiry s).ckpt = s.ckpt ∧
    (turnaroundExpiry s).ctl = s.ctl ∧ (turnaroundExpiry s).clock = s.clock ∧ (turnaroundExpiry s).settling = s.settling ∧
    (turnaroundExpiry s).readings = s.readings ∧ (turnaroundExpiry s).pending = s.pending := by
  refine ⟨?_, ?_, ?_, ?_, ?_, ?_, ?_, ?_, ?_, ?_, ?_, ?_, ?_, ?_⟩ <;> unfold turnaroundExpiry <;> (try dsimp only) <;> repeat' first | (simp; done) | split

@[simp] theorem setHandshake_frame (h : Handshake) (s : State) :
    (setHandshake h s).port = s.port ∧ (setHandshake h s).prop = s.prop ∧ (setHandshake h s).chans = s.chans ∧ (setHandshake h
    s).steer = s.steer ∧ (setHandshake h s).sup = s.sup ∧ (setHandshake h s).orders = s.orders ∧ (setHandshake h s).fuel = s.fuel
    ∧ (setHandshake h s).legs = s.legs ∧ (setHandshake h s).store = s.store ∧ (setHandshake h s).ckpt = s.ckpt ∧ (setHandshake h
    s).ctl = s.ctl ∧ (setHandshake h s).clock = s.clock ∧ (setHandshake h s).settling = s.settling ∧ (setHandshake h s).readings =
    s.readings ∧ (setHandshake h s).pending = s.pending := by
  refine ⟨?_, ?_, ?_, ?_, ?_, ?_, ?_, ?_, ?_, ?_, ?_, ?_, ?_, ?_, ?_⟩ <;> unfold setHandshake <;> (try dsimp only) <;> repeat' first | (simp; done) | split

@[simp] theorem endHandshake_frame (s : State) :
    (endHandshake s).port = s.port ∧ (endHandshake s).prop = s.prop ∧ (endHandshake s).chans = s.chans ∧ (endHandshake s).steer =
    s.steer ∧ (endHandshake s).sup = s.sup ∧ (endHandshake s).orders = s.orders ∧ (endHandshake s).fuel = s.fuel ∧ (endHandshake
    s).legs = s.legs ∧ (endHandshake s).store = s.store ∧ (endHandshake s).ckpt = s.ckpt ∧ (endHandshake s).ctl = s.ctl ∧
    (endHandshake s).clock = s.clock ∧ (endHandshake s).settling = s.settling ∧ (endHandshake s).readings = s.readings ∧
    (endHandshake s).pending = s.pending := by
  refine ⟨?_, ?_, ?_, ?_, ?_, ?_, ?_, ?_, ?_, ?_, ?_, ?_, ?_, ?_, ?_⟩ <;> unfold endHandshake <;> (try dsimp only) <;> repeat' first | (simp; done) | split

@[simp] theorem createNode_frame (serial : Nat) (k : NodeKind) (a : Abilities) (address : Nat) (s : State) :
    (createNode serial k a address s).prop = s.prop ∧ (createNode serial k a address s).chans = s.chans ∧ (createNode serial k a
    address s).fuel = s.fuel ∧ (createNode serial k a address s).legs = s.legs ∧ (createNode serial k a address s).store = s.store
    ∧ (createNode serial k a address s).ckpt = s.ckpt ∧ (createNode serial k a address s).ctl = s.ctl ∧ (createNode serial k a
    address s).clock = s.clock ∧ (createNode serial k a address s).readings = s.readings ∧ (createNode serial k a address
    s).pending = s.pending := by
  refine ⟨?_, ?_, ?_, ?_, ?_, ?_, ?_, ?_, ?_, ?_⟩ <;> unfold createNode <;> (try dsimp only) <;> repeat' first | (simp; done) | split

@[simp] theorem reuseNode_frame (d : Node) (k : NodeKind) (a : Abilities) (s : State) :
    (reuseNode d k a s).prop = s.prop ∧ (reuseNode d k a s).chans = s.chans ∧ (reuseNode d k a s).fuel = s.fuel ∧ (reuseNode d k a
    s).legs = s.legs ∧ (reuseNode d k a s).store = s.store ∧ (reuseNode d k a s).ckpt = s.ckpt ∧ (reuseNode d k a s).ctl = s.ctl ∧
    (reuseNode d k a s).clock = s.clock ∧ (reuseNode d k a s).readings = s.readings ∧ (reuseNode d k a s).pending = s.pending := by
  refine ⟨?_, ?_, ?_, ?_, ?_, ?_, ?_, ?_, ?_, ?_⟩ <;> unfold reuseNode <;> (try dsimp only) <;> repeat' first | (simp; done) | split

@[simp] theorem takeJoin_frame (serial : Nat) (k : NodeKind) (a : Abilities) (s : State) :
    (takeJoin serial k a s).prop = s.prop ∧ (takeJoin serial k a s).chans = s.chans ∧ (takeJoin serial k a s).fuel = s.fuel ∧
    (takeJoin serial k a s).legs = s.legs ∧ (takeJoin serial k a s).store = s.store ∧ (takeJoin serial k a s).ckpt = s.ckpt ∧
    (takeJoin serial k a s).ctl = s.ctl ∧ (takeJoin serial k a s).clock = s.clock ∧ (takeJoin serial k a s).readings = s.readings
    ∧ (takeJoin serial k a s).pending = s.pending := by
  refine ⟨?_, ?_, ?_, ?_, ?_, ?_, ?_, ?_, ?_, ?_⟩ <;> unfold takeJoin <;> (try dsimp only) <;> repeat' first | (simp; done) | split

@[simp] theorem inviteReply_frame (f : LineFrame) (s : State) :
    (inviteReply f s).prop = s.prop ∧ (inviteReply f s).chans = s.chans ∧ (inviteReply f s).fuel = s.fuel ∧ (inviteReply f s).legs
    = s.legs ∧ (inviteReply f s).store = s.store ∧ (inviteReply f s).ckpt = s.ckpt ∧ (inviteReply f s).ctl = s.ctl ∧ (inviteReply
    f s).clock = s.clock ∧ (inviteReply f s).readings = s.readings ∧ (inviteReply f s).pending = s.pending := by
  refine ⟨?_, ?_, ?_, ?_, ?_, ?_, ?_, ?_, ?_, ?_⟩ <;> unfold inviteReply <;> (try dsimp only) <;> repeat' first | (simp; done) | split

@[simp] theorem acknowledged_frame (serial : Nat) (s : State) :
    (acknowledged serial s).prop = s.prop ∧ (acknowledged serial s).chans = s.chans ∧ (acknowledged serial s).fuel = s.fuel ∧
    (acknowledged serial s).legs = s.legs ∧ (acknowledged serial s).store = s.store ∧ (acknowledged serial s).ckpt = s.ckpt ∧
    (acknowledged serial s).ctl = s.ctl ∧ (acknowledged serial s).clock = s.clock ∧ (acknowledged serial s).readings = s.readings
    ∧ (acknowledged serial s).pending = s.pending := by
  refine ⟨?_, ?_, ?_, ?_, ?_, ?_, ?_, ?_, ?_, ?_⟩ <;> unfold acknowledged <;> (try dsimp only) <;> repeat' first | (simp; done) | split

@[simp] theorem handshakeFails_frame (h : Handshake) (s : State) :
    (handshakeFails h s).prop = s.prop ∧ (handshakeFails h s).chans = s.chans ∧ (handshakeFails h s).fuel = s.fuel ∧
    (handshakeFails h s).legs = s.legs ∧ (handshakeFails h s).store = s.store ∧ (handshakeFails h s).ckpt = s.ckpt ∧
    (handshakeFails h s).ctl = s.ctl ∧ (handshakeFails h s).clock = s.clock ∧ (handshakeFails h s).readings = s.readings ∧
    (handshakeFails h s).pending = s.pending := by
  refine ⟨?_, ?_, ?_, ?_, ?_, ?_, ?_, ?_, ?_, ?_⟩ <;> unfold handshakeFails <;> (try dsimp only) <;> repeat' first | (simp; done) | split

@[simp] theorem assignEnds_frame (good : Bool) (s : State) :
    (assignEnds good s).prop = s.prop ∧ (assignEnds good s).chans = s.chans ∧ (assignEnds good s).fuel = s.fuel ∧ (assignEnds good
    s).legs = s.legs ∧ (assignEnds good s).store = s.store ∧ (assignEnds good s).ckpt = s.ckpt ∧ (assignEnds good s).ctl = s.ctl ∧
    (assignEnds good s).clock = s.clock ∧ (assignEnds good s).readings = s.readings ∧ (assignEnds good s).pending = s.pending := by
  refine ⟨?_, ?_, ?_, ?_, ?_, ?_, ?_, ?_, ?_, ?_⟩ <;> unfold assignEnds <;> (try dsimp only) <;> repeat' first | (simp; done) | split

@[simp] theorem earnRepoll_frame (d : Node) (body : List Byte) (again : Bool) (s : State) :
    (earnRepoll d body again s).port = s.port ∧ (earnRepoll d body again s).prop = s.prop ∧ (earnRepoll d body again s).chans =
    s.chans ∧ (earnRepoll d body again s).steer = s.steer ∧ (earnRepoll d body again s).sup = s.sup ∧ (earnRepoll d body again
    s).orders = s.orders ∧ (earnRepoll d body again s).fuel = s.fuel ∧ (earnRepoll d body again s).legs = s.legs ∧ (earnRepoll d
    body again s).store = s.store ∧ (earnRepoll d body again s).ckpt = s.ckpt ∧ (earnRepoll d body again s).ctl = s.ctl ∧
    (earnRepoll d body again s).clock = s.clock ∧ (earnRepoll d body again s).settling = s.settling ∧ (earnRepoll d body again
    s).readings = s.readings ∧ (earnRepoll d body again s).pending = s.pending := by
  refine ⟨?_, ?_, ?_, ?_, ?_, ?_, ?_, ?_, ?_, ?_, ?_, ?_, ?_, ?_, ?_⟩ <;> unfold earnRepoll <;> (try dsimp only) <;> repeat' first | (simp; done) | split

@[simp] theorem takeReply_frame (d : Node) (last : LastReply) (faulty : Bool) (s : State) :
    (takeReply d last faulty s).prop = s.prop ∧ (takeReply d last faulty s).chans = s.chans ∧ (takeReply d last faulty s).fuel =
    s.fuel ∧ (takeReply d last faulty s).legs = s.legs ∧ (takeReply d last faulty s).store = s.store ∧ (takeReply d last faulty
    s).ckpt = s.ckpt ∧ (takeReply d last faulty s).ctl = s.ctl ∧ (takeReply d last faulty s).clock = s.clock ∧ (takeReply d last
    faulty s).readings = s.readings ∧ (takeReply d last faulty s).pending = s.pending := by
  refine ⟨?_, ?_, ?_, ?_, ?_, ?_, ?_, ?_, ?_, ?_⟩ <;> unfold takeReply <;> (try dsimp only) <;> repeat' first | (simp; done) | split

@[simp] theorem winchGood_frame (d : Node) (sent : List WinchCmd) (body : List Byte) (s : State) :
    (winchGood d sent body s).prop = s.prop ∧ (winchGood d sent body s).chans = s.chans ∧ (winchGood d sent body s).fuel = s.fuel
    ∧ (winchGood d sent body s).legs = s.legs ∧ (winchGood d sent body s).store = s.store ∧ (winchGood d sent body s).ckpt =
    s.ckpt ∧ (winchGood d sent body s).ctl = s.ctl ∧ (winchGood d sent body s).clock = s.clock ∧ (winchGood d sent body
    s).readings = s.readings ∧ (winchGood d sent body s).pending = s.pending := by
  refine ⟨?_, ?_, ?_, ?_, ?_, ?_, ?_, ?_, ?_, ?_⟩ <;> unfold winchGood <;> (try dsimp only) <;> repeat' first | (simp; done) | split

@[simp] theorem bowGood_frame (d : Node) (body : List Byte) (s : State) :
    (bowGood d body s).prop = s.prop ∧ (bowGood d body s).chans = s.chans ∧ (bowGood d body s).fuel = s.fuel ∧ (bowGood d body
    s).legs = s.legs ∧ (bowGood d body s).store = s.store ∧ (bowGood d body s).ckpt = s.ckpt ∧ (bowGood d body s).ctl = s.ctl ∧
    (bowGood d body s).clock = s.clock ∧ (bowGood d body s).readings = s.readings ∧ (bowGood d body s).pending = s.pending := by
  refine ⟨?_, ?_, ?_, ?_, ?_, ?_, ?_, ?_, ?_, ?_⟩ <;> unfold bowGood <;> (try dsimp only) <;> repeat' first | (simp; done) | split

@[simp] theorem pollMiss_frame (serial : Nat) (s : State) :
    (pollMiss serial s).prop = s.prop ∧ (pollMiss serial s).chans = s.chans ∧ (pollMiss serial s).fuel = s.fuel ∧ (pollMiss serial
    s).legs = s.legs ∧ (pollMiss serial s).store = s.store ∧ (pollMiss serial s).ckpt = s.ckpt ∧ (pollMiss serial s).ctl = s.ctl ∧
    (pollMiss serial s).clock = s.clock ∧ (pollMiss serial s).readings = s.readings ∧ (pollMiss serial s).pending = s.pending := by
  refine ⟨?_, ?_, ?_, ?_, ?_, ?_, ?_, ?_, ?_, ?_⟩ <;> unfold pollMiss <;> (try dsimp only) <;> repeat' first | (simp; done) | split

@[simp] theorem exchangeMiss_frame (tx : TxFrame) (s : State) :
    (exchangeMiss tx s).prop = s.prop ∧ (exchangeMiss tx s).chans = s.chans ∧ (exchangeMiss tx s).fuel = s.fuel ∧ (exchangeMiss tx
    s).legs = s.legs ∧ (exchangeMiss tx s).store = s.store ∧ (exchangeMiss tx s).ckpt = s.ckpt ∧ (exchangeMiss tx s).ctl = s.ctl ∧
    (exchangeMiss tx s).clock = s.clock ∧ (exchangeMiss tx s).readings = s.readings ∧ (exchangeMiss tx s).pending = s.pending := by
  refine ⟨?_, ?_, ?_, ?_, ?_, ?_, ?_, ?_, ?_, ?_⟩ <;> unfold exchangeMiss <;> (try dsimp only) <;> repeat' first | (simp; done) | split

@[simp] theorem exchangeGood_frame (tx : TxFrame) (f : LineFrame) (s : State) :
    (exchangeGood tx f s).prop = s.prop ∧ (exchangeGood tx f s).chans = s.chans ∧ (exchangeGood tx f s).fuel = s.fuel ∧
    (exchangeGood tx f s).legs = s.legs ∧ (exchangeGood tx f s).store = s.store ∧ (exchangeGood tx f s).ckpt = s.ckpt ∧
    (exchangeGood tx f s).ctl = s.ctl ∧ (exchangeGood tx f s).clock = s.clock ∧ (exchangeGood tx f s).readings = s.readings ∧
    (exchangeGood tx f s).pending = s.pending := by
  refine ⟨?_, ?_, ?_, ?_, ?_, ?_, ?_, ?_, ?_, ?_⟩ <;> unfold exchangeGood <;> (try dsimp only) <;> repeat' first | (simp; done) | split

@[simp] theorem exchangeEnds_frame (tx : TxFrame) (f : Option LineFrame) (s : State) :
    (exchangeEnds tx f s).prop = s.prop ∧ (exchangeEnds tx f s).chans = s.chans ∧ (exchangeEnds tx f s).fuel = s.fuel ∧
    (exchangeEnds tx f s).legs = s.legs ∧ (exchangeEnds tx f s).store = s.store ∧ (exchangeEnds tx f s).ckpt = s.ckpt ∧
    (exchangeEnds tx f s).ctl = s.ctl ∧ (exchangeEnds tx f s).clock = s.clock ∧ (exchangeEnds tx f s).readings = s.readings ∧
    (exchangeEnds tx f s).pending = s.pending := by
  refine ⟨?_, ?_, ?_, ?_, ?_, ?_, ?_, ?_, ?_, ?_⟩ <;> unfold exchangeEnds <;> (try dsimp only) <;> repeat' first | (simp; done) | split

@[simp] theorem turnaround_frame (s : State) :
    (turnaround s).port = s.port ∧ (turnaround s).prop = s.prop ∧ (turnaround s).chans = s.chans ∧ (turnaround s).steer = s.steer
    ∧ (turnaround s).sup = s.sup ∧ (turnaround s).orders = s.orders ∧ (turnaround s).fuel = s.fuel ∧ (turnaround s).legs = s.legs
    ∧ (turnaround s).store = s.store ∧ (turnaround s).ckpt = s.ckpt ∧ (turnaround s).ctl = s.ctl ∧ (turnaround s).clock = s.clock
    ∧ (turnaround s).settling = s.settling ∧ (turnaround s).readings = s.readings ∧ (turnaround s).pending = s.pending := by
  refine ⟨?_, ?_, ?_, ?_, ?_, ?_, ?_, ?_, ?_, ?_, ?_, ?_, ?_, ?_, ?_⟩ <;> unfold turnaround <;> (try dsimp only) <;> repeat' first | (simp; done) | split

@[simp] theorem bargeFrameReceived_frame (chars : List Byte) (stopBitLost : Bool) (s : State) :
    (bargeFrameReceived chars stopBitLost s).prop = s.prop ∧ (bargeFrameReceived chars stopBitLost s).chans = s.chans ∧
    (bargeFrameReceived chars stopBitLost s).fuel = s.fuel ∧ (bargeFrameReceived chars stopBitLost s).legs = s.legs ∧
    (bargeFrameReceived chars stopBitLost s).store = s.store ∧ (bargeFrameReceived chars stopBitLost s).ckpt = s.ckpt ∧
    (bargeFrameReceived chars stopBitLost s).ctl = s.ctl ∧ (bargeFrameReceived chars stopBitLost s).clock = s.clock ∧
    (bargeFrameReceived chars stopBitLost s).readings = s.readings ∧ (bargeFrameReceived chars stopBitLost s).pending = s.pending := by
  refine ⟨?_, ?_, ?_, ?_, ?_, ?_, ?_, ?_, ?_, ?_⟩ <;> unfold bargeFrameReceived <;> (try dsimp only) <;> repeat' first | (simp; done) | split

@[simp] theorem bargeFrameSilence_frame (s : State) :
    (bargeFrameSilence s).prop = s.prop ∧ (bargeFrameSilence s).chans = s.chans ∧ (bargeFrameSilence s).fuel = s.fuel ∧
    (bargeFrameSilence s).legs = s.legs ∧ (bargeFrameSilence s).store = s.store ∧ (bargeFrameSilence s).ckpt = s.ckpt ∧
    (bargeFrameSilence s).ctl = s.ctl ∧ (bargeFrameSilence s).clock = s.clock ∧ (bargeFrameSilence s).readings = s.readings ∧
    (bargeFrameSilence s).pending = s.pending := by
  refine ⟨?_, ?_, ?_, ?_, ?_, ?_, ?_, ?_, ?_, ?_⟩ <;> unfold bargeFrameSilence <;> (try dsimp only) <;> repeat' first | (simp; done) | split

@[simp] theorem bargeReplyStart_frame (s : State) :
    (bargeReplyStart s).port = s.port ∧ (bargeReplyStart s).prop = s.prop ∧ (bargeReplyStart s).chans = s.chans ∧ (bargeReplyStart
    s).steer = s.steer ∧ (bargeReplyStart s).sup = s.sup ∧ (bargeReplyStart s).orders = s.orders ∧ (bargeReplyStart s).fuel =
    s.fuel ∧ (bargeReplyStart s).legs = s.legs ∧ (bargeReplyStart s).store = s.store ∧ (bargeReplyStart s).ckpt = s.ckpt ∧
    (bargeReplyStart s).ctl = s.ctl ∧ (bargeReplyStart s).clock = s.clock ∧ (bargeReplyStart s).settling = s.settling ∧
    (bargeReplyStart s).readings = s.readings ∧ (bargeReplyStart s).pending = s.pending := by
  refine ⟨?_, ?_, ?_, ?_, ?_, ?_, ?_, ?_, ?_, ?_, ?_, ?_, ?_, ?_, ?_⟩ <;> unfold bargeReplyStart <;> (try dsimp only) <;> repeat' first | (simp; done) | split

@[simp] theorem replyWindowExpiry_frame (s : State) :
    (replyWindowExpiry s).fuel = s.fuel ∧ (replyWindowExpiry s).store = s.store ∧ (replyWindowExpiry s).ctl = s.ctl ∧
    (replyWindowExpiry s).clock = s.clock ∧ (replyWindowExpiry s).readings = s.readings ∧ (replyWindowExpiry s).pending =
    s.pending := by
  refine ⟨?_, ?_, ?_, ?_, ?_, ?_⟩ <;> unfold replyWindowExpiry <;> (try dsimp only) <;> repeat' first | (simp; done) | split

@[simp] theorem recoverNode_frame (named : Option Nat) (d : Node) (s : State) :
    (recoverNode named d s).prop = s.prop ∧ (recoverNode named d s).chans = s.chans ∧ (recoverNode named d s).fuel = s.fuel ∧
    (recoverNode named d s).legs = s.legs ∧ (recoverNode named d s).store = s.store ∧ (recoverNode named d s).ckpt = s.ckpt ∧
    (recoverNode named d s).ctl = s.ctl ∧ (recoverNode named d s).clock = s.clock ∧ (recoverNode named d s).readings = s.readings
    ∧ (recoverNode named d s).pending = s.pending := by
  refine ⟨?_, ?_, ?_, ?_, ?_, ?_, ?_, ?_, ?_, ?_⟩ <;> unfold recoverNode <;> (try dsimp only) <;> repeat' first | (simp; done) | split

@[simp] theorem recoverHandshake_frame (s : State) :
    (recoverHandshake s).prop = s.prop ∧ (recoverHandshake s).chans = s.chans ∧ (recoverHandshake s).fuel = s.fuel ∧
    (recoverHandshake s).legs = s.legs ∧ (recoverHandshake s).store = s.store ∧ (recoverHandshake s).ckpt = s.ckpt ∧
    (recoverHandshake s).ctl = s.ctl ∧ (recoverHandshake s).clock = s.clock ∧ (recoverHandshake s).readings = s.readings ∧
    (recoverHandshake s).pending = s.pending := by
  refine ⟨?_, ?_, ?_, ?_, ?_, ?_, ?_, ?_, ?_, ?_⟩ <;> unfold recoverHandshake <;> (try dsimp only) <;> repeat' first | (simp; done) | split

@[simp] theorem recoverLine_frame (s : State) :
    (recoverLine s).prop = s.prop ∧ (recoverLine s).chans = s.chans ∧ (recoverLine s).fuel = s.fuel ∧ (recoverLine s).legs =
    s.legs ∧ (recoverLine s).store = s.store ∧ (recoverLine s).ckpt = s.ckpt ∧ (recoverLine s).ctl = s.ctl ∧ (recoverLine s).clock
    = s.clock ∧ (recoverLine s).readings = s.readings ∧ (recoverLine s).pending = s.pending := by
  refine ⟨?_, ?_, ?_, ?_, ?_, ?_, ?_, ?_, ?_, ?_⟩ <;> unfold recoverLine <;> (try dsimp only) <;> repeat' first | (simp; done) | split

@[simp] theorem restartCycle_frame (s : State) :
    (restartCycle s).port = s.port ∧ (restartCycle s).prop = s.prop ∧ (restartCycle s).chans = s.chans ∧ (restartCycle s).steer =
    s.steer ∧ (restartCycle s).sup = s.sup ∧ (restartCycle s).orders = s.orders ∧ (restartCycle s).fuel = s.fuel ∧ (restartCycle
    s).legs = s.legs ∧ (restartCycle s).store = s.store ∧ (restartCycle s).ckpt = s.ckpt ∧ (restartCycle s).ctl = s.ctl ∧
    (restartCycle s).clock = s.clock ∧ (restartCycle s).settling = s.settling ∧ (restartCycle s).readings = s.readings ∧
    (restartCycle s).pending = s.pending := by
  refine ⟨?_, ?_, ?_, ?_, ?_, ?_, ?_, ?_, ?_, ?_, ?_, ?_, ?_, ?_, ?_⟩ <;> unfold restartCycle <;> (try dsimp only) <;> repeat' first | (simp; done) | split

@[simp] theorem dropStops_frame (serial : Nat) (sent : List WinchCmd) (s : State) :
    (dropStops serial sent s).port = s.port ∧ (dropStops serial sent s).prop = s.prop ∧ (dropStops serial sent s).chans = s.chans
    ∧ (dropStops serial sent s).steer = s.steer ∧ (dropStops serial sent s).sup = s.sup ∧ (dropStops serial sent s).orders =
    s.orders ∧ (dropStops serial sent s).fuel = s.fuel ∧ (dropStops serial sent s).legs = s.legs ∧ (dropStops serial sent s).store
    = s.store ∧ (dropStops serial sent s).ckpt = s.ckpt ∧ (dropStops serial sent s).ctl = s.ctl ∧ (dropStops serial sent s).clock
    = s.clock ∧ (dropStops serial sent s).settling = s.settling ∧ (dropStops serial sent s).readings = s.readings ∧ (dropStops
    serial sent s).pending = s.pending := by
  refine ⟨?_, ?_, ?_, ?_, ?_, ?_, ?_, ?_, ?_, ?_, ?_, ?_, ?_, ?_, ?_⟩ <;> unfold dropStops <;> (try dsimp only) <;> repeat' first | (simp; done) | split

@[simp] theorem awaitReply_frame (tx : TxFrame) (s : State) :
    (awaitReply tx s).port = s.port ∧ (awaitReply tx s).prop = s.prop ∧ (awaitReply tx s).chans = s.chans ∧ (awaitReply tx
    s).steer = s.steer ∧ (awaitReply tx s).sup = s.sup ∧ (awaitReply tx s).orders = s.orders ∧ (awaitReply tx s).fuel = s.fuel ∧
    (awaitReply tx s).legs = s.legs ∧ (awaitReply tx s).store = s.store ∧ (awaitReply tx s).ckpt = s.ckpt ∧ (awaitReply tx s).ctl
    = s.ctl ∧ (awaitReply tx s).clock = s.clock ∧ (awaitReply tx s).settling = s.settling ∧ (awaitReply tx s).readings =
    s.readings ∧ (awaitReply tx s).pending = s.pending := by
  refine ⟨?_, ?_, ?_, ?_, ?_, ?_, ?_, ?_, ?_, ?_, ?_, ?_, ?_, ?_, ?_⟩ <;> unfold awaitReply <;> (try dsimp only) <;> repeat' first | (simp; done) | split

@[simp] theorem frameEffects_frame (tx : TxFrame) (wasFault : Bool) (s : State) :
    (frameEffects tx wasFault s).prop = s.prop ∧ (frameEffects tx wasFault s).chans = s.chans ∧ (frameEffects tx wasFault s).fuel
    = s.fuel ∧ (frameEffects tx wasFault s).legs = s.legs ∧ (frameEffects tx wasFault s).store = s.store ∧ (frameEffects tx
    wasFault s).ckpt = s.ckpt ∧ (frameEffects tx wasFault s).ctl = s.ctl ∧ (frameEffects tx wasFault s).clock = s.clock ∧
    (frameEffects tx wasFault s).readings = s.readings ∧ (frameEffects tx wasFault s).pending = s.pending := by
  refine ⟨?_, ?_, ?_, ?_, ?_, ?_, ?_, ?_, ?_, ?_⟩ <;> unfold frameEffects <;> (try dsimp only) <;> repeat' first | (simp; done) | split

@[simp] theorem masterFrameSent_frame (s : State) :
    (masterFrameSent s).prop = s.prop ∧ (masterFrameSent s).chans = s.chans ∧ (masterFrameSent s).fuel = s.fuel ∧ (masterFrameSent
    s).legs = s.legs ∧ (masterFrameSent s).store = s.store ∧ (masterFrameSent s).ckpt = s.ckpt ∧ (masterFrameSent s).ctl = s.ctl ∧
    (masterFrameSent s).clock = s.clock ∧ (masterFrameSent s).readings = s.readings ∧ (masterFrameSent s).pending = s.pending := by
  refine ⟨?_, ?_, ?_, ?_, ?_, ?_, ?_, ?_, ?_, ?_⟩ <;> unfold masterFrameSent <;> (try dsimp only) <;> repeat' first | (simp; done) | split

@[simp] theorem downHandshake_frame (s : State) :
    (downHandshake s).prop = s.prop ∧ (downHandshake s).chans = s.chans ∧ (downHandshake s).fuel = s.fuel ∧ (downHandshake s).legs
    = s.legs ∧ (downHandshake s).store = s.store ∧ (downHandshake s).ckpt = s.ckpt ∧ (downHandshake s).ctl = s.ctl ∧
    (downHandshake s).clock = s.clock ∧ (downHandshake s).readings = s.readings ∧ (downHandshake s).pending = s.pending := by
  refine ⟨?_, ?_, ?_, ?_, ?_, ?_, ?_, ?_, ?_, ?_⟩ <;> unfold downHandshake <;> (try dsimp only) <;> repeat' first | (simp; done) | split

@[simp] theorem downNode_frame (d : Node) (s : State) :
    (downNode d s).prop = s.prop ∧ (downNode d s).chans = s.chans ∧ (downNode d s).fuel = s.fuel ∧ (downNode d s).legs = s.legs ∧
    (downNode d s).store = s.store ∧ (downNode d s).ckpt = s.ckpt ∧ (downNode d s).ctl = s.ctl ∧ (downNode d s).clock = s.clock ∧
    (downNode d s).readings = s.readings ∧ (downNode d s).pending = s.pending := by
  refine ⟨?_, ?_, ?_, ?_, ?_, ?_, ?_, ?_, ?_, ?_⟩ <;> unfold downNode <;> (try dsimp only) <;> repeat' first | (simp; done) | split

@[simp] theorem lineDown_frame (s : State) :
    (lineDown s).prop = s.prop ∧ (lineDown s).chans = s.chans ∧ (lineDown s).fuel = s.fuel ∧ (lineDown s).legs = s.legs ∧
    (lineDown s).store = s.store ∧ (lineDown s).ckpt = s.ckpt ∧ (lineDown s).ctl = s.ctl ∧ (lineDown s).clock = s.clock ∧
    (lineDown s).readings = s.readings ∧ (lineDown s).pending = s.pending := by
  refine ⟨?_, ?_, ?_, ?_, ?_, ?_, ?_, ?_, ?_, ?_⟩ <;> unfold lineDown <;> (try dsimp only) <;> repeat' first | (simp; done) | split

@[simp] theorem echoFailure_frame (s : State) :
    (echoFailure s).prop = s.prop ∧ (echoFailure s).chans = s.chans ∧ (echoFailure s).fuel = s.fuel ∧ (echoFailure s).legs =
    s.legs ∧ (echoFailure s).store = s.store ∧ (echoFailure s).ckpt = s.ckpt ∧ (echoFailure s).ctl = s.ctl ∧ (echoFailure s).clock
    = s.clock ∧ (echoFailure s).readings = s.readings ∧ (echoFailure s).pending = s.pending := by
  refine ⟨?_, ?_, ?_, ?_, ?_, ?_, ?_, ?_, ?_, ?_⟩ <;> unfold echoFailure <;> (try dsimp only) <;> repeat' first | (simp; done) | split

@[simp] theorem faultRecoveryExpiry_frame (s : State) :
    (faultRecoveryExpiry s).port = s.port ∧ (faultRecoveryExpiry s).prop = s.prop ∧ (faultRecoveryExpiry s).chans = s.chans ∧
    (faultRecoveryExpiry s).steer = s.steer ∧ (faultRecoveryExpiry s).sup = s.sup ∧ (faultRecoveryExpiry s).orders = s.orders ∧
    (faultRecoveryExpiry s).fuel = s.fuel ∧ (faultRecoveryExpiry s).legs = s.legs ∧ (faultRecoveryExpiry s).store = s.store ∧
    (faultRecoveryExpiry s).ckpt = s.ckpt ∧ (faultRecoveryExpiry s).ctl = s.ctl ∧ (faultRecoveryExpiry s).clock = s.clock ∧
    (faultRecoveryExpiry s).settling = s.settling ∧ (faultRecoveryExpiry s).readings = s.readings ∧ (faultRecoveryExpiry
    s).pending = s.pending := by
  refine ⟨?_, ?_, ?_, ?_, ?_, ?_, ?_, ?_, ?_, ?_, ?_, ?_, ?_, ?_, ?_⟩ <;> unfold faultRecoveryExpiry <;> (try dsimp only) <;> repeat' first | (simp; done) | split

@[simp] theorem downRetryExpiry_frame (s : State) :
    (downRetryExpiry s).port = s.port ∧ (downRetryExpiry s).prop = s.prop ∧ (downRetryExpiry s).chans = s.chans ∧ (downRetryExpiry
    s).steer = s.steer ∧ (downRetryExpiry s).sup = s.sup ∧ (downRetryExpiry s).orders = s.orders ∧ (downRetryExpiry s).fuel =
    s.fuel ∧ (downRetryExpiry s).legs = s.legs ∧ (downRetryExpiry s).store = s.store ∧ (downRetryExpiry s).ckpt = s.ckpt ∧
    (downRetryExpiry s).ctl = s.ctl ∧ (downRetryExpiry s).clock = s.clock ∧ (downRetryExpiry s).settling = s.settling ∧
    (downRetryExpiry s).readings = s.readings ∧ (downRetryExpiry s).pending = s.pending := by
  refine ⟨?_, ?_, ?_, ?_, ?_, ?_, ?_, ?_, ?_, ?_, ?_, ?_, ?_, ?_, ?_⟩ <;> unfold downRetryExpiry <;> (try dsimp only) <;> repeat' first | (simp; done) | split

@[simp] theorem rejoinTimerExpiry_frame (serial : Nat) (s : State) :
    (rejoinTimerExpiry serial s).prop = s.prop ∧ (rejoinTimerExpiry serial s).chans = s.chans ∧ (rejoinTimerExpiry serial s).fuel
    = s.fuel ∧ (rejoinTimerExpiry serial s).legs = s.legs ∧ (rejoinTimerExpiry serial s).store = s.store ∧ (rejoinTimerExpiry
    serial s).ckpt = s.ckpt ∧ (rejoinTimerExpiry serial s).ctl = s.ctl ∧ (rejoinTimerExpiry serial s).clock = s.clock ∧
    (rejoinTimerExpiry serial s).readings = s.readings ∧ (rejoinTimerExpiry serial s).pending = s.pending := by
  refine ⟨?_, ?_, ?_, ?_, ?_, ?_, ?_, ?_, ?_, ?_⟩ <;> unfold rejoinTimerExpiry <;> (try dsimp only) <;> repeat' first | (simp; done) | split

@[simp] theorem claimBow_frame (p : Pos) (bow : Option Nat) (s : State) :
    (claimBow p bow s).prop = s.prop ∧ (claimBow p bow s).chans = s.chans ∧ (claimBow p bow s).fuel = s.fuel ∧ (claimBow p bow
    s).legs = s.legs ∧ (claimBow p bow s).store = s.store ∧ (claimBow p bow s).ckpt = s.ckpt ∧ (claimBow p bow s).ctl = s.ctl ∧
    (claimBow p bow s).clock = s.clock ∧ (claimBow p bow s).readings = s.readings ∧ (claimBow p bow s).pending = s.pending := by
  refine ⟨?_, ?_, ?_, ?_, ?_, ?_, ?_, ?_, ?_, ?_⟩ <;> unfold claimBow <;> (try dsimp only) <;> repeat' first | (simp; done) | split

@[simp] theorem dueAnalysis_frame (s : State) :
    (dueAnalysis s).port = s.port ∧ (dueAnalysis s).prop = s.prop ∧ (dueAnalysis s).chans = s.chans ∧ (dueAnalysis s).steer =
    s.steer ∧ (dueAnalysis s).sup = s.sup ∧ (dueAnalysis s).line = s.line ∧ (dueAnalysis s).orders = s.orders ∧ (dueAnalysis
    s).fuel = s.fuel ∧ (dueAnalysis s).legs = s.legs ∧ (dueAnalysis s).store = s.store ∧ (dueAnalysis s).ckpt = s.ckpt ∧
    (dueAnalysis s).ctl = s.ctl ∧ (dueAnalysis s).clock = s.clock ∧ (dueAnalysis s).readings = s.readings ∧ (dueAnalysis
    s).pending = s.pending := by
  refine ⟨?_, ?_, ?_, ?_, ?_, ?_, ?_, ?_, ?_, ?_, ?_, ?_, ?_, ?_, ?_⟩ <;> unfold dueAnalysis <;> (try dsimp only) <;> repeat' first | (simp; done) | split

@[simp] theorem addBarge_frame (p : Pos) (hull light cargo : Nat) (bow : Option Nat) (s : State) :
    (addBarge p hull light cargo bow s).prop = s.prop ∧ (addBarge p hull light cargo bow s).chans = s.chans ∧ (addBarge p hull
    light cargo bow s).fuel = s.fuel ∧ (addBarge p hull light cargo bow s).legs = s.legs ∧ (addBarge p hull light cargo bow
    s).store = s.store ∧ (addBarge p hull light cargo bow s).ckpt = s.ckpt ∧ (addBarge p hull light cargo bow s).ctl = s.ctl ∧
    (addBarge p hull light cargo bow s).clock = s.clock ∧ (addBarge p hull light cargo bow s).readings = s.readings ∧ (addBarge p
    hull light cargo bow s).pending = s.pending := by
  refine ⟨?_, ?_, ?_, ?_, ?_, ?_, ?_, ?_, ?_, ?_⟩ <;> unfold addBarge <;> (try dsimp only) <;> repeat' first | (simp; done) | split

@[simp] theorem oneShotStop_frame (serial channel : Nat) (s : State) :
    (oneShotStop serial channel s).port = s.port ∧ (oneShotStop serial channel s).prop = s.prop ∧ (oneShotStop serial channel
    s).chans = s.chans ∧ (oneShotStop serial channel s).steer = s.steer ∧ (oneShotStop serial channel s).sup = s.sup ∧
    (oneShotStop serial channel s).orders = s.orders ∧ (oneShotStop serial channel s).fuel = s.fuel ∧ (oneShotStop serial channel
    s).legs = s.legs ∧ (oneShotStop serial channel s).store = s.store ∧ (oneShotStop serial channel s).ckpt = s.ckpt ∧
    (oneShotStop serial channel s).ctl = s.ctl ∧ (oneShotStop serial channel s).clock = s.clock ∧ (oneShotStop serial channel
    s).settling = s.settling ∧ (oneShotStop serial channel s).readings = s.readings ∧ (oneShotStop serial channel s).pending =
    s.pending := by
  refine ⟨?_, ?_, ?_, ?_, ?_, ?_, ?_, ?_, ?_, ?_, ?_, ?_, ?_, ?_, ?_⟩ <;> unfold oneShotStop <;> (try dsimp only) <;> repeat' first | (simp; done) | split

@[simp] theorem dropCoupling_frame (c : Coupling) (s : State) :
    (dropCoupling c s).prop = s.prop ∧ (dropCoupling c s).chans = s.chans ∧ (dropCoupling c s).steer = s.steer ∧ (dropCoupling c
    s).orders = s.orders ∧ (dropCoupling c s).fuel = s.fuel ∧ (dropCoupling c s).legs = s.legs ∧ (dropCoupling c s).store =
    s.store ∧ (dropCoupling c s).ckpt = s.ckpt ∧ (dropCoupling c s).ctl = s.ctl ∧ (dropCoupling c s).clock = s.clock ∧
    (dropCoupling c s).readings = s.readings ∧ (dropCoupling c s).pending = s.pending := by
  refine ⟨?_, ?_, ?_, ?_, ?_, ?_, ?_, ?_, ?_, ?_, ?_, ?_⟩ <;> unfold dropCoupling <;> (try dsimp only) <;> repeat' first | (simp; done) | split

@[simp] theorem removeRecord_frame (p : Pos) (cs : List Coupling) (s : State) :
    (removeRecord p cs s).prop = s.prop ∧ (removeRecord p cs s).chans = s.chans ∧ (removeRecord p cs s).fuel = s.fuel ∧
    (removeRecord p cs s).legs = s.legs ∧ (removeRecord p cs s).store = s.store ∧ (removeRecord p cs s).ckpt = s.ckpt ∧
    (removeRecord p cs s).ctl = s.ctl ∧ (removeRecord p cs s).clock = s.clock ∧ (removeRecord p cs s).readings = s.readings ∧
    (removeRecord p cs s).pending = s.pending := by
  refine ⟨?_, ?_, ?_, ?_, ?_, ?_, ?_, ?_, ?_, ?_⟩ <;> unfold removeRecord <;> (try dsimp only) <;> repeat' first | (simp; done) | split

@[simp] theorem breakaway_frame (p : Pos) (s : State) :
    (breakaway p s).prop = s.prop ∧ (breakaway p s).chans = s.chans ∧ (breakaway p s).fuel = s.fuel ∧ (breakaway p s).legs =
    s.legs ∧ (breakaway p s).store = s.store ∧ (breakaway p s).ckpt = s.ckpt ∧ (breakaway p s).ctl = s.ctl ∧ (breakaway p s).clock
    = s.clock ∧ (breakaway p s).readings = s.readings ∧ (breakaway p s).pending = s.pending := by
  refine ⟨?_, ?_, ?_, ?_, ?_, ?_, ?_, ?_, ?_, ?_⟩ <;> unfold breakaway <;> (try dsimp only) <;> repeat' first | (simp; done) | split

@[simp] theorem addCoupling_frame (n : Nat) (a : CouplingEnd) (b : Pos) (serial channel winchEnd cls : Nat) (s : State) :
    (addCoupling n a b serial channel winchEnd cls s).prop = s.prop ∧ (addCoupling n a b serial channel winchEnd cls s).chans =
    s.chans ∧ (addCoupling n a b serial channel winchEnd cls s).fuel = s.fuel ∧ (addCoupling n a b serial channel winchEnd cls
    s).legs = s.legs ∧ (addCoupling n a b serial channel winchEnd cls s).store = s.store ∧ (addCoupling n a b serial channel
    winchEnd cls s).ckpt = s.ckpt ∧ (addCoupling n a b serial channel winchEnd cls s).ctl = s.ctl ∧ (addCoupling n a b serial
    channel winchEnd cls s).clock = s.clock ∧ (addCoupling n a b serial channel winchEnd cls s).readings = s.readings ∧
    (addCoupling n a b serial channel winchEnd cls s).pending = s.pending := by
  refine ⟨?_, ?_, ?_, ?_, ?_, ?_, ?_, ?_, ?_, ?_⟩ <;> unfold addCoupling <;> (try dsimp only) <;> repeat' first | (simp; done) | split

end Sys2Proof.Machine
end

