-- ==== Sys2Proof/Laws/FramesRest.lean ====
section
/-! SUPPORT. What each operation of the fuel intervals, propulsion, the settings and the port leaves: every part of the state it does not act on. -/

set_option linter.unusedTactic false
set_option linter.unreachableTactic false

namespace Sys2Proof.Machine

@[simp] theorem onMeter_frame (s : State) (m : Fin 10) (f : Meter → Meter) :
    (State.onMeter s m f).port = s.port ∧ (State.onMeter s m f).prop = s.prop ∧ (State.onMeter s m f).chans = s.chans ∧
    (State.onMeter s m f).steer = s.steer ∧ (State.onMeter s m f).sup = s.sup ∧ (State.onMeter s m f).line = s.line ∧
    (State.onMeter s m f).orders = s.orders ∧ (State.onMeter s m f).legs = s.legs ∧ (State.onMeter s m f).store = s.store ∧
    (State.onMeter s m f).ckpt = s.ckpt ∧ (State.onMeter s m f).ctl = s.ctl ∧ (State.onMeter s m f).clock = s.clock ∧
    (State.onMeter s m f).settling = s.settling ∧ (State.onMeter s m f).readings = s.readings ∧ (State.onMeter s m f).pending =
    s.pending := by
  refine ⟨?_, ?_, ?_, ?_, ?_, ?_, ?_, ?_, ?_, ?_, ?_, ?_, ?_, ?_, ?_⟩ <;> unfold State.onMeter <;> (try dsimp only) <;> repeat' first | (simp; done) | split

@[simp] theorem meterPulse_frame (m : Fin 10) (s : State) :
    (meterPulse m s).port = s.port ∧ (meterPulse m s).prop = s.prop ∧ (meterPulse m s).chans = s.chans ∧ (meterPulse m s).steer =
    s.steer ∧ (meterPulse m s).sup = s.sup ∧ (meterPulse m s).line = s.line ∧ (meterPulse m s).orders = s.orders ∧ (meterPulse m
    s).legs = s.legs ∧ (meterPulse m s).store = s.store ∧ (meterPulse m s).ckpt = s.ckpt ∧ (meterPulse m s).ctl = s.ctl ∧
    (meterPulse m s).clock = s.clock ∧ (meterPulse m s).settling = s.settling ∧ (meterPulse m s).readings = s.readings ∧
    (meterPulse m s).pending = s.pending := by
  refine ⟨?_, ?_, ?_, ?_, ?_, ?_, ?_, ?_, ?_, ?_, ?_, ?_, ?_, ?_, ?_⟩ <;> unfold meterPulse <;> (try dsimp only) <;> repeat' first | (simp; done) | split

@[simp] theorem tempAlarm_frame (m : Fin 10) (status : TempStatus) (reading : Option Int) (s : State) :
    (tempAlarm m status reading s).prop = s.prop ∧ (tempAlarm m status reading s).chans = s.chans ∧ (tempAlarm m status reading
    s).steer = s.steer ∧ (tempAlarm m status reading s).sup = s.sup ∧ (tempAlarm m status reading s).line = s.line ∧ (tempAlarm m
    status reading s).orders = s.orders ∧ (tempAlarm m status reading s).fuel = s.fuel ∧ (tempAlarm m status reading s).legs =
    s.legs ∧ (tempAlarm m status reading s).store = s.store ∧ (tempAlarm m status reading s).ckpt = s.ckpt ∧ (tempAlarm m status
    reading s).ctl = s.ctl ∧ (tempAlarm m status reading s).clock = s.clock ∧ (tempAlarm m status reading s).settling = s.settling
    ∧ (tempAlarm m status reading s).readings = s.readings ∧ (tempAlarm m status reading s).pending = s.pending := by
  refine ⟨?_, ?_, ?_, ?_, ?_, ?_, ?_, ?_, ?_, ?_, ?_, ?_, ?_, ?_, ?_⟩ <;> unfold tempAlarm <;> (try dsimp only) <;> repeat' first | (simp; done) | split

@[simp] theorem takeTemperature_frame (m : Fin 10) (reading : Option Int) (s : State) :
    (takeTemperature m reading s).prop = s.prop ∧ (takeTemperature m reading s).chans = s.chans ∧ (takeTemperature m reading
    s).steer = s.steer ∧ (takeTemperature m reading s).sup = s.sup ∧ (takeTemperature m reading s).line = s.line ∧
    (takeTemperature m reading s).orders = s.orders ∧ (takeTemperature m reading s).legs = s.legs ∧ (takeTemperature m reading
    s).store = s.store ∧ (takeTemperature m reading s).ckpt = s.ckpt ∧ (takeTemperature m reading s).ctl = s.ctl ∧
    (takeTemperature m reading s).clock = s.clock ∧ (takeTemperature m reading s).settling = s.settling ∧ (takeTemperature m
    reading s).readings = s.readings ∧ (takeTemperature m reading s).pending = s.pending := by
  refine ⟨?_, ?_, ?_, ?_, ?_, ?_, ?_, ?_, ?_, ?_, ?_, ?_, ?_, ?_⟩ <;> unfold takeTemperature <;> (try dsimp only) <;> repeat' first | (simp; done) | split

@[simp] theorem correctMeter_frame (m : Fin 10) (s : State) :
    (correctMeter m s).port = s.port ∧ (correctMeter m s).prop = s.prop ∧ (correctMeter m s).chans = s.chans ∧ (correctMeter m
    s).steer = s.steer ∧ (correctMeter m s).sup = s.sup ∧ (correctMeter m s).line = s.line ∧ (correctMeter m s).orders = s.orders
    ∧ (correctMeter m s).legs = s.legs ∧ (correctMeter m s).store = s.store ∧ (correctMeter m s).ckpt = s.ckpt ∧ (correctMeter m
    s).ctl = s.ctl ∧ (correctMeter m s).clock = s.clock ∧ (correctMeter m s).settling = s.settling ∧ (correctMeter m s).readings =
    s.readings ∧ (correctMeter m s).pending = s.pending := by
  refine ⟨?_, ?_, ?_, ?_, ?_, ?_, ?_, ?_, ?_, ?_, ?_, ?_, ?_, ?_, ?_⟩ <;> unfold correctMeter <;> (try dsimp only) <;> repeat' first | (simp; done) | split

@[simp] theorem bookNet_frame (e : Fin 4) (s : State) :
    (bookNet e s).port = s.port ∧ (bookNet e s).prop = s.prop ∧ (bookNet e s).chans = s.chans ∧ (bookNet e s).steer = s.steer ∧
    (bookNet e s).sup = s.sup ∧ (bookNet e s).line = s.line ∧ (bookNet e s).orders = s.orders ∧ (bookNet e s).store = s.store ∧
    (bookNet e s).ckpt = s.ckpt ∧ (bookNet e s).ctl = s.ctl ∧ (bookNet e s).clock = s.clock ∧ (bookNet e s).settling = s.settling
    ∧ (bookNet e s).readings = s.readings ∧ (bookNet e s).pending = s.pending := by
  refine ⟨?_, ?_, ?_, ?_, ?_, ?_, ?_, ?_, ?_, ?_, ?_, ?_, ?_, ?_⟩ <;> unfold bookNet <;> (try dsimp only) <;> repeat' first | (simp; done) | split

@[simp] theorem addRunning_frame (e : Fin 4) (s : State) :
    (addRunning e s).port = s.port ∧ (addRunning e s).prop = s.prop ∧ (addRunning e s).chans = s.chans ∧ (addRunning e s).steer =
    s.steer ∧ (addRunning e s).sup = s.sup ∧ (addRunning e s).line = s.line ∧ (addRunning e s).orders = s.orders ∧ (addRunning e
    s).fuel = s.fuel ∧ (addRunning e s).store = s.store ∧ (addRunning e s).ckpt = s.ckpt ∧ (addRunning e s).ctl = s.ctl ∧
    (addRunning e s).clock = s.clock ∧ (addRunning e s).settling = s.settling ∧ (addRunning e s).readings = s.readings ∧
    (addRunning e s).pending = s.pending := by
  refine ⟨?_, ?_, ?_, ?_, ?_, ?_, ?_, ?_, ?_, ?_, ?_, ?_, ?_, ?_, ?_⟩ <;> unfold addRunning <;> (try dsimp only) <;> repeat' first | (simp; done) | split

@[simp] theorem bookEngine_frame (e : Fin 4) (s : State) :
    (bookEngine e s).port = s.port ∧ (bookEngine e s).prop = s.prop ∧ (bookEngine e s).chans = s.chans ∧ (bookEngine e s).steer =
    s.steer ∧ (bookEngine e s).sup = s.sup ∧ (bookEngine e s).line = s.line ∧ (bookEngine e s).orders = s.orders ∧ (bookEngine e
    s).store = s.store ∧ (bookEngine e s).ckpt = s.ckpt ∧ (bookEngine e s).ctl = s.ctl ∧ (bookEngine e s).clock = s.clock ∧
    (bookEngine e s).settling = s.settling ∧ (bookEngine e s).readings = s.readings ∧ (bookEngine e s).pending = s.pending := by
  refine ⟨?_, ?_, ?_, ?_, ?_, ?_, ?_, ?_, ?_, ?_, ?_, ?_, ?_, ?_⟩ <;> unfold bookEngine <;> (try dsimp only) <;> repeat' first | (simp; done) | split

@[simp] theorem setWork_frame (s : State) (i : Fin 16) (w : Work) :
    (State.setWork s i w).port = s.port ∧ (State.setWork s i w).prop = s.prop ∧ (State.setWork s i w).chans = s.chans ∧
    (State.setWork s i w).steer = s.steer ∧ (State.setWork s i w).sup = s.sup ∧ (State.setWork s i w).line = s.line ∧
    (State.setWork s i w).fuel = s.fuel ∧ (State.setWork s i w).legs = s.legs ∧ (State.setWork s i w).store = s.store ∧
    (State.setWork s i w).ckpt = s.ckpt ∧ (State.setWork s i w).ctl = s.ctl ∧ (State.setWork s i w).clock = s.clock ∧
    (State.setWork s i w).settling = s.settling ∧ (State.setWork s i w).readings = s.readings ∧ (State.setWork s i w).pending =
    s.pending := by
  refine ⟨?_, ?_, ?_, ?_, ?_, ?_, ?_, ?_, ?_, ?_, ?_, ?_, ?_, ?_, ?_⟩ <;> unfold State.setWork <;> (try dsimp only) <;> repeat' first | (simp; done) | split

@[simp] theorem takeFromTank_frame (n : Nat) (x : Int) (s : State) :
    (takeFromTank n x s).port = s.port ∧ (takeFromTank n x s).prop = s.prop ∧ (takeFromTank n x s).chans = s.chans ∧ (takeFromTank
    n x s).steer = s.steer ∧ (takeFromTank n x s).sup = s.sup ∧ (takeFromTank n x s).line = s.line ∧ (takeFromTank n x s).orders =
    s.orders ∧ (takeFromTank n x s).store = s.store ∧ (takeFromTank n x s).ckpt = s.ckpt ∧ (takeFromTank n x s).ctl = s.ctl ∧
    (takeFromTank n x s).clock = s.clock ∧ (takeFromTank n x s).settling = s.settling ∧ (takeFromTank n x s).readings = s.readings
    ∧ (takeFromTank n x s).pending = s.pending := by
  refine ⟨?_, ?_, ?_, ?_, ?_, ?_, ?_, ?_, ?_, ?_, ?_, ?_, ?_, ?_⟩ <;> unfold takeFromTank <;> (try dsimp only) <;> repeat' first | (simp; done) | split

@[simp] theorem bookTransfer_frame (s : State) :
    (bookTransfer s).port = s.port ∧ (bookTransfer s).prop = s.prop ∧ (bookTransfer s).chans = s.chans ∧ (bookTransfer s).steer =
    s.steer ∧ (bookTransfer s).sup = s.sup ∧ (bookTransfer s).line = s.line ∧ (bookTransfer s).store = s.store ∧ (bookTransfer
    s).ckpt = s.ckpt ∧ (bookTransfer s).ctl = s.ctl ∧ (bookTransfer s).clock = s.clock ∧ (bookTransfer s).settling = s.settling ∧
    (bookTransfer s).readings = s.readings ∧ (bookTransfer s).pending = s.pending := by
  refine ⟨?_, ?_, ?_, ?_, ?_, ?_, ?_, ?_, ?_, ?_, ?_, ?_, ?_⟩ <;> unfold bookTransfer <;> (try dsimp only) <;> repeat' first | (simp; done) | split

@[simp] theorem bookBunker_frame (s : State) :
    (bookBunker s).port = s.port ∧ (bookBunker s).prop = s.prop ∧ (bookBunker s).chans = s.chans ∧ (bookBunker s).steer = s.steer
    ∧ (bookBunker s).sup = s.sup ∧ (bookBunker s).line = s.line ∧ (bookBunker s).store = s.store ∧ (bookBunker s).ckpt = s.ckpt ∧
    (bookBunker s).ctl = s.ctl ∧ (bookBunker s).clock = s.clock ∧ (bookBunker s).settling = s.settling ∧ (bookBunker s).readings =
    s.readings ∧ (bookBunker s).pending = s.pending := by
  refine ⟨?_, ?_, ?_, ?_, ?_, ?_, ?_, ?_, ?_, ?_, ?_, ?_, ?_⟩ <;> unfold bookBunker <;> (try dsimp only) <;> repeat' first | (simp; done) | split

@[simp] theorem testTransfer_frame (s : State) :
    (testTransfer s).prop = s.prop ∧ (testTransfer s).chans = s.chans ∧ (testTransfer s).steer = s.steer ∧ (testTransfer s).line =
    s.line ∧ (testTransfer s).fuel = s.fuel ∧ (testTransfer s).legs = s.legs ∧ (testTransfer s).store = s.store ∧ (testTransfer
    s).ckpt = s.ckpt ∧ (testTransfer s).ctl = s.ctl ∧ (testTransfer s).clock = s.clock ∧ (testTransfer s).readings = s.readings ∧
    (testTransfer s).pending = s.pending := by
  refine ⟨?_, ?_, ?_, ?_, ?_, ?_, ?_, ?_, ?_, ?_, ?_, ?_⟩ <;> unfold testTransfer <;> (try dsimp only) <;> repeat' first | (simp; done) | split

@[simp] theorem testBunker_frame (s : State) :
    (testBunker s).prop = s.prop ∧ (testBunker s).chans = s.chans ∧ (testBunker s).steer = s.steer ∧ (testBunker s).line = s.line
    ∧ (testBunker s).fuel = s.fuel ∧ (testBunker s).legs = s.legs ∧ (testBunker s).store = s.store ∧ (testBunker s).ckpt = s.ckpt
    ∧ (testBunker s).ctl = s.ctl ∧ (testBunker s).clock = s.clock ∧ (testBunker s).readings = s.readings ∧ (testBunker s).pending
    = s.pending := by
  refine ⟨?_, ?_, ?_, ?_, ?_, ?_, ?_, ?_, ?_, ?_, ?_, ?_⟩ <;> unfold testBunker <;> (try dsimp only) <;> repeat' first | (simp; done) | split

@[simp] theorem accountingInterval_frame (temperatures : Vector (Option Int) 10) (s : State) :
    (accountingInterval temperatures s).line = s.line ∧ (accountingInterval temperatures s).store = s.store ∧ (accountingInterval
    temperatures s).ctl = s.ctl ∧ (accountingInterval temperatures s).clock = s.clock ∧ (accountingInterval temperatures
    s).readings = s.readings ∧ (accountingInterval temperatures s).pending = s.pending := by
  refine ⟨?_, ?_, ?_, ?_, ?_, ?_⟩ <;> unfold accountingInterval <;> (try dsimp only) <;> repeat' first | (simp; done) | split

@[simp] theorem takeLever_frame (v : Int) (s : State) :
    (takeLever v s).sup = s.sup ∧ (takeLever v s).line = s.line ∧ (takeLever v s).orders = s.orders ∧ (takeLever v s).fuel =
    s.fuel ∧ (takeLever v s).legs = s.legs ∧ (takeLever v s).store = s.store ∧ (takeLever v s).ckpt = s.ckpt ∧ (takeLever v s).ctl
    = s.ctl ∧ (takeLever v s).clock = s.clock ∧ (takeLever v s).readings = s.readings ∧ (takeLever v s).pending = s.pending := by
  refine ⟨?_, ?_, ?_, ?_, ?_, ?_, ?_, ?_, ?_, ?_, ?_⟩ <;> unfold takeLever <;> (try dsimp only) <;> repeat' first | (simp; done) | split

@[simp] theorem zeroCommand_frame (s : State) :
    (zeroCommand s).sup = s.sup ∧ (zeroCommand s).line = s.line ∧ (zeroCommand s).orders = s.orders ∧ (zeroCommand s).fuel =
    s.fuel ∧ (zeroCommand s).legs = s.legs ∧ (zeroCommand s).store = s.store ∧ (zeroCommand s).ckpt = s.ckpt ∧ (zeroCommand s).ctl
    = s.ctl ∧ (zeroCommand s).clock = s.clock ∧ (zeroCommand s).readings = s.readings ∧ (zeroCommand s).pending = s.pending := by
  refine ⟨?_, ?_, ?_, ?_, ?_, ?_, ?_, ?_, ?_, ?_, ?_⟩ <;> unfold zeroCommand <;> (try dsimp only) <;> repeat' first | (simp; done) | split

@[simp] theorem silenceLimitExpiry_frame (s : State) :
    (silenceLimitExpiry s).sup = s.sup ∧ (silenceLimitExpiry s).line = s.line ∧ (silenceLimitExpiry s).orders = s.orders ∧
    (silenceLimitExpiry s).fuel = s.fuel ∧ (silenceLimitExpiry s).legs = s.legs ∧ (silenceLimitExpiry s).store = s.store ∧
    (silenceLimitExpiry s).ckpt = s.ckpt ∧ (silenceLimitExpiry s).ctl = s.ctl ∧ (silenceLimitExpiry s).clock = s.clock ∧
    (silenceLimitExpiry s).readings = s.readings ∧ (silenceLimitExpiry s).pending = s.pending := by
  refine ⟨?_, ?_, ?_, ?_, ?_, ?_, ?_, ?_, ?_, ?_, ?_⟩ <;> unfold silenceLimitExpiry <;> (try dsimp only) <;> repeat' first | (simp; done) | split

@[simp] theorem holdTimeExpiry_frame (s : State) :
    (holdTimeExpiry s).sup = s.sup ∧ (holdTimeExpiry s).line = s.line ∧ (holdTimeExpiry s).orders = s.orders ∧ (holdTimeExpiry
    s).fuel = s.fuel ∧ (holdTimeExpiry s).legs = s.legs ∧ (holdTimeExpiry s).store = s.store ∧ (holdTimeExpiry s).ckpt = s.ckpt ∧
    (holdTimeExpiry s).ctl = s.ctl ∧ (holdTimeExpiry s).clock = s.clock ∧ (holdTimeExpiry s).readings = s.readings ∧
    (holdTimeExpiry s).pending = s.pending := by
  refine ⟨?_, ?_, ?_, ?_, ?_, ?_, ?_, ?_, ?_, ?_, ?_⟩ <;> unfold holdTimeExpiry <;> (try dsimp only) <;> repeat' first | (simp; done) | split

@[simp] theorem followTakeover_frame (backup : Bool) (s : State) :
    (followTakeover backup s).chans = s.chans ∧ (followTakeover backup s).steer = s.steer ∧ (followTakeover backup s).sup = s.sup
    ∧ (followTakeover backup s).line = s.line ∧ (followTakeover backup s).orders = s.orders ∧ (followTakeover backup s).fuel =
    s.fuel ∧ (followTakeover backup s).legs = s.legs ∧ (followTakeover backup s).store = s.store ∧ (followTakeover backup s).ckpt
    = s.ckpt ∧ (followTakeover backup s).ctl = s.ctl ∧ (followTakeover backup s).clock = s.clock ∧ (followTakeover backup
    s).settling = s.settling ∧ (followTakeover backup s).readings = s.readings ∧ (followTakeover backup s).pending = s.pending := by
  refine ⟨?_, ?_, ?_, ?_, ?_, ?_, ?_, ?_, ?_, ?_, ?_, ?_, ?_, ?_⟩ <;> unfold followTakeover <;> (try dsimp only) <;> repeat' first | (simp; done) | split

@[simp] theorem deliverBackup_frame (rawLever rawHelm : Nat) (s : State) :
    (deliverBackup rawLever rawHelm s).sup = s.sup ∧ (deliverBackup rawLever rawHelm s).line = s.line ∧ (deliverBackup rawLever
    rawHelm s).orders = s.orders ∧ (deliverBackup rawLever rawHelm s).fuel = s.fuel ∧ (deliverBackup rawLever rawHelm s).legs =
    s.legs ∧ (deliverBackup rawLever rawHelm s).store = s.store ∧ (deliverBackup rawLever rawHelm s).ckpt = s.ckpt ∧
    (deliverBackup rawLever rawHelm s).ctl = s.ctl ∧ (deliverBackup rawLever rawHelm s).clock = s.clock ∧ (deliverBackup rawLever
    rawHelm s).readings = s.readings ∧ (deliverBackup rawLever rawHelm s).pending = s.pending := by
  refine ⟨?_, ?_, ?_, ?_, ?_, ?_, ?_, ?_, ?_, ?_, ?_⟩ <;> unfold deliverBackup <;> (try dsimp only) <;> repeat' first | (simp; done) | split

@[simp] theorem setTarget_frame (e : Fin 4) (s : State) :
    (setTarget e s).port = s.port ∧ (setTarget e s).prop = s.prop ∧ (setTarget e s).steer = s.steer ∧ (setTarget e s).sup = s.sup
    ∧ (setTarget e s).line = s.line ∧ (setTarget e s).orders = s.orders ∧ (setTarget e s).fuel = s.fuel ∧ (setTarget e s).legs =
    s.legs ∧ (setTarget e s).store = s.store ∧ (setTarget e s).ckpt = s.ckpt ∧ (setTarget e s).ctl = s.ctl ∧ (setTarget e s).clock
    = s.clock ∧ (setTarget e s).settling = s.settling ∧ (setTarget e s).readings = s.readings ∧ (setTarget e s).pending =
    s.pending := by
  refine ⟨?_, ?_, ?_, ?_, ?_, ?_, ?_, ?_, ?_, ?_, ?_, ?_, ?_, ?_, ?_⟩ <;> unfold setTarget <;> (try dsimp only) <;> repeat' first | (simp; done) | split

@[simp] theorem rampDemand_frame (e : Fin 4) (s : State) :
    (rampDemand e s).port = s.port ∧ (rampDemand e s).prop = s.prop ∧ (rampDemand e s).steer = s.steer ∧ (rampDemand e s).sup =
    s.sup ∧ (rampDemand e s).line = s.line ∧ (rampDemand e s).orders = s.orders ∧ (rampDemand e s).fuel = s.fuel ∧ (rampDemand e
    s).legs = s.legs ∧ (rampDemand e s).store = s.store ∧ (rampDemand e s).ckpt = s.ckpt ∧ (rampDemand e s).ctl = s.ctl ∧
    (rampDemand e s).clock = s.clock ∧ (rampDemand e s).settling = s.settling ∧ (rampDemand e s).readings = s.readings ∧
    (rampDemand e s).pending = s.pending := by
  refine ⟨?_, ?_, ?_, ?_, ?_, ?_, ?_, ?_, ?_, ?_, ?_, ?_, ?_, ?_, ?_⟩ <;> unfold rampDemand <;> (try dsimp only) <;> repeat' first | (simp; done) | split

@[simp] theorem engineControl_frame (e : Fin 4) (s : State) :
    (engineControl e s).prop = s.prop ∧ (engineControl e s).steer = s.steer ∧ (engineControl e s).sup = s.sup ∧ (engineControl e
    s).line = s.line ∧ (engineControl e s).orders = s.orders ∧ (engineControl e s).fuel = s.fuel ∧ (engineControl e s).legs =
    s.legs ∧ (engineControl e s).store = s.store ∧ (engineControl e s).ckpt = s.ckpt ∧ (engineControl e s).ctl = s.ctl ∧
    (engineControl e s).clock = s.clock ∧ (engineControl e s).settling = s.settling ∧ (engineControl e s).readings = s.readings ∧
    (engineControl e s).pending = s.pending := by
  refine ⟨?_, ?_, ?_, ?_, ?_, ?_, ?_, ?_, ?_, ?_, ?_, ?_, ?_, ?_⟩ <;> unfold engineControl <;> (try dsimp only) <;> repeat' first | (simp; done) | split

@[simp] theorem controlPeriodExpiry_frame (backup : Bool) (rawLever rawHelm : Nat) (s : State) :
    (controlPeriodExpiry backup rawLever rawHelm s).line = s.line ∧ (controlPeriodExpiry backup rawLever rawHelm s).fuel = s.fuel
    ∧ (controlPeriodExpiry backup rawLever rawHelm s).store = s.store ∧ (controlPeriodExpiry backup rawLever rawHelm s).ctl =
    s.ctl ∧ (controlPeriodExpiry backup rawLever rawHelm s).clock = s.clock ∧ (controlPeriodExpiry backup rawLever rawHelm
    s).readings = s.readings ∧ (controlPeriodExpiry backup rawLever rawHelm s).pending = s.pending := by
  refine ⟨?_, ?_, ?_, ?_, ?_, ?_, ?_⟩ <;> unfold controlPeriodExpiry <;> (try dsimp only) <;> repeat' first | (simp; done) | split

@[simp] theorem syncPeriodExpiry_frame (s : State) :
    (syncPeriodExpiry s).port = s.port ∧ (syncPeriodExpiry s).steer = s.steer ∧ (syncPeriodExpiry s).sup = s.sup ∧
    (syncPeriodExpiry s).line = s.line ∧ (syncPeriodExpiry s).orders = s.orders ∧ (syncPeriodExpiry s).fuel = s.fuel ∧
    (syncPeriodExpiry s).legs = s.legs ∧ (syncPeriodExpiry s).store = s.store ∧ (syncPeriodExpiry s).ckpt = s.ckpt ∧
    (syncPeriodExpiry s).ctl = s.ctl ∧ (syncPeriodExpiry s).clock = s.clock ∧ (syncPeriodExpiry s).settling = s.settling ∧
    (syncPeriodExpiry s).readings = s.readings ∧ (syncPeriodExpiry s).pending = s.pending := by
  refine ⟨?_, ?_, ?_, ?_, ?_, ?_, ?_, ?_, ?_, ?_, ?_, ?_, ?_, ?_⟩ <;> unfold syncPeriodExpiry <;> dsimp only <;> split <;>
    first
    | (simp; done)
    | (rw [forAll_port] <;> intros <;> simp; done)
    | (rw [forAll_steer] <;> intros <;> simp; done)
    | (rw [forAll_sup] <;> intros <;> simp; done)
    | (rw [forAll_line] <;> intros <;> simp; done)
    | (rw [forAll_orders] <;> intros <;> simp; done)
    | (rw [forAll_fuel] <;> intros <;> simp; done)
    | (rw [forAll_legs] <;> intros <;> simp; done)
    | (rw [forAll_store] <;> intros <;> simp; done)
    | (rw [forAll_ckpt] <;> intros <;> simp; done)
    | (rw [forAll_ctl] <;> intros <;> simp; done)
    | (rw [forAll_clock] <;> intros <;> simp; done)
    | (rw [forAll_settling] <;> intros <;> simp; done)
    | (rw [forAll_readings] <;> intros <;> simp; done)
    | (rw [forAll_pending] <;> intros <;> simp; done)

@[simp] theorem engineTaken_frame (e : Fin 4) (s : State) :
    (engineTaken e s).prop = s.prop ∧ (engineTaken e s).steer = s.steer ∧ (engineTaken e s).sup = s.sup ∧ (engineTaken e s).line =
    s.line ∧ (engineTaken e s).orders = s.orders ∧ (engineTaken e s).fuel = s.fuel ∧ (engineTaken e s).legs = s.legs ∧
    (engineTaken e s).store = s.store ∧ (engineTaken e s).ckpt = s.ckpt ∧ (engineTaken e s).ctl = s.ctl ∧ (engineTaken e s).clock
    = s.clock ∧ (engineTaken e s).settling = s.settling ∧ (engineTaken e s).readings = s.readings ∧ (engineTaken e s).pending =
    s.pending := by
  refine ⟨?_, ?_, ?_, ?_, ?_, ?_, ?_, ?_, ?_, ?_, ?_, ?_, ?_, ?_⟩ <;> unfold engineTaken <;> (try dsimp only) <;> repeat' first | (simp; done) | split

@[simp] theorem ownerEngine_frame (num idx : Nat) (old value : Int) (s : State) :
    (ownerEngine num idx old value s).sup = s.sup ∧ (ownerEngine num idx old value s).line = s.line ∧ (ownerEngine num idx old
    value s).orders = s.orders ∧ (ownerEngine num idx old value s).fuel = s.fuel ∧ (ownerEngine num idx old value s).legs = s.legs
    ∧ (ownerEngine num idx old value s).store = s.store ∧ (ownerEngine num idx old value s).ckpt = s.ckpt ∧ (ownerEngine num idx
    old value s).ctl = s.ctl ∧ (ownerEngine num idx old value s).clock = s.clock ∧ (ownerEngine num idx old value s).readings =
    s.readings ∧ (ownerEngine num idx old value s).pending = s.pending := by
  refine ⟨?_, ?_, ?_, ?_, ?_, ?_, ?_, ?_, ?_, ?_, ?_⟩ <;> unfold ownerEngine <;> (try dsimp only) <;> repeat' first | (simp; done) | split

@[simp] theorem rudderTaken_frame (was : Settings) (r : Fin 8) (s : State) :
    (rudderTaken was r s).port = s.port ∧ (rudderTaken was r s).prop = s.prop ∧ (rudderTaken was r s).chans = s.chans ∧
    (rudderTaken was r s).sup = s.sup ∧ (rudderTaken was r s).line = s.line ∧ (rudderTaken was r s).orders = s.orders ∧
    (rudderTaken was r s).fuel = s.fuel ∧ (rudderTaken was r s).legs = s.legs ∧ (rudderTaken was r s).store = s.store ∧
    (rudderTaken was r s).ckpt = s.ckpt ∧ (rudderTaken was r s).ctl = s.ctl ∧ (rudderTaken was r s).clock = s.clock ∧ (rudderTaken
    was r s).settling = s.settling ∧ (rudderTaken was r s).readings = s.readings ∧ (rudderTaken was r s).pending = s.pending := by
  refine ⟨?_, ?_, ?_, ?_, ?_, ?_, ?_, ?_, ?_, ?_, ?_, ?_, ?_, ?_, ?_⟩ <;> unfold rudderTaken <;> (try dsimp only) <;> repeat' first | (simp; done) | split

@[simp] theorem ownerSteering_frame (was : Settings) (num : Nat) (s : State) :
    (ownerSteering was num s).prop = s.prop ∧ (ownerSteering was num s).chans = s.chans ∧ (ownerSteering was num s).sup = s.sup ∧
    (ownerSteering was num s).line = s.line ∧ (ownerSteering was num s).orders = s.orders ∧ (ownerSteering was num s).fuel =
    s.fuel ∧ (ownerSteering was num s).legs = s.legs ∧ (ownerSteering was num s).store = s.store ∧ (ownerSteering was num s).ckpt
    = s.ckpt ∧ (ownerSteering was num s).ctl = s.ctl ∧ (ownerSteering was num s).clock = s.clock ∧ (ownerSteering was num
    s).settling = s.settling ∧ (ownerSteering was num s).readings = s.readings ∧ (ownerSteering was num s).pending = s.pending := by
  refine ⟨?_, ?_, ?_, ?_, ?_, ?_, ?_, ?_, ?_, ?_, ?_, ?_, ?_, ?_⟩ <;> unfold ownerSteering <;> (try dsimp only) <;> repeat' first | (simp; done) | split

@[simp] theorem takeClass_frame (s : State) :
    (takeClass s).port = s.port ∧ (takeClass s).prop = s.prop ∧ (takeClass s).chans = s.chans ∧ (takeClass s).steer = s.steer ∧
    (takeClass s).line = s.line ∧ (takeClass s).orders = s.orders ∧ (takeClass s).fuel = s.fuel ∧ (takeClass s).legs = s.legs ∧
    (takeClass s).store = s.store ∧ (takeClass s).ckpt = s.ckpt ∧ (takeClass s).ctl = s.ctl ∧ (takeClass s).clock = s.clock ∧
    (takeClass s).settling = s.settling ∧ (takeClass s).readings = s.readings ∧ (takeClass s).pending = s.pending := by
  refine ⟨?_, ?_, ?_, ?_, ?_, ?_, ?_, ?_, ?_, ?_, ?_, ?_, ?_, ?_, ?_⟩ <;> unfold takeClass <;> (try dsimp only) <;> repeat' first | (simp; done) | split

@[simp] theorem ownerCoupling_frame (num : Nat) (s : State) :
    (ownerCoupling num s).line = s.line ∧ (ownerCoupling num s).orders = s.orders ∧ (ownerCoupling num s).fuel = s.fuel ∧
    (ownerCoupling num s).legs = s.legs ∧ (ownerCoupling num s).store = s.store ∧ (ownerCoupling num s).ckpt = s.ckpt ∧
    (ownerCoupling num s).ctl = s.ctl ∧ (ownerCoupling num s).clock = s.clock ∧ (ownerCoupling num s).readings = s.readings ∧
    (ownerCoupling num s).pending = s.pending := by
  refine ⟨?_, ?_, ?_, ?_, ?_, ?_, ?_, ?_, ?_, ?_⟩ <;> unfold ownerCoupling <;> (try dsimp only) <;> repeat' first | (simp; done) | split

@[simp] theorem tankTaken_frame (k : Fin 8) (s : State) :
    (tankTaken k s).prop = s.prop ∧ (tankTaken k s).chans = s.chans ∧ (tankTaken k s).steer = s.steer ∧ (tankTaken k s).sup =
    s.sup ∧ (tankTaken k s).line = s.line ∧ (tankTaken k s).orders = s.orders ∧ (tankTaken k s).store = s.store ∧ (tankTaken k
    s).ckpt = s.ckpt ∧ (tankTaken k s).ctl = s.ctl ∧ (tankTaken k s).clock = s.clock ∧ (tankTaken k s).settling = s.settling ∧
    (tankTaken k s).readings = s.readings ∧ (tankTaken k s).pending = s.pending := by
  refine ⟨?_, ?_, ?_, ?_, ?_, ?_, ?_, ?_, ?_, ?_, ?_, ?_, ?_⟩ <;> unfold tankTaken <;> (try dsimp only) <;> repeat' first | (simp; done) | split

@[simp] theorem ownerFuel_frame (num idx : Nat) (old value : Int) (s : State) :
    (ownerFuel num idx old value s).sup = s.sup ∧ (ownerFuel num idx old value s).line = s.line ∧ (ownerFuel num idx old value
    s).orders = s.orders ∧ (ownerFuel num idx old value s).store = s.store ∧ (ownerFuel num idx old value s).ckpt = s.ckpt ∧
    (ownerFuel num idx old value s).ctl = s.ctl ∧ (ownerFuel num idx old value s).clock = s.clock ∧ (ownerFuel num idx old value
    s).readings = s.readings ∧ (ownerFuel num idx old value s).pending = s.pending := by
  refine ⟨?_, ?_, ?_, ?_, ?_, ?_, ?_, ?_, ?_⟩ <;> unfold ownerFuel <;> (try dsimp only) <;> repeat' first | (simp; done) | split

@[simp] theorem ownerActs_frame (c : Sec) (num idx : Nat) (old value : Int) (was : Settings) (s : State) :
    (ownerActs c num idx old value was s).line = s.line ∧ (ownerActs c num idx old value was s).orders = s.orders ∧ (ownerActs c
    num idx old value was s).store = s.store ∧ (ownerActs c num idx old value was s).ckpt = s.ckpt ∧ (ownerActs c num idx old
    value was s).ctl = s.ctl ∧ (ownerActs c num idx old value was s).clock = s.clock ∧ (ownerActs c num idx old value was
    s).readings = s.readings ∧ (ownerActs c num idx old value was s).pending = s.pending := by
  refine ⟨?_, ?_, ?_, ?_, ?_, ?_, ?_, ?_⟩ <;> unfold ownerActs <;> (try dsimp only) <;> repeat' first | (simp; done) | split

@[simp] theorem storeValue_frame (c : Sec) (num idx : Nat) (value : Int) (s : State) :
    (storeValue c num idx value s).port = s.port ∧ (storeValue c num idx value s).prop = s.prop ∧ (storeValue c num idx value
    s).chans = s.chans ∧ (storeValue c num idx value s).steer = s.steer ∧ (storeValue c num idx value s).sup = s.sup ∧ (storeValue
    c num idx value s).line = s.line ∧ (storeValue c num idx value s).orders = s.orders ∧ (storeValue c num idx value s).fuel =
    s.fuel ∧ (storeValue c num idx value s).legs = s.legs ∧ (storeValue c num idx value s).ckpt = s.ckpt ∧ (storeValue c num idx
    value s).ctl = s.ctl ∧ (storeValue c num idx value s).clock = s.clock ∧ (storeValue c num idx value s).settling = s.settling ∧
    (storeValue c num idx value s).readings = s.readings ∧ (storeValue c num idx value s).pending = s.pending := by
  refine ⟨?_, ?_, ?_, ?_, ?_, ?_, ?_, ?_, ?_, ?_, ?_, ?_, ?_, ?_, ?_⟩ <;> unfold storeValue <;> (try dsimp only) <;> repeat' first | (simp; done) | split

@[simp] theorem savedReport_frame (j : SaveJob) (differs : PerSection Bool) (s : State) :
    (savedReport j differs s).prop = s.prop ∧ (savedReport j differs s).chans = s.chans ∧ (savedReport j differs s).steer =
    s.steer ∧ (savedReport j differs s).sup = s.sup ∧ (savedReport j differs s).line = s.line ∧ (savedReport j differs s).orders =
    s.orders ∧ (savedReport j differs s).fuel = s.fuel ∧ (savedReport j differs s).legs = s.legs ∧ (savedReport j differs s).store
    = s.store ∧ (savedReport j differs s).ckpt = s.ckpt ∧ (savedReport j differs s).ctl = s.ctl ∧ (savedReport j differs s).clock
    = s.clock ∧ (savedReport j differs s).settling = s.settling ∧ (savedReport j differs s).readings = s.readings ∧ (savedReport j
    differs s).pending = s.pending := by
  refine ⟨?_, ?_, ?_, ?_, ?_, ?_, ?_, ?_, ?_, ?_, ?_, ?_, ?_, ?_, ?_⟩ <;> unfold savedReport <;> (try dsimp only) <;> repeat' first | (simp; done) | split

@[simp] theorem saveSection_frame (j : SaveJob) (differs : PerSection Bool) (c : Sec) (s : State) :
    (saveSection j differs c s).port = s.port ∧ (saveSection j differs c s).prop = s.prop ∧ (saveSection j differs c s).chans =
    s.chans ∧ (saveSection j differs c s).steer = s.steer ∧ (saveSection j differs c s).sup = s.sup ∧ (saveSection j differs c
    s).line = s.line ∧ (saveSection j differs c s).orders = s.orders ∧ (saveSection j differs c s).fuel = s.fuel ∧ (saveSection j
    differs c s).legs = s.legs ∧ (saveSection j differs c s).ckpt = s.ckpt ∧ (saveSection j differs c s).ctl = s.ctl ∧
    (saveSection j differs c s).clock = s.clock ∧ (saveSection j differs c s).settling = s.settling ∧ (saveSection j differs c
    s).readings = s.readings ∧ (saveSection j differs c s).pending = s.pending := by
  refine ⟨?_, ?_, ?_, ?_, ?_, ?_, ?_, ?_, ?_, ?_, ?_, ?_, ?_, ?_, ?_⟩ <;> unfold saveSection <;> (try dsimp only) <;> repeat' first | (simp; done) | split

@[simp] theorem saveComplete_frame (differs : PerSection Bool) (s : State) :
    (saveComplete differs s).prop = s.prop ∧ (saveComplete differs s).chans = s.chans ∧ (saveComplete differs s).steer = s.steer ∧
    (saveComplete differs s).sup = s.sup ∧ (saveComplete differs s).line = s.line ∧ (saveComplete differs s).orders = s.orders ∧
    (saveComplete differs s).fuel = s.fuel ∧ (saveComplete differs s).legs = s.legs ∧ (saveComplete differs s).ckpt = s.ckpt ∧
    (saveComplete differs s).ctl = s.ctl ∧ (saveComplete differs s).clock = s.clock ∧ (saveComplete differs s).settling =
    s.settling ∧ (saveComplete differs s).readings = s.readings ∧ (saveComplete differs s).pending = s.pending := by
  refine ⟨?_, ?_, ?_, ?_, ?_, ?_, ?_, ?_, ?_, ?_, ?_, ?_, ?_, ?_⟩ <;> unfold saveComplete <;> (try dsimp only) <;> repeat' first | (simp; done) | split

@[simp] theorem checkpointPeriodExpiry_frame (s : State) :
    (checkpointPeriodExpiry s).line = s.line ∧ (checkpointPeriodExpiry s).fuel = s.fuel ∧ (checkpointPeriodExpiry s).store =
    s.store ∧ (checkpointPeriodExpiry s).ctl = s.ctl ∧ (checkpointPeriodExpiry s).clock = s.clock ∧ (checkpointPeriodExpiry
    s).readings = s.readings ∧ (checkpointPeriodExpiry s).pending = s.pending := by
  refine ⟨?_, ?_, ?_, ?_, ?_, ?_, ?_⟩ <;> unfold checkpointPeriodExpiry <;> (try dsimp only) <;> repeat' first | (simp; done) | split

@[simp] theorem startDue_frame (s : State) :
    (startDue s).port = s.port ∧ (startDue s).prop = s.prop ∧ (startDue s).chans = s.chans ∧ (startDue s).steer = s.steer ∧
    (startDue s).sup = s.sup ∧ (startDue s).line = s.line ∧ (startDue s).orders = s.orders ∧ (startDue s).fuel = s.fuel ∧
    (startDue s).legs = s.legs ∧ (startDue s).store = s.store ∧ (startDue s).ctl = s.ctl ∧ (startDue s).clock = s.clock ∧
    (startDue s).settling = s.settling ∧ (startDue s).readings = s.readings ∧ (startDue s).pending = s.pending := by
  refine ⟨?_, ?_, ?_, ?_, ?_, ?_, ?_, ?_, ?_, ?_, ?_, ?_, ?_, ?_, ?_⟩ <;> unfold startDue <;> (try dsimp only) <;> repeat' first | (simp; done) | split

@[simp] theorem setStage_frame (r : RestartStage) (s : State) :
    (setStage r s).port = s.port ∧ (setStage r s).prop = s.prop ∧ (setStage r s).chans = s.chans ∧ (setStage r s).steer = s.steer
    ∧ (setStage r s).sup = s.sup ∧ (setStage r s).line = s.line ∧ (setStage r s).orders = s.orders ∧ (setStage r s).fuel = s.fuel
    ∧ (setStage r s).legs = s.legs ∧ (setStage r s).store = s.store ∧ (setStage r s).ckpt = s.ckpt ∧ (setStage r s).clock =
    s.clock ∧ (setStage r s).settling = s.settling ∧ (setStage r s).readings = s.readings ∧ (setStage r s).pending = s.pending := by
  refine ⟨?_, ?_, ?_, ?_, ?_, ?_, ?_, ?_, ?_, ?_, ?_, ?_, ?_, ?_, ?_⟩ <;> unfold setStage <;> (try dsimp only) <;> repeat' first | (simp; done) | split

@[simp] theorem checkpointWriteComplete_frame (s : State) :
    (checkpointWriteComplete s).port = s.port ∧ (checkpointWriteComplete s).prop = s.prop ∧ (checkpointWriteComplete s).chans =
    s.chans ∧ (checkpointWriteComplete s).steer = s.steer ∧ (checkpointWriteComplete s).sup = s.sup ∧ (checkpointWriteComplete
    s).line = s.line ∧ (checkpointWriteComplete s).orders = s.orders ∧ (checkpointWriteComplete s).fuel = s.fuel ∧
    (checkpointWriteComplete s).legs = s.legs ∧ (checkpointWriteComplete s).store = s.store ∧ (checkpointWriteComplete s).clock =
    s.clock ∧ (checkpointWriteComplete s).settling = s.settling ∧ (checkpointWriteComplete s).readings = s.readings ∧
    (checkpointWriteComplete s).pending = s.pending := by
  refine ⟨?_, ?_, ?_, ?_, ?_, ?_, ?_, ?_, ?_, ?_, ?_, ?_, ?_, ?_⟩ <;> unfold checkpointWriteComplete <;> (try dsimp only) <;> repeat' first | (simp; done) | split

@[simp] theorem comeDown_frame (cause : StartCause) (s : State) :
    (comeDown cause s).port = s.port ∧ (comeDown cause s).prop = s.prop ∧ (comeDown cause s).chans = s.chans ∧ (comeDown cause
    s).steer = s.steer ∧ (comeDown cause s).sup = s.sup ∧ (comeDown cause s).line = s.line ∧ (comeDown cause s).orders = s.orders
    ∧ (comeDown cause s).fuel = s.fuel ∧ (comeDown cause s).legs = s.legs ∧ (comeDown cause s).store = s.store ∧ (comeDown cause
    s).ckpt = s.ckpt ∧ (comeDown cause s).clock = s.clock ∧ (comeDown cause s).settling = s.settling ∧ (comeDown cause s).readings
    = s.readings ∧ (comeDown cause s).pending = s.pending := by
  refine ⟨?_, ?_, ?_, ?_, ?_, ?_, ?_, ?_, ?_, ?_, ?_, ?_, ?_, ?_, ?_⟩ <;> unfold comeDown <;> (try dsimp only) <;> repeat' first | (simp; done) | split

@[simp] theorem clearFlags_frame (s : State) :
    (clearFlags s).prop = s.prop ∧ (clearFlags s).chans = s.chans ∧ (clearFlags s).steer = s.steer ∧ (clearFlags s).sup = s.sup ∧
    (clearFlags s).line = s.line ∧ (clearFlags s).orders = s.orders ∧ (clearFlags s).fuel = s.fuel ∧ (clearFlags s).legs = s.legs
    ∧ (clearFlags s).store = s.store ∧ (clearFlags s).ckpt = s.ckpt ∧ (clearFlags s).ctl = s.ctl ∧ (clearFlags s).clock = s.clock
    ∧ (clearFlags s).settling = s.settling ∧ (clearFlags s).readings = s.readings ∧ (clearFlags s).pending = s.pending := by
  refine ⟨?_, ?_, ?_, ?_, ?_, ?_, ?_, ?_, ?_, ?_, ?_, ?_, ?_, ?_, ?_⟩ <;> unfold clearFlags <;> (try dsimp only) <;> repeat' first | (simp; done) | split

@[simp] theorem dropFrame_frame (s : State) :
    (dropFrame s).prop = s.prop ∧ (dropFrame s).chans = s.chans ∧ (dropFrame s).steer = s.steer ∧ (dropFrame s).sup = s.sup ∧
    (dropFrame s).line = s.line ∧ (dropFrame s).orders = s.orders ∧ (dropFrame s).fuel = s.fuel ∧ (dropFrame s).legs = s.legs ∧
    (dropFrame s).store = s.store ∧ (dropFrame s).ckpt = s.ckpt ∧ (dropFrame s).ctl = s.ctl ∧ (dropFrame s).clock = s.clock ∧
    (dropFrame s).settling = s.settling ∧ (dropFrame s).readings = s.readings ∧ (dropFrame s).pending = s.pending := by
  refine ⟨?_, ?_, ?_, ?_, ?_, ?_, ?_, ?_, ?_, ?_, ?_, ?_, ?_, ?_, ?_⟩ <;> unfold dropFrame <;> (try dsimp only) <;> repeat' first | (simp; done) | split

@[simp] theorem receive_frame (bytes : List Byte) (s : State) :
    (receive bytes s).prop = s.prop ∧ (receive bytes s).chans = s.chans ∧ (receive bytes s).steer = s.steer ∧ (receive bytes
    s).sup = s.sup ∧ (receive bytes s).line = s.line ∧ (receive bytes s).orders = s.orders ∧ (receive bytes s).fuel = s.fuel
    ∧ (receive bytes s).legs = s.legs ∧ (receive bytes s).store = s.store ∧ (receive bytes s).ckpt = s.ckpt ∧ (receive bytes
    s).ctl = s.ctl ∧ (receive bytes s).clock = s.clock ∧ (receive bytes s).settling = s.settling ∧ (receive bytes
    s).readings = s.readings ∧ (receive bytes s).pending = s.pending := by
  refine ⟨?_, ?_, ?_, ?_, ?_, ?_, ?_, ?_, ?_, ?_, ?_, ?_, ?_, ?_, ?_⟩ <;> unfold receive <;> (try dsimp only) <;> repeat' first | (simp; done) | split

@[simp] theorem dropReceiving_frame (s : State) :
    (dropReceiving s).prop = s.prop ∧ (dropReceiving s).chans = s.chans ∧ (dropReceiving s).steer = s.steer ∧ (dropReceiving
    s).sup = s.sup ∧ (dropReceiving s).line = s.line ∧ (dropReceiving s).orders = s.orders ∧ (dropReceiving s).fuel = s.fuel
    ∧ (dropReceiving s).legs = s.legs ∧ (dropReceiving s).store = s.store ∧ (dropReceiving s).ckpt = s.ckpt ∧ (dropReceiving
    s).ctl = s.ctl ∧ (dropReceiving s).clock = s.clock ∧ (dropReceiving s).settling = s.settling ∧ (dropReceiving
    s).readings = s.readings ∧ (dropReceiving s).pending = s.pending := by
  refine ⟨?_, ?_, ?_, ?_, ?_, ?_, ?_, ?_, ?_, ?_, ?_, ?_, ?_, ?_, ?_⟩ <;> unfold dropReceiving <;> (try dsimp only) <;> repeat' first | (simp; done) | split

@[simp] theorem bridgeByteFault_frame (s : State) :
    (bridgeByteFault s).prop = s.prop ∧ (bridgeByteFault s).chans = s.chans ∧ (bridgeByteFault s).steer = s.steer ∧
    (bridgeByteFault s).sup = s.sup ∧ (bridgeByteFault s).line = s.line ∧ (bridgeByteFault s).orders = s.orders ∧ (bridgeByteFault
    s).fuel = s.fuel ∧ (bridgeByteFault s).legs = s.legs ∧ (bridgeByteFault s).store = s.store ∧ (bridgeByteFault s).ckpt = s.ckpt
    ∧ (bridgeByteFault s).ctl = s.ctl ∧ (bridgeByteFault s).clock = s.clock ∧ (bridgeByteFault s).settling = s.settling ∧
    (bridgeByteFault s).readings = s.readings ∧ (bridgeByteFault s).pending = s.pending := by
  refine ⟨?_, ?_, ?_, ?_, ?_, ?_, ?_, ?_, ?_, ?_, ?_, ?_, ?_, ?_, ?_⟩ <;> unfold bridgeByteFault <;> (try dsimp only) <;> repeat' first | (simp; done) | split

end Sys2Proof.Machine
end

