-- ==== Sys2Proof/Laws/Ops.lean ====
section
/-! SUPPORT. What the shared operations do, said once: the guard of a command, the answer of a request, a step over a list, the
field encodings, and reading a record after it was written. -/

namespace Sys2Proof.Machine

/-! ### Commands and requests -/

theorem whenUp_of_up {s : State} (h : s.up = true) (f : State → State) : whenUp s f = .next (f s) := by simp [whenUp, h]

theorem whenUp_of_down {s : State} (h : s.up = false) (f : State → State) : whenUp s f = .next s := by simp [whenUp, h]

/-- Every guarded command ends in a next state. -/
theorem whenUp_next (s : State) (f : State → State) : ∃ t, whenUp s f = .next t := ⟨_, rfl⟩

/-- R174: a request of a running part is its owner's new state with the owner's answer. -/
theorem answerRequest_of_up {s : State} (h : s.up = true) (owner : State → State × Answer) :
    answerRequest s owner = .next ((owner s).1.onPort fun p => { p with answer := some (owner s).2 }) := by
  simp [answerRequest, whenUp, h]

theorem answerRequest_of_down {s : State} (h : s.up = false) (owner : State → State × Answer) :
    answerRequest s owner = .next s := by
  simp [answerRequest, whenUp, h]

/-- R174: a refused request changes nothing at its owner. -/
@[simp] theorem refuse_state (s : State) (c : Status) : (refuse s c).1 = s := rfl

@[simp] theorem refuse_answer (s : State) (c : Status) : (refuse s c).2 = ⟨c, []⟩ := rfl

/-! ### Steps over a list -/

@[simp] theorem forAll_nil {α : Type} (f : α → State → State) (s : State) : forAll [] f s = s := rfl

@[simp] theorem forAll_cons {α : Type} (a : α) (l : List α) (f : α → State → State) (s : State) :
    forAll (a :: l) f s = forAll l f (f a s) := rfl

/-- A property that every step of a list keeps holds after them all. -/
theorem forAll_induct {α : Type} {P : State → Prop} (l : List α) (f : α → State → State) (s : State)
    (step : ∀ a ∈ l, ∀ t, P t → P (f a t)) (base : P s) : P (forAll l f s) := by
  induction l generalizing s with
  | nil => exact base
  | cons a l ih =>
    exact ih (f a s) (fun b hb t ht => step b (List.mem_cons_of_mem a hb) t ht) (step a List.mem_cons_self s base)

/-! ### Figures -/

theorem clamp_le {lo hi : Int} (h : lo ≤ hi) (x : Int) : lo ≤ clamp lo hi x ∧ clamp lo hi x ≤ hi := by
  unfold clamp; split <;> [skip; split] <;> omega

/-- A value inside the range is not moved. -/
theorem clamp_of_mem {lo hi x : Int} (h : lo ≤ x) (h' : x ≤ hi) : clamp lo hi x = x := by
  unfold clamp; split <;> [skip; split] <;> omega

theorem clamp_eq_max_min {lo hi : Int} (h : lo ≤ hi) (x : Int) : clamp lo hi x = max lo (min hi x) := by
  unfold clamp; split <;> [skip; split] <;> omega

/-- R70: a step toward a goal stays between where it was and the goal. -/
theorem approach_between {lo hi x goal up down : Int} (hx : lo ≤ x ∧ x ≤ hi) (hg : lo ≤ goal ∧ goal ≤ hi) (hu : 0 ≤ up)
    (hd : 0 ≤ down) : lo ≤ approach x goal up down ∧ approach x goal up down ≤ hi := by
  unfold approach; split <;> [skip; split] <;> omega

/-- R1: half up lies within half of the exact quotient. -/
theorem roundHalfUp_bounds {a b : Int} (hb : 0 < b) :
    2 * b * roundHalfUp a b ≤ 2 * a + b ∧ 2 * a + b < 2 * b * roundHalfUp a b + 2 * b := by
  have h1 := Int.mul_ediv_add_emod (2 * a + b) (2 * b)
  have h2 := Int.emod_nonneg (2 * a + b) (show 2 * b ≠ 0 by omega)
  have h3 := Int.emod_lt_of_pos (2 * a + b) (show 0 < 2 * b by omega)
  unfold roundHalfUp
  constructor <;> omega

@[simp] theorem bytesOf_length (n v : Nat) : (bytesOf n v).length = n := by
  induction n generalizing v with
  | zero => rfl
  | succ n ih => simp [bytesOf, ih]

@[simp] theorem unsigned_length (n v : Nat) : (unsigned n v).length = n := by unfold unsigned; split <;> simp

@[simp] theorem signed_length (n : Nat) (v : Int) : (signed n v).length = n := by unfold signed; split <;> simp

@[simp] theorem yesNo_length (b : Bool) : (yesNo b).length = 1 := rfl

/-! ### Reading after writing -/

@[simp] theorem onChan_same (s : State) (e : Fin 4) (f : Channel → Channel) : (s.onChan e f).chans[e] = f s.chans[e] := by
  simp [State.onChan]

theorem onChan_other (s : State) {e d : Fin 4} (f : Channel → Channel) (h : d ≠ e) :
    (s.onChan e f).chans[d] = s.chans[d] := by
  simp [State.onChan, Fin.val_inj, Ne.symm h]

@[simp] theorem onRudder_same (s : State) (r : Fin 8) (f : Rudder → Rudder) :
    (s.onRudder r f).steer.rudders[r] = f s.steer.rudders[r] := by
  simp [State.onRudder, State.onSteer]

theorem onRudder_other (s : State) {r q : Fin 8} (f : Rudder → Rudder) (h : q ≠ r) :
    (s.onRudder r f).steer.rudders[q] = s.steer.rudders[q] := by
  simp [State.onRudder, State.onSteer, Fin.val_inj, Ne.symm h]

@[simp] theorem onTank_same (s : State) (k : Fin 8) (f : Tank → Tank) : (s.onTank k f).fuel.tanks[k] = f s.fuel.tanks[k] := by
  simp [State.onTank, State.onFuel]

theorem onTank_other (s : State) {k j : Fin 8} (f : Tank → Tank) (h : j ≠ k) :
    (s.onTank k f).fuel.tanks[j] = s.fuel.tanks[j] := by
  simp [State.onTank, State.onFuel, Fin.val_inj, Ne.symm h]

@[simp] theorem setSlot_same (s : State) (i : Fin 16) (o : Option Order) : (s.setSlot i o).orders.slots[i] = o := by
  simp [State.setSlot, State.onOrders]

theorem setSlot_other (s : State) {i j : Fin 16} (o : Option Order) (h : j ≠ i) :
    (s.setSlot i o).orders.slots[j] = s.orders.slots[j] := by
  simp [State.setSlot, State.onOrders, Fin.val_inj, Ne.symm h]

/-- A keyed record is found after an update that keeps the keys. -/
theorem find_map_key {α : Type} (key : α → Nat) (f : α → α) (n m : Nat) (hk : ∀ a, key (f a) = key a) (l : List α) :
    (l.map fun a => if key a = n then f a else a).find? (key · == m) =
      (l.find? (key · == m)).map fun a => if m = n then f a else a := by
  induction l with
  | nil => rfl
  | cons a l ih =>
    by_cases han : key a = n <;> by_cases ham : key a = m
    · subst han; subst ham; simp [hk]
    · subst han; simp [hk, ham, ih]
    · subst ham; simp [han]
    · simp [han, ham, ih]

/-- R7: the record of a number after the record of a number was changed. -/
theorem coupling?_onCoupling (s : State) (n m : Nat) (f : Coupling → Coupling) (hf : ∀ c, (f c).number = c.number) :
    (s.onCoupling n f).coupling? m = (s.coupling? m).map fun c => if m = n then f c else c :=
  find_map_key Coupling.number f n m hf s.sup.couplings

/-- R39: the record of a serial after the record of a serial was changed. -/
theorem node?_onNode (s : State) (n m : Nat) (f : Node → Node) (hf : ∀ d, (f d).serial = d.serial) :
    (s.onNode n f).node? m = (s.node? m).map fun d => if m = n then f d else d :=
  find_map_key Node.serial f n m hf s.line.nodes

end Sys2Proof.Machine
end

