-- ==== Sys2Proof/Laws/Invariants.lean ====
section
/-! SUPPORT. The invariants of Safety.lean in forms that can be evaluated on a concrete state. -/

namespace Sys2Proof.Machine

/-- Two slots hold no tag, coupling or tank in common (R158). -/
def slotsApart : Option Order → Option Order → Bool
  | some o, some p =>
      o.tag != p.tag && (o.work.coupling?.isNone || o.work.coupling? != p.work.coupling?) &&
        o.work.tanks.all fun k => !p.work.tanks.contains k
  | _, _ => true

/-- The coupling an order of a slot names is in the table (R157). -/
def State.slotNamed (s : State) : Option Order → Bool
  | some o => match o.work.coupling? with
    | some n => (s.coupling? n).isSome
    | none => true
  | none => true

/-- The resource an order of a slot holds or waits for is that of its kind (R160). -/
def slotNeeds : Option Order → Bool
  | some o => match o.work, o.resource with
    | .haul _, r => r == none || r == some .facePool
    | .release _ _ _, r => r == none || r == some .facePool
    | .transfer _, r => r == some .pump
    | .bunker _, r => r == some .bunkerMeter
  | none => true

/-- `slotNeeds` says what `Work.needs` says. -/
theorem needs_of_slotNeeds {o : Order} (h : slotNeeds (some o) = true) : o.work.needs o.resource := by
  simp only [slotNeeds] at h
  cases hw : o.work <;> rw [hw] at h <;> simpa [Work.needs] using h

/-- The order invariant, from its slots two by two. -/
theorem ordersOk_of_slots (s : State)
    (apart : ∀ i j : Fin 16, i ≠ j → slotsApart s.orders.slots[i] s.orders.slots[j] = true)
    (named : ∀ i : Fin 16, s.slotNamed s.orders.slots[i] = true)
    (needed : ∀ i : Fin 16, slotNeeds s.orders.slots[i] = true) : OrdersOk s := by
  refine ⟨?_, ?_, fun i o ho => needs_of_slotNeeds (ho ▸ needed i)⟩
  · intro i j o p ho hp hij
    have h := apart i j hij
    rw [ho, hp] at h
    simp only [slotsApart, Bool.and_eq_true, bne_iff_ne, Bool.or_eq_true, Option.isNone_iff_eq_none, List.all_eq_true,
      Bool.not_eq_true', List.contains_eq_mem, decide_eq_false_iff_not] at h
    refine ⟨h.1.1, fun c hc hd => ?_, h.2⟩
    rcases h.1.2 with h' | h'
    · rw [h'] at hc; cases hc
    · exact h' (hc.trans hd.symm)
  · intro i o n ho hn
    have h := named i
    rw [ho] at h
    simpa [State.slotNamed, hn] using h

/-- R170: with no live order the order invariant holds. -/
theorem ordersOk_of_empty (s : State) (h : ∀ i : Fin 16, s.orders.slots[i] = none) : OrdersOk s :=
  ordersOk_of_slots s (fun i j _ => by rw [h i]; rfl) (fun i => by rw [h i]; rfl) (fun i => by rw [h i]; rfl)

/-- Two tables in order, from their parts. -/
theorem makeupOk_nil : MakeupOk [] [] [] := by simp [MakeupOk]

end Sys2Proof.Machine
end

