-- ==== Sys2Proof/Laws/Receiver.lean ====
section
/-! SUPPORT. The receiver of the Bridge Link (R172): what whole frames, bytes outside a frame and faults do. -/

namespace Sys2Proof.Machine

/-- What the receiver holds last is what it holds. -/
theorem receive_receive (a b : List Byte) (s : State) : receive a (receive b s) = receive a s := rfl

/-- What the receiver holds already changes nothing. -/
theorem receive_self (a : List Byte) (s : State) (h : s.port.receiving = a) : receive a s = s := by
  subst h; rfl

/-- A fault while hunting changes nothing. -/
theorem dropReceiving_hunting (s : State) (h : s.port.receiving = []) : dropReceiving s = s := by
  simp [dropReceiving, h]

/-- A byte inside a frame makes the frame grow. -/
theorem receiveByte_open (b : Byte) (pre : List Byte) (s : State) (h : pre ≠ []) :
    receiveByte b (receive pre s) = frameGrows (pre ++ [b]) (receive pre s) := by
  simp [receiveByte, receive, State.onPort, h]

/-- While hunting, bytes other than 0xA5 are discarded. -/
theorem bridgeFrameReceived_junk (junk rest : List Byte) (s : State) (hs : s.port.receiving = [])
    (hj : ∀ b ∈ junk, b ≠ 0xA5#8) : bridgeFrameReceived (junk ++ rest) s = bridgeFrameReceived rest s := by
  induction junk with
  | nil => rfl
  | cons b bs ih =>
    have hb : b ≠ 0xA5#8 := hj b (by simp)
    have : receiveByte b s = s := by simp [receiveByte, hs, hb]
    simp only [bridgeFrameReceived, List.cons_append, forAll_cons, this] at ih ⊢
    exact ih fun x hx => hj x (by simp [hx])

/-- What `readRequestFrame` reads is a whole frame: the start byte, a length of at most 240, and six bytes beside the body. -/
theorem readRequestFrame_whole {bytes : List Byte} {f : Frame} (h : readRequestFrame bytes = some f) :
    ∃ len rest, bytes = 0xA5#8 :: len :: rest ∧ len.toNat ≤ Config.maxBody ∧ bytes.length = len.toNat + 6 := by
  unfold readRequestFrame at h
  split at h
  · rename_i st len kind mark rest
    dsimp only at h
    split at h
    · rename_i hc
      refine ⟨len, kind :: mark :: rest, by rw [hc.1], hc.2.1, ?_⟩
      simp only [List.length_cons]; omega
    · cases h
  · cases h

/-- The bytes of a good frame, taken one by one from some place inside it, end in the frame being taken. -/
theorem receive_rest {bytes : List Byte} {f : Frame} (h : readRequestFrame bytes = some f) (s : State) :
    ∀ (rest pre : List Byte), pre ++ rest = bytes → pre ≠ [] → rest ≠ [] →
      forAll rest receiveByte (receive pre s) = takeFrame f (receive [] s) := by
  obtain ⟨len, tail, hb, hmax, hlen⟩ := readRequestFrame_whole h
  intro rest
  induction rest with
  | nil => intro _ _ _ hne; exact absurd rfl hne
  | cons b bs ih =>
    intro pre hpre hne _
    rw [forAll_cons, receiveByte_open b pre s hne]
    obtain ⟨p, ps, rfl⟩ := List.exists_cons_of_ne_nil hne
    obtain ⟨mid, hmid⟩ : ∃ mid, (p :: ps) ++ [b] = p :: len :: mid := by
      rw [hb] at hpre
      cases ps with
      | nil => simp only [List.cons_append, List.nil_append, List.cons.injEq] at hpre; exact ⟨[], by simp [hpre.2.1]⟩
      | cons q qs => simp only [List.cons_append, List.cons.injEq] at hpre; exact ⟨qs ++ [b], by simp [hpre.2.1]⟩
    have hgrow : frameGrows ((p :: ps) ++ [b]) (receive (p :: ps) s) =
        if ((p :: ps) ++ [b]).length = len.toNat + 6 then frameComplete ((p :: ps) ++ [b]) (receive (p :: ps) s)
        else receive ((p :: ps) ++ [b]) (receive (p :: ps) s) := by
      rw [hmid]; simp only [frameGrows, if_neg (Nat.not_lt.mpr hmax)]
    rw [hgrow]
    cases bs with
    | nil =>
      rw [hpre, if_pos hlen]
      simp [frameComplete, h, receive_receive, forAll]
    | cons c cs =>
      have : ((p :: ps) ++ [b]).length ≠ len.toNat + 6 := by
        have := congrArg List.length hpre
        simp only [List.length_append, List.length_cons, List.length_nil] at *; omega
      rw [if_neg this, receive_receive]
      exact ih _ (by rw [← hpre]; simp) (by simp) (by simp)

/-- R172, R173: a good frame that comes whole while the receiver is hunting is taken. -/
theorem bridgeFrameReceived_whole {bytes : List Byte} {f : Frame} (s : State) (hs : s.port.receiving = [])
    (h : readRequestFrame bytes = some f) : bridgeFrameReceived bytes s = takeFrame f s := by
  obtain ⟨len, tail, hb, _, _⟩ := readRequestFrame_whole h
  have hfirst : receiveByte 0xA5#8 s = receive [0xA5#8] s := by simp [receiveByte, hs]
  have := receive_rest h s (len :: tail) [0xA5#8] (by rw [hb]; rfl) (by simp) (by simp)
  rw [bridgeFrameReceived, hb, forAll_cons, hfirst, this, receive_self [] s hs]

end Sys2Proof.Machine
end

