-- ==== Sys2Proof/Laws/Reports.lean ====
section
/-! SUPPORT. What queueing a report, a change of a coupling's state, and starting an order do: one lemma for each. -/

namespace Sys2Proof.Machine

/-! ### The Report Queue -/

/-- R176: everything a report changes: the queue, and REPORTS_LOST. -/
theorem report_eq (kind : ReportKind) (subject : Subject) (body : List Byte) (s : State) :
    report kind subject body s = { s with port := { s.port with
      queue := (enqueue ⟨kind, subject, s.clock, body⟩ s.port.queue).1,
      reportsLost := s.port.reportsLost || (enqueue ⟨kind, subject, s.clock, body⟩ s.port.queue).2 } } := rfl

@[simp] theorem replaceChange_length (r : Report) (q : List Report) : (replaceChange r q).length = q.length := by
  induction q with
  | nil => rfl
  | cons a q ih => simp only [replaceChange]; split <;> simp [ih]

/-- R176: a report is taken out where one of the class stands. -/
theorem dropOldest_length (c : Nat) (q : List Report) (h : ∃ r ∈ q, r.kind.cls = c) :
    (dropOldest c q).length + 1 = q.length := by
  induction q with
  | nil => simp at h
  | cons a q ih =>
    simp only [dropOldest]
    split
    · simp
    · rename_i ha
      obtain ⟨r, hr, hc⟩ := h
      rcases List.mem_cons.1 hr with rfl | hr
      · exact absurd hc ha
      · simpa using ih ⟨r, hr, hc⟩

/-! ### Couplings -/

@[simp] theorem couplingReport_coupling? (n m : Nat) (s : State) : (couplingReport n s).coupling? m = s.coupling? m := by
  simp [State.coupling?]

@[simp] theorem couplingAlarm_coupling? (c : Coupling) (st : CouplingState) (m : Nat) (s : State) :
    (couplingAlarm c st s).coupling? m = s.coupling? m := by
  simp [State.coupling?]

/-- R18: what a change of state does to the couplings: the named one takes the state and its flag where the state differs. -/
theorem setCouplingState_coupling? (n m : Nat) (st : CouplingState) (s : State) :
    (setCouplingState n st s).coupling? m =
      (s.coupling? m).map fun c => if m = n ∧ c.state ≠ st then { c with state := st, changed := true } else c := by
  unfold setCouplingState
  split
  · rename_i h
    by_cases hm : m = n
    · subst hm; simp [h]
    · simp [hm]
  · rename_i c h
    split
    · rename_i hc
      by_cases hm : m = n
      · subst hm; simp [h, hc]
      · simp [hm]
    · rename_i hc
      have key : ((couplingAlarm c st (couplingReport n (s.onCoupling n fun c => { c with state := st, changed := true }))).onSettling
          fun x => { x with analysis := true }).coupling? m =
          (s.onCoupling n fun c => { c with state := st, changed := true }).coupling? m := by
        simp [State.coupling?]
      rw [key, coupling?_onCoupling]
      · by_cases hm : m = n
        · subst hm; simp [h, hc]
        · simp [hm]
      · intro c; rfl

/-! ### Orders -/

/-- R164: the Order Table after an order has started. -/
theorem startOrder_orders (i : Fin 16) (s : State) (o : Order) (h : s.orders.slots[i] = some o) :
    (startOrder i s).orders = ({ s.orders with
      slots := s.orders.slots.set i (some { o with
        state := .active, waitTimer := none, workTimer := s.workTimer o.work }) }).setLast i o.resource := by
  unfold startOrder
  rw [h]
  simp [State.setSlot]

/-- R164: an empty slot starts nothing. -/
theorem startOrder_empty (i : Fin 16) (s : State) (h : s.orders.slots[i] = none) : startOrder i s = s := by
  unfold startOrder
  rw [h]

/-- R161: an arbiter with no free place starts nothing. -/
theorem grantScan_full (r : Resource) (s : State) (h : s.freePlaces r = 0) : grantScan r s = s := by
  simp [grantScan, h]

/-! ### The end of a command -/

/-- Log entry 8: a command that leaves nothing due ends as it is. -/
theorem settle_quiet (s : State) (ha : s.settling.analysis = false) (hr : s.settling.retest = false) : settle s = s := by
  have h : ∀ n, settleFor n s = s := by
    intro n
    induction n with
    | zero => rfl
    | succ n ih => simpa [settleFor, settleOnce, ha, hr] using ih
  exact h 40

/-- A command that leaves nothing due, and asks for no checkpoint write, ends as it is. -/
theorem finish_quiet (s : State) (ha : s.settling.analysis = false) (hr : s.settling.retest = false)
    (hc : s.settling.checkpoint = false) : finish s = s := by
  simp [finish, settle_quiet s ha hr, writeAsked, hc]

end Sys2Proof.Machine
end

