-- ==== Sys2Proof/WellFormed.lean ====
section
/-! DEFINITION. Which commands the outside can send: every field of a request fits its field on the wire (R196, R198), and
every sample of an event lies in its input's range (R59, R106). `exec` does not ask for it: a command that is not
well formed cannot be sent (log entry 6). -/

namespace Sys2Proof

/-- An unsigned field of `n` bytes (R196). -/
def fitsU (n v : Nat) : Bool := v < 256 ^ n

/-- A signed two's-complement field of `n` bytes (R196). -/
def fitsS (n : Nat) (v : Int) : Bool := -(2 ^ (8 * n - 1) : Int) ≤ v && v < (2 ^ (8 * n - 1) : Int)

/-- R196: a position is one byte, column in the high four bits and row in the low four. -/
def Pos.fits (p : Pos) : Bool := p.col < 16 && p.row < 16

/-- A coupling end is one byte: 0 for the pushboat, otherwise a position (R196). A position byte is therefore not 0. -/
def CouplingEnd.fits : CouplingEnd → Bool
  | .pushboat => true
  | .barge p => p.fits && !(p.col == 0 && p.row == 0)

/-- R198: the fields of each order kind fit in the POST_ORDER body. -/
def OrderSpec.fits : OrderSpec → Bool
  | .haul c => fitsU 1 c
  | .release c f => fitsU 1 c && fitsU 1 f
  | .transfer a b l => fitsU 1 a && fitsU 1 b && fitsU 4 l
  | .bunker t => fitsU 1 t
  | .malformed => true

/-- A raw analog sample is a 12-bit figure, 0..4095 (R59, R106). -/
def rawSample (v : Nat) : Bool := v < 4096

/-- A command the outside can send. -/
def Instr.wellFormed : Instr → Bool
  | .echo body => body.length ≤ 240
  | .readStatus n => fitsU 1 n
  | .fetchReports n => fitsU 1 n
  | .restart => true
  | .setLever v => fitsS 2 v
  | .setHelm v => fitsS 2 v
  | .setSteerMode m => fitsU 1 m
  | .setEngineModes k a b c d => fitsU 1 k && fitsU 1 a && fitsU 1 b && fitsU 1 c && fitsU 1 d
  | .setSync v => fitsU 1 v
  | .readPropulsion => true
  | .readEngine n => fitsU 1 n
  | .readSteering => true
  | .declareBarge p h l c b => p.fits && fitsU 4 h && fitsU 2 l && fitsU 2 c && b.all (fitsU 4)
  | .removeBarge p => p.fits
  | .declareCoupling n a b s c w t =>
      fitsU 1 n && a.fits && b.fits && fitsU 4 s && fitsU 1 c && fitsU 1 w && fitsU 1 t
  | .withdrawCoupling n => fitsU 1 n
  | .readBarge p => p.fits
  | .readCoupling n => fitsU 1 n
  | .listMakeup => true
  | .readNode s => fitsU 4 s
  | .listNodes a => fitsU 1 a
  | .forgetNode s => fitsU 4 s
  | .postOrder t o => fitsU 2 t && o.fits
  | .abortOrder t => fitsU 2 t
  | .listOrders i => fitsU 1 i
  | .setSounding t l => fitsU 1 t && fitsU 4 l
  | .readTank t => fitsU 1 t
  | .readMeters p => fitsU 1 p
  | .closeLeg n => fitsU 4 n
  | .readLeg n => fitsU 4 n
  | .releaseLeg n => fitsU 4 n
  | .setVoyageClock v => fitsU 4 v
  | .writeSetting a b c v => fitsU 1 a && fitsU 1 b && fitsU 1 c && fitsS 4 v
  | .readSetting a b c => fitsU 1 a && fitsU 1 b && fitsU 1 c
  | .saveSettings c => fitsU 1 c.engine && fitsU 1 c.steering && fitsU 1 c.coupling && fitsU 1 c.fuel && fitsU 1 c.backup
  | .bridgeFrameReceived bs => !bs.isEmpty
  | .bridgeByteGap => true
  | .replySent => true
  | .powerOn => true
  | .supplyDip => true
  | .resetLineAsserted => true
  | .resetLineReleased => true
  | .start i => i.sectionsWritten ≤ 5
  | .saveComplete _ => true
  | .checkpointPeriodExpiry => true
  | .checkpointWriteComplete => true
  | .voyageClockTick => true
  | .controlPeriodExpiry _ l h => rawSample l && rawSample h
  | .silenceLimitExpiry => true
  | .holdTimeExpiry => true
  | .syncPeriodExpiry => true
  | .governorPeriodEnd _ => true
  | .shaftPulse _ _ => true
  | .shaftWindowExpiry _ => true
  | .inputFilterExpiry _ _ => true
  | .engageConfirmExpiry _ => true
  | .neutralDwellExpiry _ => true
  | .dwellTimeoutExpiry _ => true
  | .wrongWayExpiry _ => true
  | .followExpiry _ => true
  | .steeringControlPeriod v => v.toList.all rawSample
  | .turnaroundExpiry => true
  | .masterFrameSent => true
  | .echoFailure => true
  | .faultRecoveryExpiry => true
  | .downRetryExpiry => true
  | .rejoinTimerExpiry s => fitsU 4 s
  | .replyWindowExpiry => true
  | .bargeFrameReceived cs _ => 5 ≤ cs.length && cs.length ≤ 48
  | .bargeFrameSilence => true
  | .haulTimerExpiry n => 1 ≤ n && n ≤ 32
  | .releaseTimerExpiry n => 1 ≤ n && n ≤ 32
  | .releaseWaitExpiry t => 1 ≤ t && fitsU 2 t
  | .meterPulse _ => true
  | .accountingIntervalExpiry v => v.toList.all (fun r => r.all (fitsS 2))
  | .logPulse => true
  | .engineInputChange _ _ _ => true
  | .bridgeByteFault => true
  | .bargeReplyStart => true

end Sys2Proof
end

