-- ==== Sys2Proof/Tests/Slice0.lean ====
section
/-! SUPPORT. Tests: ill-formed commands that WellFormed refuses, single steps with figures from the manual's worked cases and tables,
and for each statement with hypotheses a state and operands that meet them. -/

open Sys2Proof Sys2Proof.Machine

namespace Sys2Proof.Tests

set_option Elab.async false

/-! ### WellFormed: an ill-formed term for each check -/

theorem test_wf_echo : Instr.wellFormed (.echo (List.replicate 241 0)) = false := by decide +kernel
theorem test_wf_port : (Instr.wellFormed (.readStatus 256) || Instr.wellFormed (.fetchReports 256)) = false := by decide +kernel
theorem test_wf_lever : (Instr.wellFormed (.setLever 32768) || Instr.wellFormed (.setHelm (-32769))) = false := by decide +kernel
theorem test_wf_mode : (Instr.wellFormed (.setSteerMode 256) || Instr.wellFormed (.setSync 256)) = false := by decide +kernel
theorem test_wf_modes : (Instr.wellFormed (.setEngineModes 256 1 1 1 1) || Instr.wellFormed (.setEngineModes 1 256 1 1 1) ||
    Instr.wellFormed (.setEngineModes 1 1 256 1 1) || Instr.wellFormed (.setEngineModes 1 1 1 256 1) ||
    Instr.wellFormed (.setEngineModes 1 1 1 1 256)) = false := by decide +kernel
theorem test_wf_readEngine : Instr.wellFormed (.readEngine 256) = false := by decide +kernel
theorem test_wf_declareBarge : (Instr.wellFormed (.declareBarge ⟨16, 1⟩ 1 1 1 none) || Instr.wellFormed (.declareBarge ⟨1, 16⟩ 1 1 1 none) ||
    Instr.wellFormed (.declareBarge ⟨1, 1⟩ 4294967296 1 1 none) || Instr.wellFormed (.declareBarge ⟨1, 1⟩ 1 65536 1 none) ||
    Instr.wellFormed (.declareBarge ⟨1, 1⟩ 1 1 65536 none) || Instr.wellFormed (.declareBarge ⟨1, 1⟩ 1 1 1 (some 4294967296))) = false := by
  decide +kernel
theorem test_wf_positions : (Instr.wellFormed (.removeBarge ⟨1, 16⟩) || Instr.wellFormed (.readBarge ⟨16, 1⟩)) = false := by decide +kernel
theorem test_wf_declareCoupling :
    (Instr.wellFormed (.declareCoupling 256 .pushboat (.barge ⟨1, 1⟩) 1 1 0 1) ||
      Instr.wellFormed (.declareCoupling 1 (.barge ⟨16, 1⟩) (.barge ⟨1, 1⟩) 1 1 0 1) ||
      Instr.wellFormed (.declareCoupling 1 .pushboat (.barge ⟨0, 0⟩) 1 1 0 1) ||
      Instr.wellFormed (.declareCoupling 1 .pushboat (.barge ⟨1, 1⟩) 4294967296 1 0 1) ||
      Instr.wellFormed (.declareCoupling 1 .pushboat (.barge ⟨1, 1⟩) 1 256 0 1) ||
      Instr.wellFormed (.declareCoupling 1 .pushboat (.barge ⟨1, 1⟩) 1 1 256 1) ||
      Instr.wellFormed (.declareCoupling 1 .pushboat (.barge ⟨1, 1⟩) 1 1 0 256)) = false := by decide +kernel
theorem test_wf_numbers : (Instr.wellFormed (.withdrawCoupling 256) || Instr.wellFormed (.readCoupling 256) ||
    Instr.wellFormed (.listNodes 256) || Instr.wellFormed (.listOrders 256) || Instr.wellFormed (.readTank 256) ||
    Instr.wellFormed (.readMeters 256)) = false := by decide +kernel
theorem test_wf_serials : (Instr.wellFormed (.readNode 4294967296) || Instr.wellFormed (.forgetNode 4294967296) ||
    Instr.wellFormed (.rejoinTimerExpiry 4294967296)) = false := by decide +kernel
theorem test_wf_orders : (Instr.wellFormed (.postOrder 65536 .malformed) || Instr.wellFormed (.abortOrder 65536) ||
    Instr.wellFormed (.postOrder 1 (.haul 256)) || Instr.wellFormed (.postOrder 1 (.release 256 0)) ||
    Instr.wellFormed (.postOrder 1 (.release 1 256)) || Instr.wellFormed (.postOrder 1 (.transfer 256 1 1)) ||
    Instr.wellFormed (.postOrder 1 (.transfer 1 256 1)) || Instr.wellFormed (.postOrder 1 (.transfer 1 2 4294967296)) ||
    Instr.wellFormed (.postOrder 1 (.bunker 256))) = false := by decide +kernel
theorem test_wf_sounding : (Instr.wellFormed (.setSounding 256 0) || Instr.wellFormed (.setSounding 1 4294967296)) = false := by
  decide +kernel
theorem test_wf_legs : (Instr.wellFormed (.closeLeg 4294967296) || Instr.wellFormed (.readLeg 4294967296) ||
    Instr.wellFormed (.releaseLeg 4294967296) || Instr.wellFormed (.setVoyageClock 4294967296)) = false := by decide +kernel
theorem test_wf_settings : (Instr.wellFormed (.writeSetting 256 0 0 0) || Instr.wellFormed (.writeSetting 0 256 0 0) ||
    Instr.wellFormed (.writeSetting 0 0 256 0) || Instr.wellFormed (.writeSetting 0 0 0 2147483648) ||
    Instr.wellFormed (.readSetting 256 0 0) || Instr.wellFormed (.readSetting 0 256 0) || Instr.wellFormed (.readSetting 0 0 256) ||
    Instr.wellFormed (.saveSettings ⟨256, 0, 0, 0, 0⟩) || Instr.wellFormed (.saveSettings ⟨0, 256, 0, 0, 0⟩) ||
    Instr.wellFormed (.saveSettings ⟨0, 0, 256, 0, 0⟩) || Instr.wellFormed (.saveSettings ⟨0, 0, 0, 256, 0⟩) ||
    Instr.wellFormed (.saveSettings ⟨0, 0, 0, 0, 256⟩)) = false := by decide +kernel
theorem test_wf_frame : Instr.wellFormed (.bridgeFrameReceived []) = false := by decide +kernel
theorem test_wf_start : Instr.wellFormed (.start ⟨false, 6, ⟨false, false, false, false, false⟩⟩) = false := by decide +kernel
theorem test_wf_samples : (Instr.wellFormed (.controlPeriodExpiry false 4096 0) || Instr.wellFormed (.controlPeriodExpiry false 0 4096) ||
    Instr.wellFormed (.steeringControlPeriod #v[0, 0, 0, 0, 0, 0, 0, 4096]) ||
    Instr.wellFormed (.accountingIntervalExpiry #v[none, some 32768, none, none, none, none, none, none, none, none])) = false := by
  decide +kernel
theorem test_wf_lineFrame : (Instr.wellFormed (.bargeFrameReceived [1, 2, 0, 0] false) ||
    Instr.wellFormed (.bargeFrameReceived (List.replicate 49 0) false)) = false := by decide +kernel
theorem test_wf_timers : (Instr.wellFormed (.haulTimerExpiry 0) || Instr.wellFormed (.releaseTimerExpiry 33) ||
    Instr.wellFormed (.releaseWaitExpiry 0) || Instr.wellFormed (.releaseWaitExpiry 65536)) = false := by decide +kernel

/-- The table gives no row bits, so no word spells a command. -/
theorem test_decode (nbits w : Nat) : decodeTableWord nbits w = none := rfl

/-! ### Small states -/

/-- The state after a command. -/
def after (c : Instr) (s : State) : State :=
  match exec c s with
  | .next t => t
  | .fault _ => s
  | .refused _ => s

/-- A FULL winch node with DUAL and URGENT. -/
def winch (serial address : Nat) (st : NodeState) : Node :=
  ⟨serial, .winch, address, st, ⟨true, true, true, true, true, false, false⟩, .full, 0, false, false, none, false, false⟩

/-- A bow node with FEEDBACK. -/
def bowNode (serial address : Nat) : Node :=
  ⟨serial, .bow, address, .active, ⟨false, false, false, false, true, true, true⟩, .full, 0, false, false, none, false, false⟩

/-- Coupling 1 is a face wire to 1/1 on winch 101, coupling 2 joins 1/1 to 1/2 on winch 102. -/
def faceWire (st : CouplingState) : Coupling :=
  ⟨1, .pushboat, ⟨1, 1⟩, 101, 1, false, 1, st, 900, some ⟨true, false, false⟩, .none, false⟩

def columnWire (st : CouplingState) : Coupling :=
  ⟨2, .barge ⟨1, 1⟩, ⟨1, 2⟩, 102, 1, false, 1, st, 900, some ⟨true, false, false⟩, .none, true⟩

/-- Two barges in tow on two FAST wires, with a bow unit at the head, the clock set, and no write in flight. -/
def tow : State :=
  { State.reset with
    sup :=
      { barges := [⟨⟨1, 1⟩, 11, 400, 1600, none, .inTow, true, true⟩, ⟨⟨1, 2⟩, 12, 400, 1600, some 201, .inTow, false, true⟩]
        couplings := [faceWire .fast, columnWire .fast], tonnage := 4000, tonnageClass := 1, ccap := 1000, unheldStands := false }
    line :=
      { State.reset.line with
        nodes := [winch 101 1 .active, winch 102 2 .active, bowNode 201 3], phase := .turnaround }
    steer := { State.reset.steer with bows := [⟨⟨1, 2⟩, 201, some .active, some .bow, some true, some false, some 0, 0⟩] }
    fuel := { State.reset.fuel with tanks := State.reset.fuel.tanks.set 1 ⟨50000000000, false, false⟩, fcap := 1000 }
    prop := { State.reset.prop with latch := false }
    ckpt := { State.reset.ckpt with writing := none, good := true }
    clock := ⟨1000, true⟩ }

/-- The tow with an order in slot 0. -/
def withOrder (o : Order) (s : State) : State := s.setSlot 0 (some o)

/-- The line with the master in a phase. -/
def inPhase (p : LinePhase) (s : State) : State := s.onLine fun l => { l with phase := p }

/-- Engine 1 in a gear state with a demand. -/
def engine1 (g : Gear) (demand : Int) (s : State) : State := s.onChan 0 fun c => { c with gear := g, demand := demand }

/-- The pulses a meter has counted. -/
def withPulses (i : Fin 10) (n : Nat) (s : State) : State := s.onMeter i fun m => { m with count := n }

/-- The status of the last answer. -/
def status (s : State) : Option Status := s.port.answer.map (·.status)

/-- A request frame. -/
def request (kind mark : Byte) (body : List Byte) : List Byte :=
  let inner := BitVec.ofNat 8 body.length :: kind :: mark :: body
  0xA5#8 :: inner ++ crcBytes inner

/-- A report with no body. -/
def plainReport (k : ReportKind) (x : Subject) : Report := ⟨k, x, ⟨0, false⟩, []⟩

/-! ### Figures of the manual -/

/-- R1: 2.5 becomes 3 and −2.5 becomes −3. -/
theorem test_rounding : roundHalfAway 5 2 = 3 ∧ roundHalfAway (-5) 2 = -3 ∧ roundHalfUp 5 2 = 3 := by decide +kernel
/-- The table of R66. -/
theorem test_effectiveLever : leOf 800 1000 600 700 = 600 ∧ leOf (-900) 1000 1000 700 = -700 ∧ leOf (-900) 300 1000 700 = -300 ∧
    leOf 400 0 1000 700 = 0 ∧ leOf (-250) 150 600 700 = -150 := by decide +kernel
/-- R59, the worked sequence of silence, hold and takeover: a raw 3000 is a lever of 529. -/
theorem test_backupLever : (after (.controlPeriodExpiry true 3000 2048) tow).prop.lever = 529 := by decide +kernel
theorem test_silence_hold : (after .silenceLimitExpiry (after (.setLever 400) tow)).prop.phase = .hold ∧
    (after .silenceLimitExpiry (after (.setLever 400) tow)).prop.lever = 400 := by decide +kernel
theorem test_latch_holds : (after (.setLever 400) State.reset).prop.le = 0 ∧
    (after (.setLever 400) tow).prop.le = 400 := by decide +kernel
/-- R63: ZEROED after HOLD. -/
theorem test_zeroed : (after .holdTimeExpiry (tow.onProp fun p =>
    { p with phase := .hold, lever := 400, le := 400, holdTimer := some 10000 })).prop.le = 0 := by decide +kernel
/-- The worked case of R68 to R70: 748 rounds up, class 2 rises 3 rpm a period, and one period later engine 1 has a duty of 519. -/
theorem test_share_ramp : ((after (.controlPeriodExpiry false 0 0) (((engine1 .ahead 1200 tow).onProp fun p =>
      { p with lever := 600, le := 600 }).onSteer fun t => { t with trim := 50 })).chans[0]).target = 1348 := by decide +kernel
theorem test_ramp_class2 : ((after (.controlPeriodExpiry false 0 0) (((engine1 .ahead 1200 tow).onProp fun p =>
      { p with lever := 600, le := 600 }).onSup fun u => { u with tonnageClass := 2 })).chans[0]).demand = 1203 := by decide +kernel
/-- The table of R92. -/
theorem test_duty : ((after (.governorPeriodEnd 0) (engine1 .ahead 1203 tow)).chans[0]).duty = 519 ∧
    ((after (.governorPeriodEnd 0) (engine1 .ahead 1206 tow)).chans[0]).duty = 522 := by decide +kernel
/-- Rows of the table of R91, with a PPR of 60. -/
theorem test_shaft_window : ((after (.shaftWindowExpiry 0) (tow.onChan 0 fun c => { c with count := -112 })).chans[0]).rpm = -224 ∧
    roundHalfAway (500 * 120) 44 = 1364 ∧ roundHalfAway (-1 * 120) 48 = -3 := by decide +kernel
/-- R90: past the limit the count is held there, also against the next pulse the other way. -/
theorem test_shaft_pulse : ((after (.shaftPulse 0 true) tow).chans[0]).count = -1 ∧
    ((after (.shaftPulse 0 true) (after (.shaftPulse 0 false) (tow.onChan 0 fun c => { c with count := 32767 }))).chans[0]).count = 32767 := by
  decide +kernel
/-- R88, the worked reversal: at idle with D ASTERN an AHEAD channel disengages. -/
theorem test_reversal : ((after (.setLever (-900)) ((engine1 .ahead 600 tow).onProp fun p => { p with lever := 300, le := 300 })).chans[0]).gear =
    .disengaging := by decide +kernel
theorem test_dwell : ((after (.neutralDwellExpiry 0) ((tow.onProp fun p => { p with lever := -700, le := -700 }).onChan 0 fun c =>
    { c with gear := .disengaging, rpm := 60, dwellTimer := some 1500, dwellTimeout := some 8000 })).chans[0]).gear = .engagingAstern := by
  decide +kernel
theorem test_dwell_fast : ((after (.neutralDwellExpiry 0) (tow.onChan 0 fun c =>
    { c with gear := .disengaging, rpm := 61, dwellTimer := some 1500, dwellTimeout := some 8000 })).chans[0]).gear = .disengaging := by
  decide +kernel
theorem test_noConfirm : ((after (.engageConfirmExpiry 0) (tow.onChan 0 fun c =>
    { c with gear := .engagingAhead, engageTimer := some 4000 })).chans[0]).fault = .gearNoConfirm := by decide +kernel
theorem test_running_off : ((after (.inputFilterExpiry 0 .running) (tow.onChan 0 fun c =>
    { c with gear := .ahead, demand := 900, running := ⟨false, true, true⟩ })).chans[0]).gear = .stopped := by decide +kernel
theorem test_filter_starts : ((after (.engineInputChange 0 .running true) tow).chans[0]).running = ⟨true, false, true⟩ := by decide +kernel
/-- Sync period 1 of the worked case: 8 rpm apart, engine 2 steps by 2. -/
theorem test_sync : ((after .syncPeriodExpiry (((tow.onProp fun p => { p with le := 600, sync := true }).onChan 0 fun c =>
      { c with gear := .ahead, preSync := 1348, rpm := 1346 }).onChan 1 fun c =>
      { c with gear := .ahead, preSync := 1348, rpm := 1338 })).chans[1]).trim = 2 := by decide +kernel
/-- The stall of the worked sequence: the 20th period with a progress of 6. -/
theorem test_stall : ((after (.steeringControlPeriod #v[2180, 2048, 2048, 2048, 0, 0, 0, 0]) (tow.onRudder 0 fun x =>
      { x with target := 175, angle := 66, valve := .starboard, stallRef := some 60, stallCount := 19 })).steer.rudders[0]).state =
    .stalled := by decide +kernel
/-- Degraded steering of the worked sequence: T 100 and a bow demand of 400 at helm 500. -/
theorem test_degraded : (after (.steeringControlPeriod #v[2048, 4080, 2048, 2048, 0, 0, 0, 0])
      (((tow.onProp fun p => { p with le := 300 }).onSteer fun t => { t with helm := 500 }).onRudder 0 fun x =>
        { x with state := .stalled })).steer.trim = 100 := by decide +kernel
theorem test_helm_targets : ((after (.setHelm 300) (tow.onProp fun p => { p with le := 300 })).steer.rudders[0]).target = 105 ∧
    (after (.setHelm 300) (tow.onProp fun p => { p with le := 300 })).steer.trim = 30 := by decide +kernel
theorem test_steer_mode : (after (.setSteerMode 3) (tow.onSteer fun t => { t with helm := 500 })).steer.bowDemand = 400 := by decide +kernel
/-- R120, R196: an entry is AVAILABLE 1; with its running flag off condition 5 fails, 6; with no node record it is ABSENT 8, and condition
4 fails, 5. -/
theorem test_bow_entry : tow.steer.bows.map (fun u => ((tow.bowBytes u)[6]?, tow.bowFailing { u with running := some false },
    ((tow.bowBytes { u with nodeState := none }).drop 5).take 2)) = [(some 1, 6, [8, 5])] := by decide +kernel
/-- The worked case of R126: 37 pulses at 42.0 °C give 361,708 µL and a remainder of 300,000. -/
theorem test_correction : ((after (.accountingIntervalExpiry #v[some 420, some 150, some 150, some 150, some 550, some 150, some 150,
      some 150, some 150, some 150]) (withPulses 0 37 (withPulses 4 21 tow))).fuel.consumption[0]) = 158680 := by decide +kernel
theorem test_correction_sum : correctionTerm 830 420 = 22410 ∧ correctionSum 37 10000 22410 0 = 361708300000 ∧
    correctionSum 37 10000 22410 900000 = 361709200000 := by decide +kernel
/-- The worked case of a transfer: 80 pulses of 50,000 µL at 25.0 °C move 3,966,800 µL. -/
theorem test_transfer_volume : correctionSum 80 50000 (correctionTerm 830 250) 0 / 1000000 = 3966800 := by decide +kernel
theorem test_meter_held : ((after (.meterPulse 0) (withPulses 0 65535 tow)).fuel.meters[0]).count = 65535 := by decide +kernel
/-- The worked cases of R151: 5,453 and 3,714, and an absent rate at a TMM of 0. -/
theorem test_fuelRate : fuelRate 2421258022 444000000000 = some 5453 ∧ fuelRate 410000000 110400000000 = some 3714 ∧
    fuelRate 95000000 0 = none := by decide +kernel
/-- A log pulse at 24,000 t. -/
theorem test_logPulse : (after .logPulse (tow.onSup fun u => { u with tonnage := 24000 })).legs.current.tmm = 24000000 := by decide +kernel
theorem test_closeLeg : (after (.closeLeg 1) tow).legs.current.number = 2 ∧ status (after (.closeLeg 2) tow) = some .badValue := by
  decide +kernel
theorem test_sounding : ((after (.setSounding 1 2000) tow).fuel.tanks[0]).book = 2000000000 ∧
    status (after (.setSounding 3 0) tow) = some .noSuch := by decide +kernel
theorem test_clock : (after .voyageClockTick tow).clock = ⟨1001, true⟩ ∧ (after (.setVoyageClock 7) State.reset).clock = ⟨7, true⟩ := by
  decide +kernel

/-! ### The Barge Line -/

/-- Section 11's worked exchange: a HAUL for channel 1 and NONE for channel 2 to address 6 is a poll of 7 characters. -/
theorem test_poll_frame : (TxFrame.chars (.pollWinch 6 30388 [.haul, .none] false)).take 5 = [6, 1, 2, 1, 0] ∧
    (TxFrame.chars (.pollWinch 6 30388 [.haul, .none] false)).length = 7 := by decide +kernel
/-- The reply 792 with the hook closed: 3 × 256 + 24. -/
theorem test_reply_body : winchReports [0, 3, 24, 1, 0, 0, 0] = [⟨792, ⟨true, false, false⟩⟩, ⟨0, ⟨false, false, false⟩⟩] := by decide +kernel
/-- R14: below Ts + H a first reply makes a coupling SLACK, as 120 does in the worked sequence. -/
theorem test_first_reply : ((after (.bargeFrameReceived (lineFrame 1 2 [0, 0, 120, 1, 0, 95, 1]) false)
      (inPhase (.receiving (.pollWinch 1 101 [.none, .none] false)) (tow.onSup fun u =>
        { u with couplings := [faceWire .unconfirmed, columnWire .fast] }))).coupling? 1).map (·.state) = some .slack := by decide +kernel
theorem test_short_reply_is_miss : ((after (.bargeFrameReceived (lineFrame 1 2 [0, 3, 24, 1]) false)
      (inPhase (.receiving (.pollWinch 1 101 [.none, .none] false)) tow)).node? 101).map (·.state) = some .silent := by decide +kernel
theorem test_fourth_miss : ((after .replyWindowExpiry (inPhase (.awaiting (.pollWinch 1 101 [.none, .none] false)) (tow.onLine fun l =>
      { l with nodes := [{ winch 101 1 .silent with misses := 3 }, winch 102 2 .active, bowNode 201 3] }))).coupling? 1).map (·.state) =
    some .lost := by decide +kernel
/-- The worked join: 40478 advertises TENSION alone and is JOINING in the MONITOR role at the lowest free address. -/
theorem test_join : ((after (.bargeFrameReceived (lineFrame 0 4 (bytesOf 4 40478 ++ [1, 1])) false) (inPhase (.receiving .invite) tow)).node?
      40478).map (fun d => (d.address, d.state, d.role)) = some (4, .joining, .monitor) := by decide +kernel
theorem test_acknowledged : ((after (.bargeFrameReceived (lineFrame 4 7 (bytesOf 4 40478)) false) (inPhase (.receiving (.assign 40478 4))
      (tow.onLine fun l => { l with
        nodes := l.nodes ++ [winch 40478 4 .joining], handshake := some ⟨40478, 4, false, .created⟩ }))).node? 40478).map (·.state) =
    some .active := by decide +kernel
theorem test_turnaround : (after .turnaroundExpiry tow).line.phase = .sending (.pollWinch 1 101 [.none, .none] false) := by decide +kernel
theorem test_sent : (after .masterFrameSent (inPhase (.sending .invite) tow)).line.phase = .awaiting .invite := by decide +kernel
theorem test_echo_fault : (after .echoFailure (inPhase (.sending .invite) tow)).line.state = .fault := by decide +kernel
/-- The worked line down: the third failure makes every node LOST. -/
theorem test_line_down : ((after .echoFailure (inPhase (.sending .lineReset) (tow.onLine fun l =>
      { l with state := .fault, failures := 2 }))).line.nodes.map (·.state)) = [.lost, .lost, .lost] := by decide +kernel
theorem test_recovery : (after .faultRecoveryExpiry (inPhase .quiet (tow.onLine fun l => { l with state := .fault }))).line.phase =
    .sending .lineReset := by decide +kernel
theorem test_downRetry : (after .downRetryExpiry (inPhase .quiet (tow.onLine fun l => { l with state := .down }))).line.phase =
    .sending .lineReset := by decide +kernel
theorem test_rejoin : ((after (.rejoinTimerExpiry 101) (tow.onLine fun l =>
      { l with nodes := [{ winch 101 1 .joining with rejoinRunning := true }, winch 102 2 .active, bowNode 201 3] })).node? 101).map
    (·.state) = some .lost := by decide +kernel
theorem test_replyStart : (after .bargeReplyStart (inPhase (.awaiting .invite) tow)).line.phase = .receiving .invite := by decide +kernel
theorem test_silence_is_miss : ((after .bargeFrameSilence (inPhase (.receiving (.pollWinch 1 101 [.none, .none] false)) tow)).node?
      101).map (·.misses) = some 1 := by decide +kernel
theorem test_forget : status (after (.forgetNode 101) tow) = some .notNow ∧ status (after (.forgetNode 999) tow) = some .noSuch := by
  decide +kernel
theorem test_readNode_rearms : ((after (.readNode 101) tow).node? 101).map (·.heldFlag) = some true := by decide +kernel

/-! ### Makeup and orders -/

theorem test_declareBarge : status (after (.declareBarge ⟨1, 2⟩ 13 400 1600 none) tow) = some .positionTaken ∧
    status (after (.declareBarge ⟨2, 1⟩ 12 400 1600 none) tow) = some .duplicate := by decide +kernel
theorem test_removeBarge : status (after (.removeBarge ⟨1, 2⟩) tow) = some .notNow ∧
    status (after (.removeBarge ⟨3, 3⟩) tow) = some .noSuch := by decide +kernel
theorem test_declareCoupling : ((after (.declareCoupling 3 (.barge ⟨1, 2⟩) (.barge ⟨1, 1⟩) 103 2 1 4) tow).coupling? 3).map (·.state) =
    some .unconfirmed := by decide +kernel
/-- R22: an UNCONFIRMED wire on a barge in tow brings the slack cap. -/
theorem test_slackCap : (after (.declareCoupling 3 (.barge ⟨1, 2⟩) (.barge ⟨1, 1⟩) 103 2 1 4) tow).sup.ccap = 300 := by decide +kernel
theorem test_withdraw : status (after (.withdrawCoupling 2) tow) = some .notNow ∧
    status (after (.withdrawCoupling 9) tow) = some .noSuch := by decide +kernel
theorem test_reads_clear : ((after (.readBarge ⟨1, 1⟩) tow).barge? ⟨1, 1⟩).map (·.changed) = some false ∧
    ((after (.readCoupling 2) tow).coupling? 2).map (·.changed) = some false := by decide +kernel
/-- Event 3 of the worked lock cut: without the flag DETACHES_TOW, with it the barge beyond is the cast-off set. -/
theorem test_detaches : status (after (.postOrder 103 (.release 2 0)) tow) = some .detachesTow ∧
    ((after (.postOrder 103 (.release 2 1)) tow).orders.slots[0]).map (·.work) = some (.release 2 true [⟨1, 2⟩]) := by decide +kernel
/-- Event 4: the confirmed release casts the barge off, and the tonnage follows. -/
theorem test_castOff : (after (.bargeFrameReceived (lineFrame 2 2 [0, 0, 25, 2, 0, 0, 0]) false)
      (inPhase (.receiving (.pollWinch 2 102 [.release, .none] false)) (withOrder
        ⟨103, .release 2 true [⟨1, 2⟩], .active, none, none, some 30000⟩ (tow.onSup fun u =>
          { u with couplings := [faceWire .fast, columnWire .releasing] })))).sup.tonnage = 2000 := by decide +kernel
theorem test_haul : ((after (.postOrder 7 (.haul 1)) tow).coupling? 1).map (·.command) = some .haul ∧
    (after (.postOrder 7 (.haul 1)) tow).orders.lastFace = some 0 := by decide +kernel
theorem test_release_waits : ((after (.postOrder 60 (.release 2 1)) (tow.onProp fun p => { p with lever := 250, le := 250 })).orders.slots[0]).map
    (·.state) = some .waiting := by decide +kernel
/-- The worked release that waits: the timer of a WAITING order runs out and coupling 3 of the table is not touched. -/
theorem test_thrustHigh : (after (.releaseWaitExpiry 60) (withOrder ⟨60, .release 2 true [], .waiting, none, some 60000, none⟩ tow)).sup =
    tow.sup := by decide +kernel
theorem test_haulTimeout : ((after (.haulTimerExpiry 2) (withOrder ⟨7, .haul 2, .active, none, none, some 60000⟩ tow)).orders.slots[0]) =
    none := by decide +kernel
theorem test_releaseTimeout : ((after (.releaseTimerExpiry 2) (withOrder ⟨7, .release 2 true [], .active, none, none, some 30000⟩
    tow)).coupling? 2).map (·.state) = some .fault := by decide +kernel
theorem test_abort : ((after (.abortOrder 7) (withOrder ⟨7, .haul 2, .active, none, none, some 60000⟩ tow)).orders.slots[0]).map (·.state) =
    some .aborting ∧ status (after (.abortOrder 8) tow) = some .notFound := by decide +kernel
theorem test_bunker : (after (.postOrder 9 (.bunker 2)) tow).bunkerOpen = true := by decide +kernel
theorem test_transfer : (after (.postOrder 9 (.transfer 2 1 3000)) tow).pumpOn = true := by decide +kernel

/-! ### The Bridge Link, settings and start -/

/-- Rows of the full queue of the worked sequence: an ALARM takes the oldest INFO's place, and an INFO is discarded. -/
theorem test_queue_alarm : (enqueue (plainReport .nodeLost (.serial 5)) (plainReport .started .nothing ::
      List.replicate 31 (plainReport .orderDone (.tag 1)))).1.getLast? = some (plainReport .nodeLost (.serial 5)) := by decide +kernel
theorem test_queue_info : (enqueue (plainReport .legClosed (.leg 5)) (plainReport .started .nothing ::
      List.replicate 31 (plainReport .orderDone (.tag 1)))).2 = true := by decide +kernel
theorem test_queue_coalesces : (enqueue (plainReport .change .caps) [plainReport .change .caps, plainReport .started .nothing]).1.length = 2 := by
  decide +kernel
/-- The busy minute: the ALARM, then the ORDER_DONE, then the oldest CHANGE. -/
theorem test_fetch : fetched 3 [plainReport .started .nothing, plainReport .change (.coupling 7), plainReport .change (.coupling 8),
      plainReport .orderDone (.tag 101), plainReport .towUnheld (.position ⟨1, 3⟩), plainReport .change .caps] =
    [plainReport .towUnheld (.position ⟨1, 3⟩), plainReport .orderDone (.tag 101), plainReport .change (.coupling 7)] := by decide +kernel
theorem test_fetch_releases_line : (after (.fetchReports 8) State.reset).attention = false ∧ State.reset.attention = true := by decide +kernel
/-- Three requests in a row: the third frame behind a request in hand sets OVERRUN. -/
theorem test_overrun : (after (.bridgeFrameReceived (request 0x14 3 [1])) (after (.bridgeFrameReceived (request 0x02 2 [24]))
      (after (.bridgeFrameReceived (request 0x11 1 [0, 0])) tow))).port.overrun = true := by decide +kernel
theorem test_buffered : (after .replySent (after (.bridgeFrameReceived (request 0x02 2 [24]))
      (after (.bridgeFrameReceived (request 0x11 1 [0, 0])) tow))).port.inHand.map (·.mark) = some 2 := by decide +kernel
/-- A CRC that does not check; bytes before the start byte are discarded. -/
theorem test_bad_crc : (after (.bridgeFrameReceived [0xA5, 0, 4, 0, 0, 0]) tow).port.linkError = true ∧
    (after (.bridgeFrameReceived ([0, 4] ++ request 0x02 2 [24])) tow).port.inHand.map (·.mark) = some 2 := by decide +kernel
/-- A gap and a bad byte count inside a frame alone. -/
theorem test_gap : (after .bridgeByteGap (after (.bridgeFrameReceived [0xA5]) tow)).port.linkError = true ∧
    (after .bridgeByteGap tow).port.linkError = false := by decide +kernel
theorem test_byteFault : (after .bridgeByteFault (after (.bridgeFrameReceived [0xA5, 2]) tow)).port.receiving = [] ∧
    (after .bridgeByteFault tow).port.linkError = false := by decide +kernel
/-- R171: the kind with its top bit set, of a request kind that has it clear and of two that have it set. -/
theorem test_replyKind : [0x05, 0x85, 0xFF].map (fun k => (Reply.bytes ⟨k, 1, ⟨.unknownRequest, []⟩⟩)[2]?) =
    [some 0x85, some 0x85, some 0xFF] := by decide +kernel
/-- R180: a length of 65 is refused, and of 24 gives 24 bytes; byte 19 shows CLOCK_UNSET and ZERO_LATCH after reset. -/
theorem test_status : status (after (.readStatus 65) tow) = some .badValue ∧
    ((after (.readStatus 0) State.reset).port.answer.map (·.body.drop 19)) = some [65, 0, 0, 0, 1] := by decide +kernel
theorem test_echo : (after (.echo [1, 2]) tow).port.answer = some ⟨.accepted, [1, 2]⟩ := by decide +kernel
theorem test_sync_request : (after (.setSync 1) tow).prop.sync = true ∧ status (after (.setSync 2) tow) = some .badValue := by decide +kernel
theorem test_engineModes : ((after (.setEngineModes 2 1 2 1 1) tow).chans[1]).mode = .standby ∧
    ((after (.setEngineModes 2 2 2 1 1) tow).chans[0]).mode = .inUse := by decide +kernel
theorem test_writeSetting : (after (.writeSetting 5 6 0 7) tow).settings.backup.silenceLimitS = 7 ∧
    status (after (.writeSetting 1 3 1 1700) tow) = some .badValue := by decide +kernel
theorem test_engine_write_blocked : status (after (.writeSetting 1 3 1 700) (engine1 .ahead 900 tow)) = some .notNow := by decide +kernel
theorem test_readSetting : (after (.readSetting 5 6 0) tow).port.answer =
    some ⟨.accepted, [0, 0, 0, 3, 0, 0, 0, 3] ++ signed 4 (settingRange .backup 6).1 ++ signed 4 (settingRange .backup 6).2 ++ [0]⟩ := by
  decide +kernel
theorem test_save : (after (.saveSettings ⟨1, 0, 0, 0, 2⟩) tow).store.save.isSome = true ∧
    status (after (.saveSettings ⟨3, 0, 0, 0, 0⟩) tow) = some .badValue := by decide +kernel
theorem test_saved : ((after (.saveComplete ⟨false, false, false, false, false⟩) (after (.saveSettings ⟨1, 0, 0, 0, 2⟩) tow)).store.image.engine).good =
    true := by decide +kernel
theorem test_checkpoint : (after .checkpointPeriodExpiry tow).ckpt.writing.isSome = true ∧
    (after .checkpointPeriodExpiry (after .checkpointPeriodExpiry tow)).ckpt.due = true := by decide +kernel
/-- The worked restart: the final write follows the write in flight, and the reply is sent after it. -/
theorem test_restart : (after .checkpointWriteComplete (after .restart (after .checkpointPeriodExpiry tow))).ctl.restart = .finalWrite ∧
    (after .replySent (after .checkpointWriteComplete (after .restart tow))).ctl.coming = some .restart := by decide +kernel
/-- The worked dip: a write that is cut off loses the checkpoint, and the clock is unset. -/
theorem test_dip : ((after (.start ⟨false, 0, ⟨false, false, false, false, false⟩⟩) (after .supplyDip (after .checkpointPeriodExpiry tow))).sup.barges,
    (after (.start ⟨false, 0, ⟨false, false, false, false, false⟩⟩) (after .supplyDip (after .checkpointPeriodExpiry tow))).clock) =
      ([], ⟨0, false⟩) := by decide +kernel
theorem test_restored : ((after (.start ⟨false, 0, ⟨false, false, false, false, false⟩⟩) (after .resetLineReleased (after .resetLineAsserted
      (after .checkpointWriteComplete (after .checkpointPeriodExpiry tow))))).sup.couplings.map (·.state)) = [.unconfirmed, .unconfirmed] := by
  decide +kernel
/-- Reset is the POWER_ON start of a new part. -/
theorem test_reset : after (.start ⟨false, 0, ⟨false, false, false, false, false⟩⟩) (after .powerOn
    { State.reset with ckpt := { State.reset.ckpt with writing := none } }) = State.reset := by decide +kernel

/-! ### For each statement with hypotheses, a state and operands that meet them -/

/-- The next state of an outcome. -/
def nextOf : Host.Outcome State Fault Refusal → Option State
  | .next t => some t
  | .fault _ => none
  | .refused _ => none

theorem next_of {o : Host.Outcome State Fault Refusal} (h : (nextOf o).isSome = true) : ∃ t, o = .next t := by
  cases o with
  | next t => exact ⟨t, rfl⟩
  | fault f => cases h
  | refused r => cases h

/-- The tow with a log pulse waiting. -/
def waiting : State := { tow with pending := [.logPulse] }

/-- The part brought down by a supply dip. -/
def down : State := after .supplyDip tow

/-- A request is in hand, and one behind it is buffered. -/
def oneInHand : State := after (.bridgeFrameReceived (request 0x11 1 [0, 0])) tow
def twoTaken : State := after (.bridgeFrameReceived (request 0x02 2 [24])) oneInHand

/-- A save with every choice is in flight. -/
def saving : State := after (.saveSettings ⟨1, 2, 0, 1, 1⟩) tow

/-- A checkpoint write is in flight. -/
def writing : State := after .checkpointPeriodExpiry tow

theorem witness_DownPartWaitsForItsStart : down.up = false ∧ tow.ctl.coming = none ∧
    (after .resetLineAsserted tow).ctl.resetHeld = true := by decide +kernel

theorem witness_EchoReturnsItsBody : tow.up = true ∧ (List.replicate 240 (0 : Byte)).length ≤ 240 := by decide +kernel

theorem witness_ReadStatusClearsWhatItShows : tow.up = true ∧ (64 < 65) ∧ (1 ≤ 1 ∧ 1 ≤ 23) ∧ (1 ≤ 23 ∧ 23 ≤ 23) ∧
    (0 = 0 ∨ 24 ≤ 0 ∧ 0 ≤ 64) ∧ (24 = 0 ∨ 24 ≤ 24 ∧ 24 ≤ 64) ∧ (64 = 0 ∨ 24 ≤ 64 ∧ 64 ≤ 64) ∧
    down.ctl.coming ≠ none ∧ down.ctl.resetHeld = false := by decide +kernel

theorem witness_FetchTakesTheHighestClassFirst : State.reset.up = true ∧ (0 = 0 ∨ 9 ≤ 0) ∧ (9 = 0 ∨ 9 ≤ 9) ∧ (1 ≤ 1 ∧ 1 ≤ 8) ∧
    (1 ≤ 8 ∧ 8 ≤ 8) ∧ State.reset.port.queue.length = 1 := by decide +kernel

/-- Eight reports of 37 bytes: six of them and the head take 227 bytes, and the next would make it 264. -/
theorem test_fetch_limit : (fetched 8 (List.replicate 8 ⟨.lineDown, .nothing, ⟨0, false⟩, List.replicate 24 0⟩)).length = 6 := by
  decide +kernel

/-- A twin in the queue; room for one more; a full queue with an older report of a lower class; a full queue with none. -/
theorem witness_ReportsEnterTheQueueInSteps :
    let change := plainReport .change .caps
    let info := plainReport .started .nothing
    let alarms := List.replicate 31 (plainReport .lineDown .nothing)
    ([info, change] = [info] ++ change :: [] ∧ change.kind = .change ∧ change.subject = .caps ∧
      ∀ y ∈ [info], ¬(y.kind = .change ∧ y.subject = .caps)) ∧
    ((∀ x ∈ info :: alarms.tail, ¬(x.kind = .change ∧ x.subject = .caps)) ∧ (info :: alarms.tail).length < 32) ∧
    (32 ≤ (info :: alarms).length ∧ info :: alarms = [] ++ info :: alarms ∧ ReportKind.nodeLost.cls < info.kind.cls ∧
      (∀ y ∈ info :: alarms, y.kind.cls ≤ info.kind.cls) ∧ ∀ y ∈ ([] : List Report), y.kind.cls ≠ info.kind.cls) ∧
    (32 ≤ (info :: alarms).length ∧ ∀ x ∈ info :: alarms, x.kind.cls ≤ ReportKind.started.cls) := by decide +kernel

theorem witness_QueueAndLegLogStayBounded_queue : ReportQueueOk waiting ∧ ∃ t, step waiting = .next t :=
  ⟨by unfold ReportQueueOk changesDistinct; decide +kernel, next_of (by decide +kernel)⟩

/-- The bounds of each request's number, and a present and an absent tank. -/
theorem witness_ReadsChangeNothing : tow.up = true ∧ (1 = (0 : Fin 4).val + 1 ∧ 4 = (3 : Fin 4).val + 1) ∧ (0 < 1 ∨ 4 < 0) ∧ (5 < 1 ∨ 4 < 5) ∧
    (1 ≤ 40 ∧ 40 ≤ 40) ∧ 40 < 41 ∧ 15 < 16 ∧ (tow.settings.fuel.tankPresent[(0 : Fin 8)] = 1 ∧ 1 = (0 : Fin 8).val + 1) ∧
    (tow.settings.fuel.tankPresent[(7 : Fin 8)] ≠ 1 ∧ 8 = (7 : Fin 8).val + 1) ∧ 8 < 9 ∧ tow.legs.current.number = 1 ∧
    (2 ≠ 0 ∧ 2 ≠ tow.legs.current.number ∧ ∀ c ∈ tow.legs.log, c.leg.number ≠ 2) ∧
    (1 ≠ 0 ∧ 1 ≠ (after (.closeLeg 1) tow).legs.current.number ∧
      ∃ c ∈ (after (.closeLeg 1) tow).legs.log, c.leg.number = 1) := by decide +kernel

theorem witness_SettingsAreReadAndWritten_read : tow.up = true ∧ (0 = 0 ∨ 6 ≤ 0) ∧ (6 = 0 ∨ 6 ≤ 6) ∧ Sec.ofNat? 1 = some .engine ∧
    Sec.ofNat? 5 = some .backup ∧ tow.settings.get .backup 6 1 = none ∧ tow.settings.get .backup 6 0 = some 3 ∧
    tow.settings.get .engine 3 4 = some 600 := by decide +kernel

/-- A hunting receiver with no request in hand; the shortest and the longest body; kinds on each side of a top bit. -/
theorem witness_FramesCarryTheirRequests : tow.up = true ∧ tow.port.inHand = none ∧ tow.port.receiving = [] ∧
    ([] : List Byte).length ≤ 240 ∧ (List.replicate 240 (0 : Byte)).length ≤ 240 ∧ (4 ∈ [4, 5, 9] ∧ 9 ∈ [4, 5, 9] ∧ 8 ∉ [4, 5, 9]) ∧
    (0xFF ≤ 255 ∧ 0xFF ∉ [0x01, 0x4A]) ∧ (0x7F ≤ 255 ∧ 0x7F < 128 ∧ ¬0x80 < 128) := by decide +kernel

/-- Junk, a frame and its parts, one with a bad CRC, a length above 240, an open frame; a request in hand with the buffer free and taken. -/
theorem witness_PortTakesFramesInOrder :
    (tow.up = true ∧ tow.port.receiving = [] ∧ ∀ b ∈ ([0, 0xA4] : List Byte), b ≠ 0xA5#8) ∧
    (readRequestFrame (request 0x02 2 [24]) = some ⟨0x02, 2, [24]⟩ ∧ request 0x02 2 [24] = [0xA5] ++ (request 0x02 2 [24]).tail ∧
      (request 0x02 2 [24]).tail ≠ []) ∧
    (readRequestFrame [0xA5, 0, 4, 0, 0, 0] = none ∧ (0#8).toNat ≤ 240 ∧ ([4, 0, 0, 0] : List Byte).length = (0#8).toNat + 4) ∧
    240 < (241#8).toNat ∧ (after (.bridgeFrameReceived [0xA5]) tow).port.receiving ≠ [] ∧
    (oneInHand.up = true ∧ oneInHand.port.inHand ≠ none ∧ oneInHand.port.buffer = none ∧ oneInHand.port.receiving = []) ∧
    (twoTaken.port.inHand ≠ none ∧ twoTaken.port.buffer = some ⟨0x02, 2, [24]⟩ ∧ twoTaken.port.receiving = []) ∧
    (∀ r ∈ twoTaken.port.inHand, ¬(r.kind = 0x04 ∧ r.answer.status = .accepted)) ∧
    ∀ r ∈ oneInHand.port.inHand, ¬(r.kind = 0x04 ∧ r.answer.status = .accepted) := by decide +kernel

theorem witness_SettingsStayValid : SettingsOk { tow with pending := [.writeSetting 5 6 0 7] } ∧
    ∃ t, step { tow with pending := [.writeSetting 5 6 0 7] } = .next t :=
  ⟨fun sec => by cases sec <;> decide +kernel, next_of (by decide +kernel)⟩

/-- No such setting; each of the two blocked sections; a value past its range; a value at the edge of it, one of a tank setting, and the
value that stands. -/
theorem witness_SettingsAreReadAndWritten_write : tow.up = true ∧ tow.quiet ∧ tow.settingNamed 6 1 0 = none ∧
    (Sec.ofNat? 1 = some .engine ∧ tow.settings.get .engine 3 1 = some 600 ∧
      ∃ e : Fin 4, (engine1 .ahead 900 tow).settings.engine.present[e] = 1 ∧ (engine1 .ahead 900 tow).chans[e].gear ≠ .neutral ∧
        (engine1 .ahead 900 tow).chans[e].gear ≠ .stopped) ∧
    (Sec.ofNat? 2 = some .steering ∧ (tow.settings.get .steering 10 0).isSome = true ∧ (after (.setHelm 1) tow).steer.helm ≠ 0) ∧
    (Sec.ofNat? 5 = some .backup ∧ (settingRange .backup 6).2 < (settingRange .backup 6).2 + 1 ∧
      ¬(settingRange .backup 6).2 < (settingRange .backup 6).2 ∧
      (tow.settings.put .backup 6 0 (settingRange .backup 6).2).consistent .backup = true) ∧
    (∀ e : Fin 4, tow.settings.engine.present[e] = 1 → tow.chans[e].gear = .stopped) ∧ tow.prop.le = 0 ∧ tow.steer.helm = 0 ∧
    (Sec.ofNat? 4 = some .fuel ∧ tow.settings.get .fuel 3 1 = some 1) := by
  unfold State.quiet
  decide +kernel

theorem witness_SaveWritesItsSnapshot : tow.up = true ∧ (∃ c : Sec, 2 < c.pick (⟨0, 0, 0, 0, 3⟩ : PerSection Nat)) ∧
    saving.store.save ≠ none ∧ saving.up = true ∧ tow.store.save = none ∧
    (¬∃ c : Sec, 2 < c.pick (⟨2, 1, 0, 0, 2⟩ : PerSection Nat)) ∧ (¬∀ c : Sec, c.pick (⟨2, 1, 0, 0, 2⟩ : PerSection Nat) = 0) ∧
    (∀ c : Sec, c.pick (⟨0, 0, 0, 0, 0⟩ : PerSection Nat) = 0) ∧
    ∀ j ∈ saving.store.save, Sec.engine.pick j.choices = .apply ∧ Sec.steering.pick j.choices = .default ∧
      Sec.coupling.pick j.choices = .keep := by
  refine ⟨by decide +kernel, ⟨.backup, by decide⟩, by decide +kernel, by decide +kernel, by decide +kernel, ?_, ?_, ?_, by decide +kernel⟩
  · rintro ⟨c, h⟩
    cases c <;> revert h <;> decide
  · exact fun h => absurd (h .engine) (by decide)
  · exact fun c => by cases c <;> rfl

/-- A write in flight and none, a due mark and none, a save in flight and none, and each stage of a RESTART. -/
theorem witness_RestartFollowsItsFinalWrite :
    (tow.up = true ∧ tow.quiet ∧ tow.ckpt.writing = none ∧ tow.store.save = none ∧ tow.port.inHand = none) ∧
    (writing.up = true ∧ writing.quiet ∧ writing.ckpt.writing ≠ none ∧ writing.ctl.restart = .none ∧ writing.ckpt.due = false ∧
      writing.store.save = none ∧ writing.port.inHand = none) ∧
    ((after .checkpointPeriodExpiry writing).ckpt.due = true ∧ (after .checkpointPeriodExpiry writing).ckpt.writing ≠ none) ∧
    (saving.up = true ∧ saving.store.save ≠ none) ∧
    ((after .restart writing).ctl.restart = .awaitingWrite ∧ (after .restart writing).ckpt.writing ≠ none) ∧
    ((after .restart tow).ctl.restart = .finalWrite ∧ (after .restart tow).ckpt.writing ≠ none ∧ (after .restart tow).ckpt.due = false ∧
      (after .restart tow).port.inHand = some ⟨0x04, 0, ⟨.accepted, []⟩⟩) ∧
    (after .checkpointWriteComplete (after .restart tow)).ctl.restart = .sendingReply ∧
    (after .checkpointWriteComplete (after .restart tow)).port.inHand = some ⟨0x04, 0, ⟨.accepted, []⟩⟩ := by
  unfold State.quiet
  decide +kernel

/-- Each cause; a stored section that loads and one that does not; a record that checks, one that does not, and one whose write was cut
off. -/
theorem witness_StartBringsThePartUp :
    let saved := after .supplyDip (after (.saveComplete ⟨false, false, false, false, false⟩) saving)
    (down.ctl.coming = some .supplyDip ∧ down.ctl.resetHeld = false ∧ down.store.save = none ∧ down.ckpt.good = true ∧
      down.ckpt.writing = none) ∧
    ((after .powerOn tow).ctl.coming = some .powerOn ∧ (after .powerOn tow).ctl.resetHeld = false) ∧
    ((after .resetLineReleased (after .resetLineAsserted tow)).ctl.coming = some .resetLine ∧
      (after .resetLineReleased (after .resetLineAsserted tow)).ctl.resetHeld = false) ∧
    (after .replySent (after .checkpointWriteComplete (after .restart tow))).ctl.coming = some .restart ∧
    ((after .supplyDip writing).ctl.coming = some .supplyDip ∧ (after .supplyDip writing).ckpt.writing ≠ none) ∧
    ((after .supplyDip State.reset).ckpt.good = false ∧ (after .supplyDip State.reset).store.save = none) ∧
    (saved.ctl.coming = some .supplyDip ∧ saved.store.save = none ∧ saved.store.image.engine.good = true ∧
      saved.store.image.engine.marker = .apply ∧ saved.store.image.engine.values.valid .engine = true ∧
      saved.store.image.coupling.good = false) := by decide +kernel

/-- A save of ENGINE by APPLY, STEERING by DEFAULT and FUEL by APPLY, cut off by a start with none, one, two and all of them written. -/
theorem witness_StartBringsThePartUp_save :
    let j : SaveJob := ⟨⟨.apply, .default, .keep, .apply, .keep⟩, tow.settings, ⟨false, false, false, false, false⟩⟩
    let s := after .supplyDip (tow.onStore fun x => { x with save := some j })
    let before (c : Sec) := ((Sec.all.takeWhile (· != c)).filter fun d => d.pick j.choices != .keep).length
    (s.ctl.coming = some .supplyDip ∧ s.ctl.resetHeld = false ∧ s.store.save = some j) ∧
    Sec.all.map before = [0, 1, 2, 2, 3] ∧
    (List.range 4).map (fun n => Sec.all.map fun c =>
      (c.pick (after (.start ⟨false, n, ⟨false, false, false, false, false⟩⟩) s).store.image).good) =
      (let old := Sec.all.map fun c => (c.pick tow.store.image).good
       [false :: old.tail, [true, false] ++ old.drop 2, [true, true] ++ (old.drop 2).take 1 ++ [false] ++ old.drop 4,
         [true, true] ++ (old.drop 2).take 1 ++ [true] ++ old.drop 4]) := by decide +kernel

theorem witness_EachFigureHasItsWriters : tow.quiet ∧ (∃ t, exec .logPulse tow = .next t) ∧ ∃ t, exec (.setLever 300) tow = .next t :=
  ⟨by unfold State.quiet; decide +kernel, next_of (by decide +kernel), next_of (by decide +kernel)⟩

/-! #### The Barge Line -/

/-- The walk has a winch to poll, a bow unit to poll, and none left; a wait, a FAULT, a DOWN and a rejoin timer. -/
theorem witness_LineTimersAndTurnsSendFrames :
    (tow.up = true ∧ NodesOk tow ∧ tow.line.phase = .turnaround ∧ tow.line.repoll = none) ∧
    (tow.line.walk = 1 ∧ ∀ d ∈ tow.line.nodes, tow.line.walk ≤ d.address ∧ d.state = .active) ∧
    ((tow.onLine fun l => { l with walk := 3 }).line.nodes.filter (fun d => 3 ≤ d.address)).map (·.kind) = [.bow] ∧
    (∀ d ∈ tow.line.nodes, ¬41 ≤ d.address) ∧
    (inPhase (.awaiting .invite) tow).line.phase = .awaiting .invite ∧
    (inPhase .quiet (tow.onLine fun l => { l with state := .fault })).line.phase = .quiet ∧
    ((tow.onLine fun l => { l with nodes := [{ winch 101 1 .joining with rejoinRunning := true }] }).node? 101).map
      (fun d => (d.state, d.rejoinRunning)) = some (.joining, true) := by
  unfold NodesOk
  decide +kernel

/-- Each frame the master sends; counts of 0, 1 and 2 in UP, and a failure in DOWN. -/
theorem witness_EchoDecidesTheLineState :
    (tow.up = true ∧ tow.quiet ∧ NodesOk tow) ∧
    (∀ tx ∈ [TxFrame.invite, .lineReset, .assign 40478 4, .assignDeny 40478, .pollWinch 1 101 [.stop, .none] false, .pollBow 3 201 0 false],
      (inPhase (.sending tx) tow).line.phase = .sending tx) ∧
    (tow.line.state ≠ .down ∧ tow.line.failures < 2) ∧
    (let s := tow.onLine fun l => { l with state := .fault, failures := 1 }; s.line.state ≠ .down ∧ s.line.failures < 2) ∧
    (let s := tow.onLine fun l => { l with state := .fault, failures := 2 }; s.line.state ≠ .down ∧ 2 ≤ s.line.failures) ∧
    (tow.onLine fun l => { l with state := .down, failures := 3 }).line.state = .down := by
  unfold NodesOk State.quiet
  decide +kernel

/-- A FAULT with a record in each state, and a handshake on a record of each origin. -/
theorem witness_EchoDecidesTheLineState_reset :
    let states : List NodeState := [.active, .silent, .joining, .lost, .departing, .departed, .rejected]
    let s := inPhase (.sending .lineReset) (tow.onLine fun l =>
      { l with state := .fault, failures := 1, nodes := states.zipIdx.map fun x => winch (101 + x.2) (1 + x.2) x.1 })
    (s.up = true ∧ NodesOk s ∧ s.line.phase = .sending .lineReset ∧ s.line.state = .fault ∧ s.line.handshake = none) ∧
    (∀ x ∈ states.zipIdx, s.node? (101 + x.2) = some (winch (101 + x.2) (1 + x.2) x.1)) ∧
    ∀ o ∈ [HandshakeOrigin.created, .reused .lost, .standing],
      ((s.onLine fun l => { l with handshake := some ⟨103, 3, false, o⟩ }).line.handshake).map (fun h => (h.serial, h.origin)) =
        some (103, o) := by
  unfold NodesOk
  decide +kernel

/-- A reply of the bow unit and one of an URGENT winch; an earned repoll; a bow unit about to fall SILENT; a declaration and a removal. -/
theorem witness_BowRepliesReachTheList :
    let bow : TxFrame := .pollBow 3 201 0 false
    let wire : TxFrame := .pollWinch 1 101 [.none, .none] false
    let loose := tow.onSup fun u => { u with barges := u.barges.map fun b => { b with held := false } }
    (tow.up = true ∧ NodesOk tow ∧ tow.node? 201 = some (bowNode 201 3) ∧ (bowNode 201 3).kind = .bow ∧
      (bowNode 201 3).abilities.feedback = true ∧ (inPhase (.receiving bow) tow).line.phase = .receiving bow ∧
      goodFrame (lineFrame 3 2 [7, 1, 44]) false = some ⟨3, 2, [7, 1, 44]⟩ ∧ ∃ u ∈ tow.steer.bows, u.serial = 201) ∧
    (tow.node? 101 = some (winch 101 1 .active) ∧ (inPhase (.receiving wire) tow).line.phase = .receiving wire ∧
      goodFrame (lineFrame 1 2 [1, 0, 120, 1, 0, 95, 1]) false = some ⟨1, 2, [1, 0, 120, 1, 0, 95, 1]⟩) ∧
    (winch 101 1 .active ∈ tow.line.nodes ∧ tow.line.phase = .turnaround ∧ (winch 101 1 .active).state = .active ∧
      (tow.onLine fun l => { l with repoll := some 1 }).line.repoll = some 1) ∧
    ((bowNode 201 3).state = .active ∧ (bowNode 201 3).misses < 3) ∧
    (status (after (.declareBarge ⟨5, 6⟩ 13 400 1600 (some 202)) tow) = some .accepted ∧
      status (after (.removeBarge ⟨1, 2⟩) loose) = some .accepted) := by
  unfold NodesOk
  decide +kernel

/-- The winch that a good reply comes from: no live order names a coupling of it. -/
theorem witness_PollsEndInAReplyOrAMiss :
    let tx : TxFrame := .pollWinch 1 101 [.none, .none] false
    let chars := lineFrame 1 2 [0, 0, 120, 1, 0, 95, 1]
    (tow.up = true ∧ NodesOk tow ∧ tow.node? 101 = some (winch 101 1 .active) ∧ tow.node? 201 = some (bowNode 201 3)) ∧
    (inPhase (.receiving tx) tow).line.phase = .receiving tx ∧ (inPhase (.awaiting tx) tow).line.phase = .awaiting tx ∧
    (markOf chars true ≠ .none ∧ markOf (lineFrame 1 2 [0]).dropLast false ≠ .none) ∧
    (TablesOk tow ∧ tow.ordersOf 101 = [] ∧ goodFrame chars false = some ⟨1, 2, [0, 0, 120, 1, 0, 95, 1]⟩ ∧
      tow.coupling? 1 = some (faceWire .fast) ∧ (faceWire .fast).serial = 101 ∧
      (winchReports [0, 0, 120, 1, 0, 95, 1])[0]? = some ⟨120, ⟨true, false, false⟩⟩) := by
  unfold NodesOk TablesOk MakeupOk CouplingsOk RecordTablesOk MakeupOk CouplingsOk posLt
  decide +kernel

/-- A JOIN of an unknown winch with its required ability and of one without it, and an acknowledgement of a marked and an unmarked
record. -/
theorem witness_JoinAndAcknowledgementMakeANode :
    let joining (m : Bool) := tow.onLine fun l => { l with
      nodes := l.nodes ++ [{ winch 40478 4 .joining with departMark := m }], handshake := some ⟨40478, 4, false, .created⟩ }
    (tow.up = true ∧ NodesOk tow ∧ (inPhase (.receiving .invite) tow).line.phase = .receiving .invite ∧
      goodFrame (lineFrame 0 4 (bytesOf 4 40478 ++ [1, 15])) false = some ⟨0, 4, bytesOf 4 40478 ++ [1, 15]⟩ ∧
      goodFrame (lineFrame 0 4 (bytesOf 4 40478 ++ [1, 14])) false = some ⟨0, 4, bytesOf 4 40478 ++ [1, 14]⟩ ∧
      tow.node? 40478 = none ∧ (∀ d ∈ tow.line.nodes, d.address ≠ 4) ∧
      ∀ a : Fin 4, 1 ≤ a.val → ∃ d ∈ tow.line.nodes, d.address = a.val) ∧
    (NodesOk (joining false) ∧ NodesOk (joining true) ∧ (joining true).line.handshake = some ⟨40478, 4, false, .created⟩ ∧
      ((joining true).node? 40478).map (·.state) = some .joining ∧
      goodFrame (lineFrame 4 7 (bytesOf 4 40478)) false = some ⟨4, 7, bytesOf 4 40478⟩ ∧ natOf (bytesOf 4 40478) = 40478) := by
  unfold NodesOk
  decide +kernel

/-- A JOIN of a known winch in each state, as a winch and as a bow unit, with the required ability and without it; a full table; and a
JOIN of an unknown bow unit. -/
theorem witness_JoinAndAcknowledgementMakeANode_reuse :
    let frame (kind code : Byte) := lineFrame 0 4 (bytesOf 4 101 ++ [kind, code])
    let full := inPhase (.receiving .invite) (tow.onLine fun l => { l with nodes := (List.range 40).map fun i => winch (300 + i) (i + 1) .active })
    (∀ st ∈ [NodeState.joining, .active, .silent, .lost, .departing, .departed, .rejected],
      let s := inPhase (.receiving .invite) (tow.onLine fun l => { l with nodes := [winch 101 1 st] })
      s.up = true ∧ NodesOk s ∧ s.line.phase = .receiving .invite ∧ s.node? 101 = some (winch 101 1 st)) ∧
    (∀ kind ∈ [1, 2], ∀ code ∈ [15, 14, 31, 19],
      goodFrame (frame kind code) false = some ⟨0, 4, bytesOf 4 101 ++ [kind, code]⟩) ∧
    (full.up = true ∧ full.quiet ∧ NodesOk full ∧ full.line.phase = .receiving .invite ∧ full.node? 101 = none ∧
      ∀ a : Fin 41, 1 ≤ a.val → ∃ d ∈ full.line.nodes, d.address = a.val) ∧
    goodFrame (lineFrame 0 4 (bytesOf 4 40478 ++ [2, 19])) false = some ⟨0, 4, bytesOf 4 40478 ++ [2, 19]⟩ := by
  unfold NodesOk State.quiet
  decide +kernel

/-- A pending handshake of each origin, on a marked and an unmarked record; an acknowledgement of another serial, from another address, and
one that is spoiled. -/
theorem witness_JoinAndAcknowledgementMakeANode_fails :
    (∀ m ∈ [false, true], ∀ o ∈ [HandshakeOrigin.created, .reused .lost, .reused .departed, .reused .active, .reused .joining],
      let s := tow.onLine fun l => { l with
        nodes := l.nodes ++ [{ winch 40478 4 .joining with departMark := m }], handshake := some ⟨40478, 4, false, o⟩ }
      (s.up = true ∧ NodesOk s ∧ s.line.handshake.map (·.origin) = some o ∧
        (s.node? 40478).map (fun d => (d.state, d.departMark)) = some (.joining, m)) ∧
      (inPhase (.awaiting (.assign 40478 4)) s).line.phase = .awaiting (.assign 40478 4) ∧
      (after .bargeFrameSilence (inPhase (.receiving (.assign 40478 4)) s)).port.reportsLost = false) ∧
    goodFrame (lineFrame 4 7 (bytesOf 4 40479)) false = some ⟨4, 7, bytesOf 4 40479⟩ ∧ natOf (bytesOf 4 40479) ≠ 40478 ∧
    goodFrame (lineFrame 5 7 (bytesOf 4 40478)) false = some ⟨5, 7, bytesOf 4 40478⟩ ∧
    goodFrame (lineFrame 4 7 (bytesOf 4 40478)) true = none := by
  unfold NodesOk
  decide +kernel

theorem witness_RecordsAreReadAndForgotten_nodes : tow.up = true ∧ tow.node? 999 = none ∧ tow.node? 101 = some (winch 101 1 .active) ∧
    ((tow.onLine fun l => { l with nodes := [winch 101 1 .lost] }).node? 101).map (·.state) = some .lost := by decide +kernel

theorem witness_RecordTablesStayInOrder_nodes : NodesOk { tow with pending := [.forgetNode 101] } ∧
    ∃ t, step { tow with pending := [.forgetNode 101] } = .next t :=
  ⟨by unfold NodesOk; decide +kernel, next_of (by decide +kernel)⟩

/-! #### Makeup, couplings and orders -/

/-- Each row of the table of R4: values outside and at the limits, a position taken, a hull and a bow serial twice, a third bow unit. -/
theorem witness_DeclareBargeIsCheckedInOrder : tow.up = true ∧ (6 < 1 ∨ 5 < 6) ∧ (2000 < 2001 ∧ ¬2000 < 2000 ∧ ¬6000 < 6000) ∧
    (∃ x ∈ tow.sup.barges, x.pos = ⟨1, 2⟩) ∧ (¬∃ x ∈ tow.sup.barges, x.pos = ⟨5, 6⟩) ∧ (∃ x ∈ tow.sup.barges, x.hull = 12) ∧
    (∃ x ∈ tow.sup.barges, x.bow = some 201) ∧ (∃ c ∈ tow.sup.couplings, c.serial = 102) ∧
    (¬∃ x ∈ tow.sup.barges, x.hull = 13) ∧
    (let s := after (.declareBarge ⟨5, 6⟩ 13 2000 6000 (some 202)) tow;
      2 ≤ (s.sup.barges.filter (·.bow.isSome)).length ∧ ¬24 ≤ s.sup.barges.length) ∧
    ∀ c ∈ tow.sup.couplings, c.endsAt ⟨5, 6⟩ = false := by decide +kernel

/-- A place outside the grid, one with no record, a held barge, an unheld one, and an EXPECTED one. -/
theorem witness_RemoveBargeStrikesTheRecord :
    let loose := tow.onSup fun u => { u with barges := u.barges.map fun b => { b with held := false } }
    let expected := tow.onSup fun u => { u with barges := u.barges.map fun b => { b with state := .expected, held := false } }
    let mixed := tow.onSup fun u => { u with barges := u.barges.map fun b => if b.pos = ⟨1, 2⟩ then { b with state := .expected } else b }
    tow.up = true ∧ ¬(1 ≤ 6 ∧ 6 ≤ 5) ∧ (∀ x ∈ tow.sup.barges, x.pos ≠ ⟨5, 6⟩) ∧
    (tow.barge? ⟨1, 2⟩).map (fun b => (b.state, b.held)) = some (.inTow, true) ∧
    (loose.barge? ⟨1, 2⟩).map (fun b => (b.state, b.held)) = some (.inTow, false) ∧
    (expected.barge? ⟨1, 2⟩).map (·.state) = some .expected ∧
    (∀ c ∈ expected.couplingsAt ⟨1, 2⟩, expected.keepsBarge ⟨1, 2⟩ c = false) ∧
    (mixed.barge? ⟨1, 2⟩).map (·.state) = some .expected ∧
    ∃ c ∈ mixed.couplingsAt ⟨1, 2⟩, mixed.keepsBarge ⟨1, 2⟩ c = true := by decide +kernel

/-- A coupling of two neighbours and one too far; a number and a winch channel taken; a withdrawal that is busy and one that is not. -/
theorem witness_CouplingsAreDeclaredAndWithdrawn :
    (tow.up = true ∧ OrdersOk tow) ∧
    (∃ x ∈ tow.sup.barges, x.pos = ⟨1, 1⟩) ∧ (∃ x ∈ tow.sup.barges, x.pos = ⟨1, 2⟩) ∧ 2 ≤ 1 + 1 ∧ ¬3 ≤ 1 + 1 ∧
    (¬∃ c ∈ tow.sup.couplings, c.number = 32 ∨ (c.serial = 103 ∧ c.channel = 1)) ∧ (¬∃ x ∈ tow.sup.barges, x.bow = some 103) ∧
    (∃ c ∈ tow.sup.couplings, c.serial = 101 ∧ c.channel = 1) ∧ tow.coupling? 32 = none ∧
    (tow.coupling? 2 = some (columnWire .fast) ∧ tow.touchesTow (columnWire .fast) = true) ∧
    (let s := tow.onSup fun u => { u with couplings := [faceWire .fast, columnWire .released] };
      s.coupling? 2 = some (columnWire .released) ∧ s.liveOrders = []) :=
  ⟨⟨by decide +kernel, ordersOk_of_empty _ (by decide +kernel)⟩, by decide +kernel⟩

theorem witness_RecordsAreReadAndForgotten_makeup : tow.up = true ∧ ¬(1 ≤ 0 ∧ 0 ≤ 5) ∧ tow.barge? ⟨5, 6⟩ = none ∧
    (tow.barge? ⟨1, 1⟩).isSome = true ∧ tow.coupling? 32 = none ∧ tow.coupling? 2 = some (columnWire .fast) := by decide +kernel

/-- The default thresholds meet the constraint; tensions at and beside each of them, from each state. -/
theorem witness_CouplingsAreClassifiedByTheirReports_loaded :
    let h := tow.settings.coupling.thresholds 1
    0 ≤ h.hysteresis ∧ h.slack + h.hysteresis ≤ h.fast ∧ h.fast < h.overload - h.hysteresis ∧
    (∀ st ∈ [CouplingState.slack, .fast, .overload],
      let s := tow.onSup fun u => { u with couplings := [faceWire st, columnWire .fast] }
      s.coupling? 1 = some (faceWire st) ∧ s.orderOn 1 = none) ∧
    (∀ r ∈ [h.slack - 1, h.slack, h.slack + h.hysteresis - 1, h.slack + h.hysteresis, h.overload - h.hysteresis,
      h.overload - h.hysteresis + 1, h.overload, h.overload + 1], ((r.toNat : Nat) : Int) = r) := by decide +kernel

/-- A confirmed and an unconfirmed report on each side of Ts, from each state. -/
theorem witness_CouplingsAreClassifiedByTheirReports_unloaded :
    let h := tow.settings.coupling.thresholds 1
    (∀ st ∈ [CouplingState.unconfirmed, .lost, .released, .fault],
      let s := tow.onSup fun u => { u with couplings := [faceWire st, columnWire .fast] }
      s.coupling? 1 = some (faceWire st) ∧ s.orderOn 1 = none) ∧
    (((h.slack.toNat : Nat) : Int) = h.slack ∧ h.slack ≤ ((h.slack.toNat : Nat) : Int) ∧ ((h.slack.toNat - 1 : Nat) : Int) < h.slack) := by
  decide +kernel

/-- An ACTIVE RELEASE of a column wire, with 1/2 in its set. -/
def releasing : State :=
  withOrder ⟨103, .release 2 true [⟨1, 2⟩], .active, none, none, some 30000⟩
    (tow.onSup fun u => { u with couplings := [faceWire .fast, { columnWire .releasing with command := .release }] })

/-- A column wire with a barge in its set, and a face wire that holds a place. -/
theorem witness_ConfirmedReleaseCastsOffItsSet :
    let o : Order := ⟨103, .release 1 true [], .active, some .facePool, none, some 30000⟩
    let face := withOrder o (tow.onSup fun u => { u with couplings := [{ faceWire .releasing with command := .release }, columnWire .fast] })
    (OrdersOk releasing ∧ OrdersOk face) ∧ (releasing.coupling? 2).isSome = true ∧
    releasing.orderOn 2 = some (0, ⟨103, .release 2 true [⟨1, 2⟩], .active, none, none, some 30000⟩) ∧
    (((releasing.settings.coupling.thresholds 1).slack.toNat - 1 : Nat) : Int) < (releasing.settings.coupling.thresholds 1).slack ∧
    releasing.inTowAt ⟨1, 2⟩ = true ∧ ⟨1, 1⟩ ∉ ([⟨1, 2⟩] : List Pos) ∧ face.orderOn 1 = some (0, o) ∧ (face.coupling? 1).isSome = true :=
  ⟨⟨ordersOk_of_slots _ (by decide +kernel) (by decide +kernel) (by decide +kernel),
    ordersOk_of_slots _ (by decide +kernel) (by decide +kernel) (by decide +kernel)⟩, by decide +kernel⟩

/-- An unheld barge in tow with a live order on its wire, whose command is HAUL, and two nodes that belong to it alone; a RELEASED wire
between barges whose winch tends nothing else, and a wire of the face. -/
theorem witness_RemovalEndsOrdersAndGivesNotices :
    let o : Order := ⟨7, .haul 2, .active, none, none, some 60000⟩
    let loose := withOrder o (tow.onSup fun u => { u with
      barges := u.barges.map fun b => { b with held := false }, couplings := [faceWire .fast, { columnWire .hauling with command := .haul }] })
    let s := tow.onSup fun u => { u with couplings := [faceWire .released, { columnWire .released with command := .stop }] }
    (loose.up = true ∧ NodesOk loose ∧ (1 ≤ 1 ∧ 1 ≤ 5 ∧ 1 ≤ 2 ∧ 2 ≤ 6) ∧
      (loose.barge? ⟨1, 2⟩).map (fun b => (b.state, b.held)) = some (.inTow, false) ∧ loose.orders.slots[(0 : Fin 16)] = some o ∧
      (loose.coupling? 2).map (fun c => (c.endsAt ⟨1, 2⟩, c.command)) = some (true, .haul)) ∧
    (∀ n ∈ [201], (loose.node? n).isSome = true ∧ n ∈ loose.nodesOf ⟨1, 2⟩ ∧
      (after (.removeBarge ⟨1, 2⟩) loose).nodeNeeded n = false) ∧
    (s.up = true ∧ NodesOk s ∧ s.liveOrders = [] ∧ (s.coupling? 2).map (fun c => (c.state, c.isFace, c.serial)) = some (.released, false, 102) ∧
      (after (.withdrawCoupling 2) s).nodeNeeded 102 = false ∧ s.node? 102 = some (winch 102 2 .active)) ∧
    ((s.coupling? 1).map (fun c => (c.state, c.isFace)) = some (.released, true) ∧ s.node? 101 = some (winch 101 1 .active)) ∧
    (after (.removeBarge ⟨1, 2⟩) loose).port.reportsLost = false := by
  unfold NodesOk
  decide +kernel

theorem witness_TowFiguresFollowTheTables :
    let s := { tow with pending := [.declareCoupling 3 (.barge ⟨1, 2⟩) (.barge ⟨1, 1⟩) 103 2 1 4] }
    TablesOk s ∧ TowFiguresOk s ∧ ∃ t, step s = .next t :=
  ⟨by unfold TablesOk MakeupOk CouplingsOk RecordTablesOk MakeupOk CouplingsOk posLt; decide +kernel,
    by unfold TowFiguresOk State.quiet; decide +kernel, next_of (by decide +kernel)⟩

theorem witness_RecordTablesStayInOrder_makeup :
    let s := { tow with pending := [.declareBarge ⟨1, 3⟩ 13 400 1600 none] }
    TablesOk s ∧ ∃ t, step s = .next t :=
  ⟨by unfold TablesOk MakeupOk CouplingsOk RecordTablesOk MakeupOk CouplingsOk posLt; decide +kernel, next_of (by decide +kernel)⟩

/-- A HAUL of a face wire whose pool is free, and a RELEASE of a column wire under thrust; flag 1, and flag 0 where nothing is detached. -/
theorem witness_PostedWireOrdersStartOrWait :
    let pushed := tow.onProp fun p => { p with lever := 250, le := 250 }
    (tow.up = true ∧ tow.quiet ∧ tow.liveOrders = [] ∧ tow.coupling? 1 = some (faceWire .fast) ∧ tow.notCapable (faceWire .fast) = false ∧
      tow.nodeAbsent (faceWire .fast) = false ∧ tow.freeSlot = some 0 ∧ 0 < tow.freePlaces .facePool ∧
      tow.notCapable (columnWire .fast) = false ∧ (columnWire .fast).isFace = false) ∧
    (pushed.quiet ∧ pushed.settings.coupling.releaseLimit < (pushed.prop.le.natAbs : Int) ∧ pushed.coupling? 2 = some (columnWire .fast) ∧
      (let s := pushed.onSup fun u => { u with couplings := u.couplings ++ [{ columnWire .fast with number := 3, serial := 103 }] };
        s.detached 2 = [])) := by
  unfold State.quiet
  decide +kernel

/-- A face wire whose pool is full and one whose pool has a place, a column wire, |Le| at the release limit, flag 1, and flag 0 where nothing
is detached. -/
theorem witness_PostedWireOrdersStartOrWait_queued :
    let s := tow.onProp fun p => { p with lever := 100, le := 100 }
    let held (n : Nat) : Option Order := some ⟨n, .haul (20 + n), .active, some .facePool, none, some 60000⟩
    let full := (s.setSlot 0 (held 1)).setSlot 1 (held 2)
    (s.up = true ∧ s.quiet ∧ (s.prop.le.natAbs : Int) = s.settings.coupling.releaseLimit ∧ s.liveOrders = [] ∧
      s.coupling? 1 = some (faceWire .fast) ∧ (faceWire .fast).isFace = true ∧ s.coupling? 2 = some (columnWire .fast) ∧
      s.notCapable (faceWire .fast) = false ∧ s.nodeAbsent (faceWire .fast) = false ∧ s.freeSlot = some 0 ∧ 0 < s.freePlaces .facePool) ∧
    (full.quiet ∧ full.freePlaces .facePool = 0 ∧ full.freeSlot = some 2 ∧ full.coupling? 1 = some (faceWire .fast) ∧
      full.notCapable (faceWire .fast) = false ∧ full.nodeAbsent (faceWire .fast) = false ∧
      ∀ x ∈ full.liveOrders, x.2.tag ≠ 7 ∧ x.2.work.coupling? ≠ some 1) ∧
    (s.onSup fun u => { u with couplings := u.couplings ++ [{ faceWire .fast with number := 3, serial := 103 }] }).detached 1 = [] := by
  unfold State.quiet
  decide +kernel

/-- Each row of the table of R158. -/
theorem witness_PostOrderIsCheckedInOrder :
    let live := withOrder ⟨7, .haul 2, .active, none, none, some 60000⟩ tow
    let weak (d : Node) := tow.onLine fun l => { l with nodes := [d] }
    let full := { tow with orders := { tow.orders with slots := Vector.ofFn fun i => some ⟨i.val + 1, .bunker ⟨1, 0, 0⟩, .queued, none, none,
      none⟩ } }
    tow.up = true ∧ (∃ x ∈ live.liveOrders, x.2.tag = 7) ∧ (32 < 33 ∧ ¬32 < 32) ∧ (1 < 2 ∧ ¬1 < 1) ∧ tow.coupling? 32 = none ∧
    ((weak { winch 101 1 .active with role := .monitor }).node? 101).map (fun d => (d.state, d.role)) = some (.active, .monitor) ∧
    ((weak (winch 101 1 .lost)).node? 101).map (·.state) = some .lost ∧
    (∃ x ∈ live.liveOrders, x.2.work.coupling? = some 2) ∧ tow.detached 2 ≠ [] ∧ ∀ i : Fin 16, full.orders.slots[i] ≠ none := by
  decide +kernel

/-- A WAITING, a QUEUED, an ACTIVE and an ABORTING order of a wire. -/
theorem witness_OrdersAreAbortedOrRunOut :
    let wire (st : OrderState) : Order := ⟨7, .release 2 true [], st, none, some 60000, some 30000⟩
    let haul : Order := ⟨7, .haul 2, .active, none, none, some 60000⟩
    (∀ st ∈ [OrderState.waiting, .queued, .active, .aborting],
      let s := withOrder (wire st) tow
      s.up = true ∧ s.orderTagged 7 = some (0, wire st) ∧ s.orderTagged 8 = none ∧ s.orderOn 2 = some (0, wire st)) ∧
    (tow.quiet ∧ (withOrder haul tow).orderOn 2 = some (0, haul) ∧ (withOrder haul tow).coupling? 2 = some (columnWire .fast) ∧
      (after (.haulTimerExpiry 2) (withOrder haul tow)).port.reportsLost = false ∧
      (after (.releaseTimerExpiry 2) (withOrder (wire .active) tow)).port.reportsLost = false) ∧
    TablesOk tow ∧ OrdersOk (withOrder haul tow) ∧ OrdersOk (withOrder (wire .active) tow) :=
  ⟨by decide +kernel, by unfold State.quiet; decide +kernel,
    by unfold TablesOk MakeupOk CouplingsOk RecordTablesOk MakeupOk CouplingsOk posLt; decide +kernel, ordersOk_of_slots _ (by decide +kernel) (by decide +kernel) (by decide +kernel),
    ordersOk_of_slots _ (by decide +kernel) (by decide +kernel) (by decide +kernel)⟩

theorem witness_OrderTableKeepsItsRules_orders :
    let s := { tow with pending := [.postOrder 9 (.haul 1)] }
    TablesOk s ∧ OrdersOk s ∧ ∃ t, step s = .next t :=
  ⟨by unfold TablesOk MakeupOk CouplingsOk RecordTablesOk MakeupOk CouplingsOk posLt; decide +kernel,
    ordersOk_of_slots _ (by decide +kernel) (by decide +kernel) (by decide +kernel), next_of (by decide +kernel)⟩

theorem witness_OrderTableKeepsItsRules_places :
    let s := { tow with pending := [.postOrder 9 (.haul 1)] }
    PlacesOk s ∧ ∃ t, step s = .next t :=
  ⟨by unfold PlacesOk; decide +kernel, next_of (by decide +kernel)⟩

/-- An ACTIVE and an ABORTING HAUL of a column wire, with tensions at and beside each threshold; a first, a second and a third miss of its
winch; and its loss. -/
theorem witness_WireRepliesAndMissesEndOrders :
    let haul (st : OrderState) : Order := ⟨7, .haul 2, st, none, none, some 60000⟩
    let s (st : OrderState) := withOrder (haul st)
      (tow.onSup fun u => { u with couplings := [faceWire .fast, { columnWire .hauling with command := .haul }] })
    let h := tow.settings.coupling.thresholds 1
    let tx : TxFrame := .pollWinch 2 102 [.haul, .none] false
    let missed (n : Nat) (st : NodeState) := inPhase (.receiving tx) ((s .active).onLine fun l =>
      { l with nodes := [{ winch 102 2 st with misses := n, rejoinRunning := st = .joining }] })
    (OrdersOk (s .active) ∧ OrdersOk (s .aborting) ∧ OrdersOk (missed 1 .silent) ∧ OrdersOk (missed 0 .joining)) ∧
    (∀ st ∈ [OrderState.active, .aborting],
      (s st).orderOn 2 = some (0, haul st) ∧ (s st).orders.slots[(0 : Fin 16)] = some (haul st) ∧ ((s st).coupling? 2).isSome = true) ∧
    (0 ≤ h.hysteresis ∧ h.slack + h.hysteresis ≤ h.fast ∧ h.fast ≤ h.overload) ∧
    (∀ r ∈ [h.fast - 1, h.fast, h.overload, h.overload + 1], ((r.toNat : Nat) : Int) = r) ∧
    (∀ x ∈ [(0, NodeState.active), (1, .silent), (2, .silent)], let t := missed x.1 x.2
      t.up = true ∧ t.quiet ∧ t.line.phase = .receiving tx ∧ t.liveOrders = [(0, haul .active)] ∧
      t.node? 102 = some { winch 102 2 x.2 with misses := x.1 } ∧ x.1 < 3) ∧
    ((missed 0 .joining).node? 102).map (fun d => (d.state, d.rejoinRunning)) = some (.joining, true) := by
  refine ⟨⟨?_, ?_, ?_, ?_⟩, ?_⟩
  any_goals exact ordersOk_of_slots _ (by decide +kernel) (by decide +kernel) (by decide +kernel)
  unfold State.quiet
  decide +kernel

/-- Two HAULs at work on face wires and one behind them; a RELEASE that waits, without a place and for one, below and above the limit. -/
theorem witness_FreedPlacesAreGranted :
    let face (n serial channel : Nat) : Coupling := { faceWire .fast with number := n, serial := serial, channel := channel }
    let haul (n : Nat) (st : OrderState) : Order := ⟨n, .haul n, st, some .facePool, none, if st = .active then some 60000 else none⟩
    let pool := (((tow.onSup fun u => { u with couplings := [face 1 101 1, face 3 101 2, face 4 102 2] }).setSlot 0
      (some (haul 1 .active))).setSlot 1 (some (haul 3 .active))).setSlot 2 (some (haul 4 .queued))
    let release (r : Option Resource) : Order := ⟨60, .release 2 true [], .waiting, r, some 60000, none⟩
    let pushed := withOrder (release none) (tow.onProp fun p => { p with lever := 250, le := 250 })
    OrdersOk pool ∧
    (pool.up = true ∧ (pool.placeHolders .facePool).length = 2 ∧ pool.freePlaces .facePool = 0 ∧
      pool.orders.slots[(0 : Fin 16)] = some (haul 1 .active) ∧ pool.orders.slots[(2 : Fin 16)] = some (haul 4 .queued) ∧
      (∀ x ∈ pool.liveOrders, x.2.state = .queued → x.1 = 2) ∧ 0 < (pool.setSlot 0 none).freePlaces .facePool) ∧
    ((tow.prop.le.natAbs : Int) ≤ tow.settings.coupling.releaseLimit ∧
      (withOrder (release none) tow).orders.slots[(0 : Fin 16)] = some (release none) ∧
      (withOrder (release (some .facePool)) tow).orders.slots[(0 : Fin 16)] = some (release (some .facePool))) ∧
    (pushed.up = true ∧ pushed.quiet ∧ pushed.prop.source = .bridge ∧
      pushed.settings.coupling.releaseLimit < (pushed.prop.le.natAbs : Int) ∧
      ((after (.setLever 0) pushed).prop.le.natAbs : Int) ≤ pushed.settings.coupling.releaseLimit) :=
  ⟨ordersOk_of_slots _ (by decide +kernel) (by decide +kernel) (by decide +kernel), by
    unfold State.quiet
    decide +kernel⟩

/-! #### Propulsion, engines and steering -/

theorem witness_EffectiveLeverFollowsItsInputs :
    let s := { tow with pending := [.setLever 400] }
    LeverOk s ∧ ∃ t, step s = .next t :=
  ⟨by unfold LeverOk; decide +kernel, next_of (by decide +kernel)⟩

theorem witness_LeverIsDeliveredOrFallsSilent :
    let s := tow.onProp fun p => { p with silenceTimer := some 3000 }
    let hold := tow.onProp fun p => { p with phase := .hold, holdTimer := some 10000 }
    let instant := { s with store := { s.store with working := s.settings.put .backup 7 0 0 } }
    (tow.up = true ∧ tow.prop.source = .bridge) ∧ (after (.controlPeriodExpiry true 3000 2048) tow).prop.source = .backup ∧
    (s.prop.silenceTimer ≠ none ∧ s.prop.source = .bridge ∧ s.prop.phase = .normal ∧ 0 < s.settings.backup.holdTimeS) ∧
    instant.settings.backup.holdTimeS ≤ 0 ∧ (hold.prop.holdTimer ≠ none ∧ hold.prop.phase = .hold) := by decide +kernel

theorem witness_TakeoverInputChoosesTheSource : tow.up = true ∧ tow.prop.source = .bridge ∧
    (after (.controlPeriodExpiry true 3000 2048) tow).prop.source = .backup := by decide +kernel

theorem witness_DemandAndSyncFollowTheirPeriods :
    let s := (tow.onProp fun p => { p with le := 600, sync := true }).onChan 0 fun c => { c with gear := .ahead }
    (s.up = true ∧ s.quiet ∧ s.prop.source = .bridge ∧ s.settings.engine.present[(0 : Fin 4)] = 1) ∧
    (s.prop.sync = true ∧ s.chans[(0 : Fin 4)].mode = .inUse ∧ 0 < s.prop.le ∧ s.chans[(0 : Fin 4)].gear = .ahead) ∧
    (∀ e : Fin 4, ¬(tow.prop.sync = true ∧ tow.chans[e].gear = .ahead)) ∧ 2 ≤ 2 := by
  unfold State.quiet
  decide +kernel

theorem witness_DemandStaysInItsBand :
    let s := { engine1 .ahead 1200 tow with pending := [.controlPeriodExpiry false 0 0] }
    SettingsOk s ∧ DemandOk s ∧ ∃ t, step s = .next t :=
  ⟨fun sec => by cases sec <;> decide +kernel, by unfold DemandOk; decide +kernel, next_of (by decide +kernel)⟩

theorem witness_ClutchesFollowTheGearState : tow.up = true ∧ tow.settings.engine.present[(0 : Fin 4)] = 1 := by decide +kernel

theorem witness_ModesAndInputsActOnTheirChannels :
    let standby := tow.onChan 0 fun c => { c with mode := .standby, gear := .fault, fault := .overspeed }
    let input (raw : Bool) := tow.onChan 0 fun c => { c with running := ⟨raw, !raw, true⟩ }
    (tow.up = true ∧ (2 : Nat).testBit (1 : Fin 4).val = true ∧ 3 ≠ 1 ∧ 3 ≠ 2) ∧
    ((1 : Nat).testBit (0 : Fin 4).val = true ∧ standby.chans[(0 : Fin 4)].mode = .standby ∧ standby.chans[(0 : Fin 4)].gear = .fault ∧
      standby.settings.engine.present[(0 : Fin 4)] = 1) ∧
    ((input false).chans[(0 : Fin 4)].running.holding = true ∧ (input false).chans[(0 : Fin 4)].running.raw = false) ∧
    ((input true).chans[(0 : Fin 4)].running.raw = true ∧ (input true).chans[(0 : Fin 4)].gear = .stopped) := by decide +kernel

/-- A feedback that confirms an engagement and one that does not; a channel in each gear state and mode; one at idle and one above it. -/
theorem witness_ModesAndInputsActOnTheirChannels_gear :
    let engaging (raw : Bool) := tow.onChan 0 fun c => { c with gear := .engagingAhead, aheadFb := ⟨raw, !raw, true⟩ }
    (∀ raw ∈ [true, false], (engaging raw).up = true ∧ (engaging raw).settings.engine.present[(0 : Fin 4)] = 1 ∧
      EngineInput.aheadFeedback ≠ .running ∧ ((engaging raw).chans[(0 : Fin 4)].input .aheadFeedback).holding = true ∧
      ((engaging raw).chans[(0 : Fin 4)].input .aheadFeedback).raw = raw) ∧
    ((15 : Nat).testBit (3 : Fin 4).val = true ∧ (∀ f : Fin 4, #v[1, 2, 1, 2][f] = 1 ∨ #v[1, 2, 1, 2][f] = 2) ∧
      0 < tow.settings.engine.neutralDwellMs) ∧
    ∀ g ∈ [Gear.stopped, .neutral, .engagingAhead, .ahead, .engagingAstern, .astern, .disengaging], ∀ m ∈ [EngineMode.inUse, .standby],
      let s := tow.onChan 0 fun c => { c with gear := g, mode := m }
      s.up = true ∧ s.chans[(0 : Fin 4)].gear = g ∧ s.chans[(0 : Fin 4)].mode = m ∧
        s.chans[(0 : Fin 4)].demand = s.settings.engine.idle[(0 : Fin 4)] ∧
        (engine1 g 900 s).chans[(0 : Fin 4)].demand ≠ s.settings.engine.idle[(0 : Fin 4)] := by decide +kernel

/-- Each timer running; a shaft at the stop limit and one past it. -/
theorem witness_ChannelTimersEndTheirWaits :
    let timed (rpm : Int) := tow.onChan 0 fun c => { c with
      engageTimer := some 4000, dwellTimer := some 1500, dwellTimeout := some 8000, wrongWayTimer := some 2000,
      followTimer := some 8000, rpm := rpm }
    let limit := tow.settings.engine.shaftStop
    (timed 0).up = true ∧ (timed 0).chans[(0 : Fin 4)].engageTimer ≠ none ∧ (timed 0).chans[(0 : Fin 4)].wrongWayTimer ≠ none ∧
    (timed 0).chans[(0 : Fin 4)].followTimer ≠ none ∧ (timed 0).chans[(0 : Fin 4)].dwellTimeout ≠ none ∧
    (timed 0).chans[(0 : Fin 4)].dwellTimer ≠ none ∧ ((timed limit).chans[(0 : Fin 4)].rpm.natAbs : Int) ≤ limit ∧
    limit < ((timed (limit + 1)).chans[(0 : Fin 4)].rpm.natAbs : Int) := by decide +kernel

/-- A count that gives a speed past the overspeed margin, in NEUTRAL. -/
theorem witness_ShaftAndGovernorAreMeasured :
    let s := tow.onChan 0 fun c => { c with gear := .neutral, count := 1100 }
    s.up = true ∧ s.settings.engine.present[(0 : Fin 4)] = 1 ∧ s.chans[(0 : Fin 4)].gear ≠ .stopped ∧
    s.chans[(0 : Fin 4)].gear ≠ .fault ∧
    s.settings.engine.maxSpeed[(0 : Fin 4)] * (100 + s.settings.engine.overspeedMargin) <
      ((after (.shaftWindowExpiry 0) s).chans[(0 : Fin 4)].rpm.natAbs : Int) * 100 := by decide +kernel

/-- In AHEAD and ASTERN a shaft at the stop limit, past it the wrong way, at the follow limit and past it; in DISENGAGING with the dwell run
out, a shaft at the stop limit and past it, and one with the dwell running. One pulse in a window is 2 rpm. -/
theorem witness_ShaftAndGovernorAreMeasured_tests :
    let p := tow.settings.engine
    let turning (g : Gear) (demand count : Int) := engine1 g demand (tow.onChan 0 fun c => { c with count := count })
    let rpm (s : State) := (after (.shaftWindowExpiry 0) s).chans[(0 : Fin 4)].rpm
    (p.shaftStop = 60 ∧ p.followLimit = 150 ∧ p.ppr[(0 : Fin 4)] = 60) ∧
    (∀ x ∈ [(Gear.ahead, -30), (.ahead, -31), (.astern, 30), (.astern, 31), (.ahead, 375), (.ahead, 374), (.ahead, 525), (.ahead, 526)],
      let s := turning x.1 900 x.2
      s.up = true ∧ s.settings.engine.present[(0 : Fin 4)] = 1 ∧ s.chans[(0 : Fin 4)].gear = x.1 ∧ rpm s = 2 * x.2 ∧
        ((rpm s).natAbs : Int) * 100 ≤ p.maxSpeed[(0 : Fin 4)] * (100 + p.overspeedMargin)) ∧
    ∀ n ∈ [30, 31], rpm (turning .disengaging 600 n) = 2 * n ∧ (turning .disengaging 600 n).chans[(0 : Fin 4)].dwellTimer = none ∧
      ((turning .disengaging 600 n).onChan 0 fun c => { c with dwellTimer := some 1 }).chans[(0 : Fin 4)].dwellTimer ≠ none := by
  decide +kernel

theorem witness_SteeringOutputsFollowTheHelm :
    let s := { tow with pending := [.setHelm 300] }
    SteeringOk s ∧ ∃ t, step s = .next t :=
  ⟨by unfold SteeringOk; decide +kernel, next_of (by decide +kernel)⟩

theorem witness_HelmAndSteeringModeAreStored : (tow.up = true ∧ tow.prop.source = .bridge) ∧
    (after (.controlPeriodExpiry true 3000 2048) tow).prop.source = .backup ∧ (0 = 0 ∨ 4 ≤ 0) ∧ (4 = 0 ∨ 4 ≤ 4) ∧
    (1 ≤ 1 ∧ 1 ≤ 3) ∧ (1 ≤ 3 ∧ 3 ≤ 3) := by decide +kernel

/-- For a sample at the low end of the window and one below it; an error at the deadband and past it; a stall at its last period, and the
one before. -/
theorem witness_FollowUpDrivesRuddersOrStalls :
    let p := tow.settings.steering
    tow.up = true ∧ tow.settings.rudderPresent 0 = true ∧ tow.settings.rudderPresent 7 = false ∧
    (p.windowLow[(0 : Fin 8)] ≤ p.windowLow[(0 : Fin 8)] ∧ p.windowLow[(0 : Fin 8)] ≤ p.windowHigh[(0 : Fin 8)]) ∧
    ¬p.windowLow[(0 : Fin 8)] ≤ p.windowLow[(0 : Fin 8)] - 1 ∧ (¬p.deadband < p.deadband ∧ p.deadband < p.deadband + 1) ∧
    (let n : Int := p.stallTimeMs / 100; p.stallTimeMs ≤ (n - 1 + 1) * 100 ∧ (n - 2 + 1) * 100 < p.stallTimeMs) := by decide +kernel

/-- A demand that is not 0 in FULL; the unit of the tow is available, in FULL and in degraded steering. -/
theorem witness_BowDemandNeedsAnAvailableUnit :
    let u : BowUnit := ⟨⟨1, 2⟩, 201, some .active, some .bow, some true, some false, some 0, 0⟩
    (after (.setSteerMode 3) (tow.onSteer fun t => { t with helm := 500 })).bowDemandFor 201 ≠ 0 ∧
    (tow.steer.bows.find? (·.serial == u.serial) = some u ∧
      (tow.barge? u.pos).map (fun b => (b.state, b.held)) = some (.inTow, true) ∧
      (∀ a ∈ tow.sup.barges, a.state = .inTow → a.pos.row ≤ u.pos.row) ∧ (after (.setSteerMode 3) tow).steer.mode = .full ∧
      (tow.onSteer fun t => { t with degraded := true }).steer.degraded = true) := by decide +kernel

/-! #### Fuel and legs -/

/-- The clock at its last step and at its largest value. -/
theorem witness_PulsesAndSecondsCountOnce :
    let l := tow.legs.current
    let d := tow.settings.fuel.logDistanceMm
    tow.up = true ∧ 0 ≤ l.distance + d ∧ l.distance + d < 2 ^ 63 ∧ 0 ≤ l.tmm + tow.sup.tonnage * d ∧ l.tmm + tow.sup.tonnage * d < 2 ^ 63 ∧
    ({ tow with clock := ⟨4294967294, true⟩ }).clock.seconds < 4294967295 ∧
    ({ tow with clock := ⟨4294967295, true⟩ }).clock.seconds = 4294967295 := by decide +kernel

/-- Nothing to settle and no order live, an engine present, tanks present. -/
theorem witness_IntervalCorrectsBooksAndTests : tow.up = true ∧ tow.quiet ∧ tow.liveOrders = [] ∧
    tow.settings.engine.present[(0 : Fin 4)] = 1 ∧ tow.settings.fuel.tankPresent[(1 : Fin 8)] = 1 := by
  unfold State.quiet
  decide +kernel

theorem witness_FuelBooksBalance : tow.up = true ∧ SettingsOk tow ∧ FuelBounded tow ∧ OrderTanksOk tow :=
  ⟨by decide +kernel, fun sec => by cases sec <;> decide +kernel, by unfold FuelBounded; decide +kernel, by
    intro i o n h
    have e : ∀ i : Fin 16, tow.orders.slots[i] = none := by decide +kernel
    rw [e i] at h
    cases h⟩

/-- A tank number and a quantity past their limits and at them; an absent, a busy and a free tank. -/
theorem witness_SoundingReplacesTheBook :
    let busy := withOrder ⟨9, .bunker ⟨2, 0, 0⟩, .active, some .bunkerMeter, none, none⟩ tow
    tow.up = true ∧ (8 < 9 ∧ 1000000 < 1000001) ∧ (1000000 ≤ 1000000 ∧ (1 : Fin 8).val + 1 = 2) ∧
    tow.settings.fuel.tankPresent[(7 : Fin 8)] ≠ 1 ∧ tow.settings.fuel.tankPresent[(1 : Fin 8)] = 1 ∧
    (∃ x ∈ busy.liveOrders, 2 ∈ x.2.work.tanks ∧ (x.2.state = .active ∨ x.2.state = .aborting)) ∧ tow.liveOrders = [] ∧
    OrdersOk tow ∧ OrdersOk busy :=
  ⟨by decide +kernel, by decide, by decide, by decide +kernel, by decide +kernel, by decide +kernel, by decide +kernel,
    ordersOk_of_empty _ (by decide +kernel), ordersOk_of_slots _ (by decide +kernel) (by decide +kernel) (by decide +kernel)⟩

/-- With the pump and the bunker meter free, and with each taken. -/
theorem witness_PostedFuelOrdersStartOrQueue :
    let third := { tow with store := { tow.store with working := (tow.settings.put .fuel 3 3 1).put .fuel 3 4 1 } }
    let pumping := withOrder ⟨8, .transfer ⟨4, 3, 10, 0, 0, false, none, 0, false⟩, .active, some .pump, none, none⟩ third
    let filling := withOrder ⟨8, .bunker ⟨3, 0, 0⟩, .active, some .bunkerMeter, none, none⟩ third
    (tow.up = true ∧ tow.quiet ∧ tow.freeSlot = some 0 ∧ tow.liveOrders = [] ∧ tow.tankPresentAt 1 = true ∧ tow.tankPresentAt 2 = true ∧
      (1 ≤ 1 ∧ 500000 ≤ 500000) ∧ 0 < tow.freePlaces .pump ∧ 0 < tow.freePlaces .bunkerMeter ∧ tow.transferOrder = none ∧
      tow.bunkerOrder = none) ∧
    (pumping.quiet ∧ pumping.freePlaces .pump = 0 ∧ pumping.freeSlot = some 1 ∧ pumping.tankPresentAt 2 = true ∧
      ∀ x ∈ pumping.liveOrders, x.2.tag ≠ 9 ∧ 1 ∉ x.2.work.tanks ∧ 2 ∉ x.2.work.tanks) ∧
    (filling.quiet ∧ filling.freePlaces .bunkerMeter = 0 ∧ filling.freeSlot = some 1 ∧
      ∀ x ∈ filling.liveOrders, x.2.tag ≠ 9 ∧ 1 ∉ x.2.work.tanks) := by
  unfold State.quiet
  decide +kernel

/-- A TRANSFER that pumps on; one whose amount has come, with a coast and with a coast time of 0; one whose coast goes on, and one whose coast
ends, after a stop at an interval and between two. -/
theorem witness_IntervalEndsItsOrders_transfer :
    let work (litres moved : Nat) (coasting : Bool) (since : Nat) (between : Bool) : TransferWork :=
      ⟨2, 1, litres, moved, 0, coasting, if coasting then some .done else none, since, between⟩
    let s (w : TransferWork) := withOrder ⟨9, .transfer w, .active, some .pump, none, none⟩ tow
    let none' := { s (work 1 1000000 false 0 false) with store := { tow.store with working := tow.settings.put .fuel 11 0 0 } }
    let coast := tow.settings.fuel.coastS.toNat
    (∀ w ∈ [work 3000 0 false 0 false, work 1 1000000 false 0 false, work 1 1000000 true 0 false, work 1 1000000 true (coast - 1) false,
      work 1 1000000 true coast true], (s w).up = true ∧ OrdersOk (s w) ∧
        (s w).transferOrder = some (0, ⟨9, .transfer w, .active, some .pump, none, none⟩, w) ∧ w.source = (1 : Fin 8).val + 1 ∧
        w.dest = (0 : Fin 8).val + 1) ∧
    ((1 : Int) * 1000000 ≤ fitNat64 (1000000 + 0) ∧ 0 < tow.settings.fuel.coastS) ∧
    (none'.settings.fuel.coastS ≤ 0 ∧ OrdersOk none') ∧
    ((0 : Int) + 1 < tow.settings.fuel.coastS ∧ tow.settings.fuel.coastS ≤ ((coast - 1 : Nat) : Int) + 1 ∧
      tow.settings.fuel.coastS ≤ (coast : Int)) := by
  refine ⟨fun w hw => ⟨rfl, ordersOk_of_slots _ ?_ ?_ ?_, ?_⟩, by decide +kernel, ⟨by decide +kernel, ordersOk_of_slots _ ?_ ?_ ?_⟩,
    by decide +kernel⟩
  any_goals (revert w; decide +kernel)
  all_goals decide +kernel

/-- A BUNKER at work and one aborting; a volume that has come and none; a silence at each limit. -/
theorem witness_IntervalEndsItsOrders_bunker :
    let s (st : OrderState) (b : BunkerWork) := withOrder ⟨9, .bunker b, st, some .bunkerMeter, none, none⟩ tow
    let p := tow.settings.fuel
    let ended : BunkerWork := ⟨2, 1, p.bunkerEndS.toNat - 1⟩
    let waited : BunkerWork := ⟨2, 0, p.bunkerWaitS.toNat - 1⟩
    (∀ st ∈ [OrderState.active, .aborting], ∀ b ∈ [⟨2, 0, 0⟩, ended, waited], (s st b).up = true ∧ OrdersOk (s st b) ∧
      (s st b).bunkerOrder = some (0, ⟨9, .bunker b, st, some .bunkerMeter, none, none⟩, b) ∧ b.dest = (1 : Fin 8).val + 1) ∧
    ((s .active ended).fuel.meters[(9 : Fin 10)].lastCount = 0 ∧ p.bunkerEndS ≤ (ended.silence : Int) + 1 ∧
      p.bunkerWaitS ≤ (waited.silence : Int) + 1 ∧ ¬p.capacityL[(1 : Fin 8)] * 1000000 ≤ tow.fuel.tanks[(1 : Fin 8)].book) ∧
    p.capacityL[(1 : Fin 8)] * 1000000 ≤
      (tow.onTank 1 fun t => { t with book := p.capacityL[(1 : Fin 8)] * 1000000 }).fuel.tanks[(1 : Fin 8)].book := by
  refine ⟨fun st hs b hb => ⟨rfl, ordersOk_of_slots _ ?_ ?_ ?_, ?_⟩, by decide +kernel⟩
  all_goals (revert b; revert st; decide +kernel)

/-- A tank made present, one made absent, a role, a capacity and a low level; and a tank that a live order names. -/
theorem witness_TankSettingsActOnTheTank :
    let busy := withOrder ⟨9, .bunker ⟨2, 0, 0⟩, .active, some .bunkerMeter, none, none⟩ tow
    (tow.up = true ∧ tow.quiet ∧ busy.quiet) ∧
    (∀ x ∈ [(3, (2 : Fin 8), (1 : Int)), (3, 1, 0), (4, 1, 2), (5, 1, (settingRange .fuel 5).2), (6, 1, (settingRange .fuel 6).1)],
      (tow.settings.get .fuel x.1 (x.2.1.val + 1)).any (· != x.2.2) = true ∧ (settingRange .fuel x.1).1 ≤ x.2.2 ∧
      x.2.2 ≤ (settingRange .fuel x.1).2 ∧ (tow.settings.put .fuel x.1 (x.2.1.val + 1) x.2.2).consistent .fuel = true) ∧
    (∃ x ∈ busy.liveOrders, 2 ∈ x.2.work.tanks) ∧ tow.liveOrders = [] ∧ tow.settings.tankPresent 1 = true := by
  unfold State.quiet
  decide +kernel

/-- Each row of R158 for two tanks; a QUEUED, an ACTIVE, a coasting and an ABORTING order. -/
theorem witness_FuelOrdersAreCheckedAndAborted :
    let pumps (st : OrderState) (coasting : Bool) : Order :=
      ⟨9, .transfer ⟨2, 1, 10, 0, 0, coasting, none, 0, false⟩, st, some .pump, none, none⟩
    let fills (st : OrderState) : Order := ⟨9, .bunker ⟨2, 0, 0⟩, st, some .bunkerMeter, none, none⟩
    let full := { tow with orders := { tow.orders with slots := Vector.ofFn fun i => some ⟨i.val + 1, .haul (i.val + 1), .queued, none, none,
      none⟩ } }
    (∀ o ∈ [pumps .queued false, pumps .active false, pumps .active true, pumps .aborting true, fills .queued, fills .active, fills .aborting],
      let s := withOrder o tow
      s.up = true ∧ s.orderTagged 9 = some (0, o) ∧ o.work.tanks ≠ [] ∧ (∃ x ∈ s.liveOrders, x.2.tag = 9) ∧
        ∃ x ∈ s.liveOrders, 2 ∈ x.2.work.tanks) ∧
    ((0 = 0) ∧ (8 < 9 ∧ ¬8 < 8 ∧ 0 < 1) ∧ (500000 < 500001 ∧ ¬500000 < 500000) ∧ tow.settings.fuel.tankPresent[(7 : Fin 8)] ≠ 1 ∧
      tow.settings.fuel.tankPresent[(0 : Fin 8)] = 1 ∧ tow.settings.fuel.tankPresent[(1 : Fin 8)] = 1) ∧
    (∀ i : Fin 16, full.orders.slots[i] ≠ none) ∧ ((¬∃ x ∈ full.liveOrders, x.2.tag = 17) ∧ ∀ x ∈ full.liveOrders, x.2.work.tanks = []) ∧
    (withOrder (pumps .active false) tow).transferOrder.isSome = true ∧ (withOrder (fills .active) tow).bunkerOrder.isSome = true := by
  decide +kernel

/-- The open leg's number and another; an empty log, a log with one leg, with and without a pending close, and a full log. -/
theorem witness_LegsCloseAndAreReleased :
    let closed := after (.closeLeg 1) tow
    let pending := { closed with legs := { closed.legs with current := { closed.legs.current with pendingClose := true } } }
    let full := { tow with legs := { tow.legs with log := List.replicate 12 ⟨.opened 1 ⟨0, false⟩ 0, ⟨0, false⟩, .host, none⟩ } }
    (tow.up = true ∧ tow.quiet ∧ tow.legs.current.number = 1 ∧ 2 ≠ tow.legs.current.number ∧ tow.legs.log = []) ∧
    (closed.quiet ∧ closed.legs.log.map (·.leg.number) = [1] ∧ closed.legs.current.pendingClose = false) ∧
    (pending.legs.current.pendingClose = true ∧ pending.legs.current.number ≠ 4294967295) ∧ 12 ≤ full.legs.log.length := by
  unfold State.quiet
  decide +kernel

/-- A makeup change with room in the log, with a full log, and with a close pending; the removal of an unheld barge in tow brings one. -/
theorem witness_LegsCloseAndAreReleased_makeup :
    let loose := tow.onSup fun u => { u with barges := u.barges.map fun b => { b with held := false } }
    let full := { loose with legs := { tow.legs with log := List.replicate 12 ⟨.opened 1 ⟨0, false⟩ 0, ⟨0, false⟩, .host, none⟩ } }
    let pending := { loose with legs := { tow.legs with current := { tow.legs.current with pendingClose := true } } }
    (∀ s ∈ [loose, full, pending], s.up = true ∧ s.quiet ∧ s.liveOrders = [] ∧ s.legs.current.number ≠ 4294967295 ∧
      (s.barge? ⟨1, 2⟩).map (fun b => (b.state, b.held)) = some (.inTow, false)) ∧
    (loose.legs.current.pendingClose = false ∧ loose.legs.log.length < 12) ∧
    (full.legs.current.pendingClose = false ∧ 12 ≤ full.legs.log.length) ∧ pending.legs.current.pendingClose = true := by
  unfold State.quiet
  decide +kernel

theorem witness_QueueAndLegLogStayBounded_legs :
    let s := { tow with pending := [.closeLeg 1] }
    LegLogOk s ∧ ∃ t, step s = .next t :=
  ⟨by unfold LegLogOk LegsOk; decide +kernel, next_of (by decide +kernel)⟩

end Sys2Proof.Tests
end

section
/-! ### Lists whose records correspond one to one -/

namespace Sys2Proof.Machine

theorem forall₂_chain {α : Type} {R : α → α → Prop} (hR : ∀ a b c, R a b → R b c → R a c) {l m n : List α}
    (h : List.Forall₂ R l m) (h' : List.Forall₂ R m n) : List.Forall₂ R l n := by
  induction h generalizing n with
  | nil => exact h'
  | cons hab _ ih =>
    cases h' with
    | cons hbc hs => exact .cons (hR _ _ _ hab hbc) (ih hs)

/-- A figure that corresponding records share is the same along the list. -/
theorem forall₂_map_eq {α β γ : Type} {R : α → β → Prop} {f : α → γ} {g : β → γ} (hR : ∀ a b, R a b → g b = f a)
    {l : List α} {m : List β} (h : List.Forall₂ R l m) : m.map g = l.map f := by
  induction h with
  | nil => rfl
  | cons hab _ ih => simp [hR _ _ hab, ih]

theorem forall₂_of_map {α : Type} {R : α → α → Prop} {f : α → α} {l : List α} (h : ∀ a ∈ l, R a (f a)) :
    List.Forall₂ R l (l.map f) :=
  List.forall₂_map_right_iff.2 (List.forall₂_same.2 h)

/-! ### What the shared operations keep

Most commands write one figure of their own and then run operations that many commands share: reports, notices, order starts
and completions, the holding analysis, the re-test, the checkpoint write. `Kept s t` says what these operations keep. -/

/-- R3: what a declaration gives a barge record, for good. -/
def Barge.declared (b : Barge) : Pos × Nat × Nat × Nat × Option Nat := (b.pos, b.hull, b.light, b.cargo, b.bow)

/-- R3, as the checkpoint holds it. -/
def SavedBarge.declared (b : SavedBarge) : Pos × Nat × Nat × Nat × Option Nat := (b.pos, b.hull, b.light, b.cargo, b.bow)

/-- R7: what a declaration gives a coupling record, for good. -/
def Coupling.declared (c : Coupling) : Nat × CouplingEnd × Pos × Nat × Nat × Bool × Nat :=
  (c.number, c.endA, c.endB, c.serial, c.channel, c.winchAtB, c.cls)

/-- A barge record is the same one, and a changed flag that is set stays set (R10). -/
def BargeKept (b c : Barge) : Prop := c.declared = b.declared ∧ (b.changed = true → c.changed = true)

/-- An order of a slot is the same one: its tag and resource stand, and so does the work of a HAUL or RELEASE. -/
def OrderKept (o p : Order) : Prop :=
  p.tag = o.tag ∧ p.resource = o.resource ∧ (p.work = o.work ∨ p.work.coupling? = none ∧ o.work.coupling? = none)

/-- The records of the Makeup Table are the same ones. -/
def BargesKept : List Barge → List Barge → Prop := List.Forall₂ BargeKept

/-- No slot takes a new order. -/
def OrdersKept (x y : Orders) : Prop :=
  ∀ (i : Fin 16) (p : Order), y.slots[i] = some p → ∃ o, x.slots[i] = some o ∧ OrderKept o p

@[simp] theorem bargesKept_refl (l : List Barge) : BargesKept l l := List.forall₂_same.2 fun _ _ => ⟨rfl, id⟩

@[simp] theorem ordersKept_refl (x : Orders) : OrdersKept x x := fun _ p hp => ⟨p, hp, rfl, rfl, .inl rfl⟩

/-- R176: the report stands in the queue, unless a report was lost. -/
def State.stands (s : State) (r : Report) : Prop := s.port.reportsLost = true ∨ r ∈ s.port.queue

/-- The record holds the two tables as the supervisor holds them. -/
def Record.holds (r : Record) (u : Supervisor) : Prop :=
  r.barges.map SavedBarge.declared = u.barges.map Barge.declared ∧ r.couplings.map (·.number) = u.couplings.map (·.number)

/-- What the shared operations keep of a state. -/
structure Kept (s t : State) : Prop where
  stores : SameStores s t := by simp [SameStores]
  inHand : t.port.inHand = s.port.inHand := by simp
  buffer : t.port.buffer = s.port.buffer := by simp
  stands : ∀ r : Report, r.kind ≠ .change → s.stands r → t.stands r := by simp [State.stands]
  lever : t.prop.lever = s.prop.lever := by simp
  source : t.prop.source = s.prop.source := by simp
  sync : t.prop.sync = s.prop.sync := by simp
  helm : t.steer.helm = s.steer.helm := by simp
  mode : t.steer.mode = s.steer.mode := by simp
  barges : BargesKept s.sup.barges t.sup.barges := by simp
  couplings : t.sup.couplings.map Coupling.declared = s.sup.couplings.map Coupling.declared := by simp
  orders : OrdersKept s.orders t.orders := by simp
  record : t.ckpt.record = s.ckpt.record := by simp
  good : t.ckpt.good = s.ckpt.good := by simp
  writing : ∀ r, t.ckpt.writing = some r → s.ckpt.writing = some r ∨ r.holds s.sup := by simp +contextual

variable {s t u : State}

theorem BargeKept.trans {b c d : Barge} (h : BargeKept b c) (h' : BargeKept c d) : BargeKept b d :=
  ⟨h'.1.trans h.1, fun hb => h'.2 (h.2 hb)⟩

theorem OrderKept.trans {o p q : Order} (h : OrderKept o p) (h' : OrderKept p q) : OrderKept o q := by
  obtain ⟨ht, hr, hw⟩ := h
  obtain ⟨ht', hr', hw'⟩ := h'
  refine ⟨ht'.trans ht, hr'.trans hr, ?_⟩
  rcases hw with hw | hw <;> rcases hw' with hw' | hw'
  · exact .inl (hw'.trans hw)
  · exact .inr ⟨hw'.1, hw ▸ hw'.2⟩
  · exact .inr ⟨hw' ▸ hw.1, hw.2⟩
  · exact .inr ⟨hw'.1, hw.2⟩

theorem BargesKept.trans {l m n : List Barge} (h : BargesKept l m) (h' : BargesKept m n) : BargesKept l n :=
  forall₂_chain (fun _ _ _ hb hb' => hb.trans hb') h h'

theorem OrdersKept.trans {x y z : Orders} (h : OrdersKept x y) (h' : OrdersKept y z) : OrdersKept x z := fun i q hq => by
  obtain ⟨p, hp, hpq⟩ := h' i q hq
  obtain ⟨o, ho, hop⟩ := h i p hp
  exact ⟨o, ho, hop.trans hpq⟩

theorem bargesKept_declared {l m : List Barge} (h : BargesKept l m) :
    m.map Barge.declared = l.map Barge.declared := forall₂_map_eq (fun _ _ hb => hb.1) h

theorem Kept.declaredBarges (h : Kept s t) : t.sup.barges.map Barge.declared = s.sup.barges.map Barge.declared :=
  bargesKept_declared h.barges

theorem Kept.numbers (h : Kept s t) : t.sup.couplings.map (·.number) = s.sup.couplings.map (·.number) := by
  simpa [Coupling.declared, Function.comp_def] using congrArg (List.map Prod.fst) h.couplings

theorem Kept.refl (s : State) : Kept s s where

theorem Kept.trans (h : Kept s t) (h' : Kept t u) : Kept s u where
  stores := by
    obtain ⟨h1, h2, h3, h4⟩ := h.stores
    obtain ⟨g1, g2, g3, g4⟩ := h'.stores
    exact ⟨g1.trans h1, g2.trans h2, g3.trans h3, g4.trans h4⟩
  inHand := h'.inHand.trans h.inHand
  buffer := h'.buffer.trans h.buffer
  stands r hr hs := h'.stands r hr (h.stands r hr hs)
  lever := h'.lever.trans h.lever
  source := h'.source.trans h.source
  sync := h'.sync.trans h.sync
  helm := h'.helm.trans h.helm
  mode := h'.mode.trans h.mode
  barges := h.barges.trans h'.barges
  couplings := h'.couplings.trans h.couplings
  orders := h.orders.trans h'.orders
  record := h'.record.trans h.record
  good := h'.good.trans h.good
  writing r hr := by
    rcases h'.writing r hr with hw | ⟨hb, hc⟩
    · exact h.writing r hw
    · exact .inr ⟨hb.trans h.declaredBarges, hc.trans h.numbers⟩

theorem kept_ite {p : Prop} [Decidable p] {a b : State} (ha : Kept s a) (hb : Kept s b) : Kept s (if p then a else b) := by
  split
  · exact ha
  · exact hb

/-! #### The parts of the state one at a time -/

theorem kept_onChan {e : Fin 4} {f : Channel → Channel} (h : Kept s t) : Kept s (t.onChan e f) := h.trans {}

theorem kept_onLegs {f : Legs → Legs} (h : Kept s t) : Kept s (t.onLegs f) := h.trans {}

theorem kept_onLeg {f : Leg → Leg} (h : Kept s t) : Kept s (t.onLeg f) := h.trans {}

theorem kept_onFuel {f : Fuel → Fuel} (h : Kept s t) : Kept s (t.onFuel f) := h.trans {}

theorem kept_onTank {k : Fin 8} {f : Tank → Tank} (h : Kept s t) : Kept s (t.onTank k f) := h.trans {}

theorem kept_onLine {f : Line → Line} (h : Kept s t) : Kept s (t.onLine f) := h.trans {}

theorem kept_onSettling {f : Settling → Settling} (h : Kept s t) : Kept s (t.onSettling f) := h.trans {}

theorem kept_askCheckpoint (h : Kept s t) : Kept s (askCheckpoint t) := h.trans {}

/-- An update of the Steering Controller that leaves helm and mode. -/
theorem kept_onSteer {f : Steering → Steering} (hh : ∀ x, (f x).helm = x.helm) (hm : ∀ x, (f x).mode = x.mode)
    (h : Kept s t) : Kept s (t.onSteer f) := h.trans { helm := by simp [hh], mode := by simp [hm] }

/-- An update of the Propulsion Controller that leaves lever, source and sync. -/
theorem kept_onProp {f : Propulsion → Propulsion} (hl : ∀ x, (f x).lever = x.lever) (hs : ∀ x, (f x).source = x.source)
    (hy : ∀ x, (f x).sync = x.sync) (h : Kept s t) : Kept s (t.onProp f) :=
  h.trans { lever := by simp [hl], source := by simp [hs], sync := by simp [hy] }

/-- An update of the supervisor's figures alone. -/
theorem kept_onSup {f : Supervisor → Supervisor} (hb : ∀ x, (f x).barges = x.barges) (hc : ∀ x, (f x).couplings = x.couplings)
    (h : Kept s t) : Kept s (t.onSup f) :=
  h.trans { barges := by simp [hb], couplings := by simp [hc] }

theorem kept_onBarge {p : Pos} {f : Barge → Barge} (hf : ∀ b, BargeKept b (f b)) (h : Kept s t) : Kept s (t.onBarge p f) :=
  h.trans
    { barges := forall₂_of_map fun b _ => by
        split
        · exact hf b
        · exact ⟨rfl, id⟩
      couplings := rfl }

theorem onCoupling_declared (n : Nat) {f : Coupling → Coupling} (hf : ∀ c, (f c).declared = c.declared) (s : State) :
    (s.onCoupling n f).sup.couplings.map Coupling.declared = s.sup.couplings.map Coupling.declared := by
  simp only [State.onCoupling, onSup_sup, List.map_map]
  refine List.map_congr_left fun c _ => ?_
  simp only [Function.comp_apply]
  split
  · exact hf c
  · rfl

theorem kept_onCoupling {n : Nat} {f : Coupling → Coupling} (hf : ∀ c, (f c).declared = c.declared) (h : Kept s t) :
    Kept s (t.onCoupling n f) :=
  h.trans { couplings := onCoupling_declared n hf t, barges := bargesKept_refl _ }

theorem kept_forAll {α : Type} {l : List α} {f : α → State → State} (hf : ∀ a ∈ l, ∀ u, Kept s u → Kept s (f a u))
    (h : Kept s t) : Kept s (forAll l f t) := forAll_induct l f t hf h

/-! #### Reports -/

theorem mem_replaceChange {r x : Report} {q : List Report} (hx : x.kind ≠ .change) (h : x ∈ q) : x ∈ replaceChange r q := by
  induction q with
  | nil => exact h
  | cons a q ih =>
    simp only [replaceChange]
    rcases List.mem_cons.1 h with rfl | h
    · have : coalesces r x = false := by simp [coalesces, hx]
      simp [this]
    · split
      · exact List.mem_cons_of_mem _ h
      · exact List.mem_cons_of_mem _ (ih h)

/-- R176: a report other than a CHANGE stays in the queue until one is lost. -/
theorem mem_enqueue {r x : Report} {q : List Report} (hx : x.kind ≠ .change) (h : x ∈ q) :
    (enqueue r q).2 = true ∨ x ∈ (enqueue r q).1 := by
  unfold enqueue
  split
  · exact .inr (mem_replaceChange hx h)
  · split
    · exact .inr (List.mem_append_left _ h)
    · split
      · exact .inl rfl
      · exact .inl rfl

theorem kept_report {k : ReportKind} {b : Subject} {d : List Byte} (h : Kept s t) : Kept s (report k b d t) :=
  h.trans
    { inHand := rfl
      buffer := rfl
      stands := fun r hr hs => by
        rw [report_eq]
        rcases hs with hl | hq
        · exact .inl (by simp [hl])
        · rcases mem_enqueue (r := ⟨k, b, t.clock, d⟩) hr hq with hl | hq'
          · exact .inl (by simp [hl])
          · exact .inr hq' }

/-- R176: a report that is queued stands. -/
theorem report_stands (k : ReportKind) (b : Subject) (d : List Byte) (s : State) (hk : k ≠ .change) :
    (report k b d s).stands ⟨k, b, s.clock, d⟩ := by
  have hc : s.port.queue.any (coalesces ⟨k, b, s.clock, d⟩) = false := by simp [coalesces, hk]
  rw [report_eq]
  simp only [State.stands, enqueue, hc]
  split_ifs <;> simp_all

end Sys2Proof.Machine
end

section
/-! ### Invariants along the operations of the Barge Line

A notice of a node state reaches couplings and orders; a reply reaches them too, and casts barges off. An invariant that the few
operations these are made of keep is kept by every event of the line. -/

namespace Sys2Proof.Machine

/-- R39: the serial and the address of a record, which it keeps for good. -/
def Node.key (d : Node) : Nat × Nat := (d.serial, d.address)

/-- What an order that starts or a winch that is lost sets a coupling to. -/
def CouplingState.byOrder (st : CouplingState) : Prop := st = .hauling ∨ st = .releasing ∨ st = .lost

/-- What the start of an order, and so a re-test, must keep. `N` are the couplings it may act on: those that orders that hold no place
name. -/
structure StartKeeps (N : Nat → Prop) (P : State → Prop) : Prop where
  report : ∀ {s} k i l, P s → P (report k i l s)
  requeued : ∀ {s} i (o : Order) st, s.orders.slots[i] = some o → o.working = false → P s →
    P (s.setSlot i (some { o with state := st }))
  started : ∀ {s} i (o : Order), s.orders.slots[i] = some o → o.working = false → P s →
    P ((s.setSlot i (some { o with state := .active, waitTimer := none, workTimer := s.workTimer o.work })).onOrders
      fun t => t.setLast i o.resource)
  command : ∀ {s} n c, N n → P s → P (setCommand n c s)
  coupling : ∀ {s} n st, N n → st.byOrder → P s → P (setCouplingState n st s)
  names : ∀ {s} (i : Fin 16) (o : Order), P s → s.orders.slots[i] = some o → o.working = false →
    ∀ n, o.work.coupling? = some n → N n := by intros; trivial

/-- What the end of an order must keep as well, and what a notice does to nodes and bow units. -/
structure EndKeeps (N : Nat → Prop) (P : State → Prop) : Prop extends StartKeeps N P where
  node : ∀ {s} n f, (∀ d : Node, (f d).key = d.key) → P s → P (s.onNode n f)
  bow : ∀ {s} n f, P s → P (s.onBow n f)
  freed : ∀ {s} i, P s → P (s.setSlot i none)

/-- What the operations of a node-state notice must keep: they may act on every coupling. -/
structure NoticeKeeps (P : State → Prop) : Prop extends EndKeeps (fun _ => True) P

theorem keeps_ite {P : State → Prop} {p : Prop} [Decidable p] {a b : State} (ha : P a) (hb : P b) : P (if p then a else b) := by
  split
  · exact ha
  · exact hb

/-- The order in a slot, where one was just put that holds no place, holds none. -/
theorem idle_setSlot {s : State} {i : Fin 16} {o : Order} (ho : o.working = false) :
    ∀ p, (s.setSlot i (some o)).orders.slots[i] = some p → p.working = false := fun p hp => by
  rw [setSlot_same] at hp
  exact Option.some.inj hp ▸ ho

namespace StartKeeps

variable {N : Nat → Prop} {P : State → Prop} {s : State}

theorem tankReportOf (k : StartKeeps N P) (n : Nat) (h : P s) : P (tankReportOf n s) := by
  unfold Machine.tankReportOf
  split
  · exact k.report _ _ _ h
  · exact h

theorem handToBlock (k : StartKeeps N P) (w : Work) (hw : ∀ n, w.coupling? = some n → N n) (h : P s) : P (handToBlock w s) := by
  cases w with
  | haul c => exact k.coupling _ _ (hw c rfl) (.inl rfl) (k.command _ _ (hw c rfl) h)
  | release c f l => exact k.coupling _ _ (hw c rfl) (.inr (.inl rfl)) (k.command _ _ (hw c rfl) h)
  | transfer w => exact k.tankReportOf _ (k.tankReportOf _ h)
  | bunker b => exact k.tankReportOf _ h

/-- R164: an order that holds no place starts. -/
theorem startOrder (k : StartKeeps N P) (i : Fin 16) (hi : ∀ o, s.orders.slots[i] = some o → o.working = false) (h : P s) :
    P (startOrder i s) := by
  unfold Machine.startOrder
  split
  · exact h
  · next o ho => exact k.handToBlock _ (k.names i o h ho (hi o ho)) (k.started i o ho (hi o ho) h)

theorem placeOrder (k : StartKeeps N P) (tag : Nat) (i : Fin 16) (w : Work) (r : Option Resource)
    (h : ∀ o, P (s.setSlot i (some o))) : P (placeOrder tag i w r s) := by
  simp only [Machine.placeOrder]
  split
  · exact k.startOrder i (idle_setSlot (by simp [Order.working])) (h _)
  · exact h _

theorem grantScan (k : StartKeeps N P) (r : Resource) (h : P s) : P (grantScan r s) := by
  unfold Machine.grantScan
  repeat' split
  · exact h
  · next i hq =>
    refine k.startOrder i (fun o ho => ?_) h
    have := List.find?_some hq
    simp only [State.qualifies, ho, Option.any_some, Bool.and_eq_true, beq_iff_eq] at this
    simp [Order.working, this.1.1]
  · exact h

theorem retestSlot (k : StartKeeps N P) (i : Fin 16) (h : P s) : P (retestSlot i s) := by
  unfold Machine.retestSlot
  split
  · exact h
  · next o ho =>
    split
    · split
      · next hst =>
        have hi : o.working = false := by simp [Order.working, hst]
        exact keeps_ite (keeps_ite (k.startOrder _ (fun p hp => Option.some.inj (ho.symm.trans hp) ▸ hi) h)
          (k.requeued i o _ ho hi h)) h
      · next hst => exact keeps_ite h (k.requeued i o _ ho (by simp [Order.working, hst]) h)
      · exact h
      · exact h
    · exact h

theorem retestOrders (k : StartKeeps N P) (h : P s) : P (retestOrders s) :=
  forAll_induct _ _ _ (fun _ _ _ hu => k.grantScan _ hu) (forAll_induct _ _ _ (fun i _ _ hu => k.retestSlot i hu) h)

end StartKeeps

namespace EndKeeps

variable {N : Nat → Prop} {P : State → Prop} {s : State}

theorem bowNotice (k : EndKeeps N P) (n : Nat) (x : Option NodeKind) (st : Option NodeState) (h : P s) :
    P (bowNotice n x st s) := k.bow _ _ h

theorem completeOrder (k : EndKeeps N P) (i : Fin 16) (c : Completion) (h : P s) : P (completeOrder i c s) := by
  have tanks (l : List Nat) (u : State) (hu : P u) : P (l.foldl (fun s n => Machine.tankReportOf n s) u) :=
    forAll_induct l (fun n s => Machine.tankReportOf n s) u (fun n _ _ hv => k.tankReportOf n hv) hu
  simp only [Machine.completeOrder]
  split
  · exact h
  · next o _ =>
    have hd : P (orderDoneReport o c (s.setSlot i none)) := k.report _ _ _ (k.freed _ h)
    refine tanks _ _ ?_
    repeat' split
    · exact k.grantScan _ hd
    · exact hd
    · exact hd

theorem commandLeaves (k : EndKeeps N P) (n : Nat) (hn : N n) (h : P s) : P (commandLeaves n s) := by
  unfold Machine.commandLeaves
  split
  · exact k.command _ _ hn h
  · exact h

theorem endActive (k : EndKeeps N P) (i : Fin 16) (n : Nat) (r : OrderResult) (x : Option Nat) (hn : N n) (h : P s) :
    P (endActive i n r x s) := k.completeOrder _ _ (k.commandLeaves _ hn h)

theorem failWaiting (k : EndKeeps N P) (x : Fin 16 × Order) (h : P s) : P (failWaiting x s) := by
  unfold Machine.failWaiting
  split
  · exact h
  · exact k.completeOrder _ _ h

theorem failUnable (k : EndKeeps N P) (x : Fin 16 × Order) (hx : ∀ n, x.2.work.coupling? = some n → N n) (h : P s) :
    P (failUnable x s) := by
  unfold Machine.failUnable
  repeat' split
  · next n hn _ => exact k.endActive _ _ _ _ (hx n hn) h
  · exact k.completeOrder _ _ h
  · exact h

/-- R165: the winch of a serial is ACTIVE again. -/
theorem winchActive (k : EndKeeps N P) (d : Node) (hx : ∀ x ∈ s.liveOrders, ∀ n, x.2.work.coupling? = some n → N n) (h : P s) :
    P (winchActive d s) := by
  have hf (p : Fin 16 × Order → Bool) :
      ∀ x ∈ ((s.ordersOf d.serial).filter fun x => s.unableFor d x.2).filter p, ∀ n, x.2.work.coupling? = some n → N n :=
    fun x hm => hx x (List.mem_of_mem_filter (List.mem_of_mem_filter (List.mem_of_mem_filter hm)))
  exact forAll_induct _ _ _ (fun x hm _ hu => k.failUnable x (hf _ x hm) hu)
    (forAll_induct _ _ _ (fun x hm _ hu => k.failUnable x (hf _ x hm) hu) h)

end EndKeeps

namespace NoticeKeeps

variable {P : State → Prop} {s : State}

theorem commandLeaves (k : NoticeKeeps P) (n : Nat) (h : P s) : P (commandLeaves n s) :=
  k.toEndKeeps.commandLeaves n trivial h

theorem endActive (k : NoticeKeeps P) (i : Fin 16) (n : Nat) (r : OrderResult) (x : Option Nat) (h : P s) :
    P (endActive i n r x s) := k.toEndKeeps.endActive i n r x trivial h

theorem winchActive (k : NoticeKeeps P) (d : Node) (h : P s) : P (winchActive d s) :=
  k.toEndKeeps.winchActive d (fun _ _ _ _ => trivial) h

/-! #### Notices -/

theorem loseCoupling (k : NoticeKeeps P) (c : Coupling) (h : P s) : P (loseCoupling c s) := by
  have hc := k.command c.number .none trivial h
  have hl := k.coupling c.number .lost trivial (.inr (.inr rfl)) hc
  simp only [Machine.loseCoupling]
  repeat' split
  all_goals first | exact hc | exact hl | exact k.completeOrder _ _ hc | exact k.completeOrder _ _ hl

theorem winchLost (k : NoticeKeeps P) (n : Nat) (h : P s) : P (winchLost n s) :=
  forAll_induct _ _ _ (fun c _ _ hu => k.loseCoupling c hu) (forAll_induct _ _ _ (fun x _ _ hu => k.failWaiting x hu) h)

theorem supervisorNotice (k : NoticeKeeps P) (d : Node) (st : Option NodeState) (h : P s) : P (supervisorNotice d st s) := by
  unfold Machine.supervisorNotice
  split
  · exact k.winchLost _ h
  · exact k.winchLost _ h
  · exact k.winchLost _ h
  · exact k.winchActive _ h
  all_goals exact h

theorem missNotice (k : NoticeKeeps P) (n count : Nat) (h : P s) : P (missNotice n count s) :=
  forAll_induct _ _ _ (fun x u _ hu => by
    unfold missOrder
    split
    · split
      · exact k.endActive _ _ _ _ hu
      · exact hu
    · exact k.completeOrder _ _ hu
    · exact hu) h

theorem nodeNotices (k : NoticeKeeps P) (d : Node) (st : Option NodeState) (h : P s) : P (nodeNotices d st s) :=
  k.report _ _ _ (k.bowNotice _ _ _ (k.supervisorNotice d st h))

theorem setNodeState (k : NoticeKeeps P) (n : Nat) (st : NodeState) (h : P s) : P (setNodeState n st s) := by
  unfold Machine.setNodeState
  repeat' split
  · exact h
  · exact h
  · exact k.nodeNotices _ _ (k.node _ _ (fun _ => rfl) h)

theorem loseNode (k : NoticeKeeps P) (n : Nat) (h : P s) : P (loseNode n s) := by
  unfold Machine.loseNode
  repeat' split
  · exact h
  · exact k.setNodeState _ _ h
  · exact k.report _ _ _ (k.setNodeState _ _ h)

theorem newClaim (k : NoticeKeeps P) (n : Nat) (h : P s) : P (newClaim n s) := by
  simp only [Machine.newClaim]
  repeat' split
  all_goals first | exact h | exact k.node _ _ (fun _ => rfl) h | exact k.setNodeState _ _ (k.node _ _ (fun _ => rfl) h)

theorem departingNotice (k : NoticeKeeps P) (n : Nat) (h : P s) : P (departingNotice n s) := by
  simp only [Machine.departingNotice]
  repeat' split
  all_goals first | exact h | exact k.node _ _ (fun _ => rfl) h | exact k.setNodeState _ _ (k.node _ _ (fun _ => rfl) h)

theorem giveDepartures (k : NoticeKeeps P) (l : List Nat) (h : P s) : P (giveDepartures l s) :=
  forAll_induct _ _ _ (fun n _ _ hu => k.departingNotice n hu) h

/-! #### Polls -/

theorem takeReply (k : NoticeKeeps P) (d : Node) (r : LastReply) (b : Bool) (h : P s) : P (takeReply d r b s) :=
  k.node _ _ (fun _ => rfl) (keeps_ite (k.setNodeState _ _ (k.node _ _ (fun _ => rfl) h)) (k.node _ _ (fun _ => rfl) h))

theorem pollMiss (k : NoticeKeeps P) (n : Nat) (h : P s) : P (pollMiss n s) := by
  simp only [Machine.pollMiss]
  split
  · exact h
  · have noticed (p : Prop) [Decidable p] (m : Nat) (u : State) (hu : P u) : P (if p then Machine.missNotice n m u else u) :=
      keeps_ite (k.missNotice _ _ hu) hu
    refine keeps_ite (keeps_ite (k.setNodeState _ _ ?_) (k.report _ _ _ (k.setNodeState _ _ ?_))) ?_
    all_goals
      refine noticed _ _ _ ?_
      exact keeps_ite (k.setNodeState _ _ (k.node _ _ (fun _ => rfl) h)) (k.node _ _ (fun _ => rfl) h)

end NoticeKeeps

/-- What the other operations of the Barge Line must keep as well. -/
structure LineKeeps (P : State → Prop) : Prop extends NoticeKeeps P where
  line : ∀ {s} f, (∀ l : Line, (f l).nodes = l.nodes) → P s → P (s.onLine f)
  struck : ∀ {s} n, P s → P (s.onLine fun l =>
    { l with nodes := l.nodes.filter fun x => x.serial != n, stops := l.stops.filter fun x => x.1 != n })
  joined : ∀ {s} (d : Node), s.node? d.serial = none → s.freeAddress = some d.address → P s →
    P (s.onLine fun l => { l with nodes := insertNode d l.nodes })
  classified : ∀ {s} n st, P s → P (setCouplingState n st s)
  tension : ∀ {s} n (t : Nat) (f : WinchFlags) (sent : WinchCmd), P s → P (s.onCoupling n fun c =>
    { c with tension := t, flags := some f, command := if c.command = .stop ∧ sent = .stop then .none else c.command })
  cast : ∀ {s} (ps : List Pos), P s →
    P ((forAll ps (fun p => setBargeState p .castOff) s).onSettling fun x => { x with analysis := true, makeup := true })

namespace LineKeeps

variable {P : State → Prop} {s : State}

theorem removeNode (k : LineKeeps P) (n : Nat) (h : P s) : P (removeNode n s) := by
  unfold Machine.removeNode
  split
  · exact h
  · exact k.nodeNotices _ _ (k.struck _ h)

theorem castOff (k : LineKeeps P) (ps : List Pos) (h : P s) : P (castOff ps s) := by
  unfold Machine.castOff
  split
  · exact h
  · exact k.giveDepartures _ (k.cast _ h)

theorem orderReply (k : LineKeeps P) (n t : Nat) (x : Thresholds) (f : WinchFlags) (b : Bool) (h : P s) :
    P (orderReply n x t f b s) := by
  unfold Machine.orderReply
  split
  · exact h
  · split
    · unfold haulReply
      repeat' split
      · exact k.endActive _ _ _ _ (k.classified _ _ h)
      · exact k.endActive _ _ _ _ (k.classified _ _ h)
      · exact h
    · simp only [releaseReply]
      split
      · exact k.castOff _ (k.completeOrder _ _ (k.commandLeaves _ (k.classified _ _ h)))
      · exact h
    · split
      · exact k.completeOrder _ _ h
      · exact h
    · exact h

theorem classifyCoupling (k : LineKeeps P) (n t : Nat) (x : Thresholds) (f : WinchFlags) (h : P s) :
    P (classifyCoupling n x t f s) := by
  unfold Machine.classifyCoupling
  repeat' split
  · exact h
  · exact k.classified _ _ h
  · exact h

theorem couplingReply (k : LineKeeps P) (n : Nat) (r : ChannelReport) (c : WinchCmd) (h : P s) : P (couplingReply n r c s) := by
  simp only [Machine.couplingReply]
  split
  · exact h
  · exact k.classifyCoupling _ _ _ _ (k.orderReply _ _ _ _ _ (k.tension n r.tension r.flags c h))

theorem winchReply (k : LineKeeps P) (n : Nat) (l : List ChannelReport) (cs : List WinchCmd) (h : P s) :
    P (winchReply n l cs s) :=
  forAll_induct _ _ _ (fun _ _ _ hu => by
    split
    · exact k.couplingReply _ _ _ hu
    · exact hu) h

/-! #### Joining -/

theorem takeJoin (k : LineKeeps P) (n : Nat) (x : NodeKind) (a : Abilities) (h : P s) : P (takeJoin n x a s) := by
  unfold Machine.takeJoin
  repeat' split
  · exact k.line _ (fun _ => rfl) h
  · exact k.line _ (fun _ => rfl) (k.setNodeState _ _ (k.node _ _ (fun _ => rfl) h))
  · next hn _ _ hx => exact k.line _ (fun _ => rfl) (k.nodeNotices _ _ (k.joined _ hn hx h))
  · exact h

theorem acknowledged (k : LineKeeps P) (n : Nat) (h : P s) : P (acknowledged n s) := by
  simp only [Machine.acknowledged]
  split
  · exact h
  · have hs (st : NodeState) : P (Machine.setNodeState n st (s.onNode n fun d => { d with misses := 0 })) :=
      k.setNodeState _ _ (k.node _ _ (fun _ => rfl) h)
    exact keeps_ite (k.report _ _ _ (hs _)) (hs _)

theorem handshakeFails (k : LineKeeps P) (x : Handshake) (h : P s) : P (handshakeFails x s) := by
  unfold Machine.handshakeFails
  repeat' split
  all_goals first | exact k.removeNode _ h | exact h | exact k.setNodeState _ _ h | exact k.loseNode _ h

theorem assignEnds (k : LineKeeps P) (b : Bool) (h : P s) : P (assignEnds b s) := by
  unfold Machine.assignEnds
  split
  · exact h
  · exact keeps_ite (k.acknowledged _ (k.line _ (fun _ => rfl) h)) (k.handshakeFails _ (k.line _ (fun _ => rfl) h))

theorem inviteReply (k : LineKeeps P) (f : LineFrame) (h : P s) : P (inviteReply f s) := by
  unfold Machine.inviteReply
  repeat' split
  · exact k.takeJoin _ _ _ h
  · exact h
  · exact h

/-! #### Exchanges -/

theorem exchangeMiss (k : LineKeeps P) (tx : TxFrame) (h : P s) : P (exchangeMiss tx s) := by
  unfold Machine.exchangeMiss
  split
  · exact k.pollMiss _ h
  · exact k.pollMiss _ h
  · exact k.assignEnds _ h
  all_goals exact h

theorem earnRepoll (k : LineKeeps P) (d : Node) (l : List Byte) (b : Bool) (h : P s) : P (earnRepoll d l b s) := by
  unfold Machine.earnRepoll
  exact keeps_ite (k.line _ (fun _ => rfl) h) h

theorem bowGood (k : LineKeeps P) (d : Node) (l : List Byte) (h : P s) : P (bowGood d l s) := by
  unfold Machine.bowGood bowReply
  exact k.bow _ _ (k.takeReply _ _ _ h)

theorem exchangeGood (k : LineKeeps P) (tx : TxFrame) (f : LineFrame) (h : P s) : P (exchangeGood tx f s) := by
  unfold Machine.exchangeGood
  repeat' split
  · exact k.earnRepoll _ _ _ (k.winchReply _ _ _ (k.takeReply _ _ _ h))
  · exact h
  · exact k.earnRepoll _ _ _ (k.bowGood _ _ h)
  · exact h
  · exact k.assignEnds _ h
  · exact k.inviteReply _ h
  · exact h
  · exact h

theorem exchangeEnds (k : LineKeeps P) (tx : TxFrame) (f : Option LineFrame) (h : P s) : P (exchangeEnds tx f s) := by
  unfold Machine.exchangeEnds
  split
  · exact keeps_ite (k.exchangeGood _ _ h) (k.exchangeMiss _ h)
  · exact k.exchangeMiss _ h

theorem turnaround (k : LineKeeps P) (h : P s) : P (turnaround s) := k.line _ (fun _ => rfl) h

theorem bargeFrameReceived (k : LineKeeps P) (l : List Byte) (b : Bool) (h : P s) : P (bargeFrameReceived l b s) := by
  unfold Machine.bargeFrameReceived
  split
  · exact k.exchangeEnds _ _ (k.turnaround h)
  · exact k.exchangeEnds _ _ (k.turnaround h)
  all_goals exact h

theorem bargeFrameSilence (k : LineKeeps P) (h : P s) : P (bargeFrameSilence s) := by
  unfold Machine.bargeFrameSilence
  split
  · exact k.exchangeMiss _ (k.turnaround h)
  all_goals exact h

/-! #### The line state -/

theorem recoverLine (k : LineKeeps P) (h : P s) : P (recoverLine s) := by
  have hr : P (forAll s.line.nodes (recoverNode (s.line.handshake.map (·.serial))) s) :=
    forAll_induct _ _ _ (fun d u _ hu => by
      unfold recoverNode
      exact keeps_ite (k.setNodeState _ _ (k.node _ _ (fun _ => rfl) hu))
        (keeps_ite (k.node _ _ (fun _ => rfl) hu) (keeps_ite (k.setNodeState _ _ hu) hu))) h
  simp only [Machine.recoverLine, recoverHandshake]
  repeat' split
  · exact hr
  · exact k.removeNode _ (k.line _ (fun _ => rfl) hr)
  · exact k.line _ (fun _ => rfl) hr
  · exact k.setNodeState _ _ (k.node _ _ (fun _ => rfl) (k.line _ (fun _ => rfl) hr))

theorem masterFrameSent (k : LineKeeps P) (h : P s) : P (masterFrameSent s) := by
  unfold Machine.masterFrameSent
  split
  · next tx _ =>
    have hu : P (s.onLine fun l => { l with state := .up, failures := 0 }) := k.line _ (fun _ => rfl) h
    cases tx <;> simp only [frameEffects, awaitReply, dropStops, Machine.turnaround, endHandshake, restartCycle]
    case lineReset =>
      split
      · exact k.line _ (fun _ => rfl) (k.line _ (fun _ => rfl) (k.recoverLine hu))
      · exact k.line _ (fun _ => rfl) (k.line _ (fun _ => rfl) hu)
    all_goals first | exact k.line _ (fun _ => rfl) hu | exact k.line _ (fun _ => rfl) (k.line _ (fun _ => rfl) hu)
  all_goals exact h

theorem lineDown (k : LineKeeps P) (h : P s) : P (lineDown s) := by
  have hr : P (Machine.report .lineDown .nothing [] (s.onLine fun l => { l with state := .down })) :=
    k.report _ _ _ (k.line _ (fun _ => rfl) h)
  refine forAll_induct _ _ _ (fun d u _ hu => ?_) ?_
  · unfold downNode
    exact keeps_ite (k.setNodeState _ _ hu) (keeps_ite (k.setNodeState _ _ hu) hu)
  · simp only [downHandshake]
    repeat' split
    · exact hr
    · exact k.removeNode _ (k.line _ (fun _ => rfl) hr)
    · exact k.line _ (fun _ => rfl) hr
    all_goals exact k.setNodeState _ _ (k.line _ (fun _ => rfl) hr)

theorem echoFailure (k : LineKeeps P) (h : P s) : P (echoFailure s) := by
  unfold Machine.echoFailure
  split
  · have hq : P (s.onLine fun l => { l with failures := min 3 (s.line.failures + 1), phase := .quiet }) := k.line _ (fun _ => rfl) h
    exact keeps_ite hq (keeps_ite (k.lineDown hq) (k.line _ (fun _ => rfl) hq))
  all_goals exact h

theorem rejoinTimerExpiry (k : LineKeeps P) (n : Nat) (h : P s) : P (rejoinTimerExpiry n s) := by
  unfold Machine.rejoinTimerExpiry
  split
  · exact h
  · exact keeps_ite (k.loseNode _ (k.line _ (fun _ => rfl) h)) h

end LineKeeps
end Sys2Proof.Machine
end

section
/-! ### The operations that keep: engines, steering, lever, tanks and legs -/

namespace Sys2Proof.Machine

variable {s t : State}

/-! #### Engine channels -/

theorem kept_engineReport {e : Fin 4} (h : Kept s t) : Kept s (engineReport e t) := kept_report h

theorem kept_confirmGear {e : Fin 4} (h : Kept s t) : Kept s (confirmGear e t) := by
  simp only [confirmGear]
  repeat' split
  all_goals first | exact h | exact kept_engineReport (kept_onChan h)

theorem kept_engagementTest {e : Fin 4} (h : Kept s t) : Kept s (engagementTest e t) := by
  simp only [engagementTest]
  repeat' split
  all_goals first | exact h | exact kept_confirmGear (kept_engineReport (kept_onChan h))

theorem kept_enterNeutral {e : Fin 4} (h : Kept s t) : Kept s (enterNeutral e t) :=
  kept_engagementTest (kept_engineReport (kept_onChan h))

theorem kept_dwellRunOut {e : Fin 4} (h : Kept s t) : Kept s (dwellRunOut e t) := by
  simp only [dwellRunOut]
  split
  · exact kept_enterNeutral (kept_onChan h)
  · exact kept_onChan h

theorem kept_disengage {e : Fin 4} (h : Kept s t) : Kept s (disengage e t) := by
  simp only [disengage]
  split
  · exact kept_dwellRunOut (kept_engineReport (kept_onChan h))
  · exact kept_engineReport (kept_onChan h)

theorem kept_disengageTest {e : Fin 4} (h : Kept s t) : Kept s (disengageTest e t) := by
  simp only [disengageTest]
  repeat' split
  all_goals first | exact h | exact kept_disengage h

theorem kept_channelOnDirection {e : Fin 4} (h : Kept s t) : Kept s (channelOnDirection e t) := by
  simp only [channelOnDirection]
  repeat' split
  all_goals first | exact h | exact kept_disengage h | exact kept_disengageTest h | exact kept_engagementTest h

theorem kept_enterFault {e : Fin 4} {k : FaultKind} (h : Kept s t) : Kept s (enterFault e k t) :=
  kept_engineReport (kept_report (kept_onChan h))

theorem kept_enterStopped {e : Fin 4} (h : Kept s t) : Kept s (enterStopped e t) := kept_engineReport (kept_onChan h)

theorem kept_engineRuns {e : Fin 4} (h : Kept s t) : Kept s (engineRuns e t) := by
  simp only [engineRuns]
  split
  · split
    · exact kept_enterNeutral h
    · exact kept_engineReport (kept_onChan h)
  · exact h

theorem kept_modeChanged {e : Fin 4} {m : EngineMode} (h : Kept s t) : Kept s (modeChanged e m t) := by
  have hr := kept_engineReport (e := e) (kept_onChan (e := e) (f := fun c => { c with mode := m }) h)
  simp only [modeChanged]
  repeat' split
  all_goals first
    | exact hr | exact kept_engagementTest hr | exact kept_disengage hr | exact kept_disengageTest hr
    | exact kept_enterNeutral (kept_onChan hr)

theorem kept_applyMode {mask : Nat} {e : Fin 4} {m : Nat} (h : Kept s t) : Kept s (applyMode mask e m t) := by
  simp only [applyMode]
  repeat' split
  all_goals first | exact h | exact kept_modeChanged h

theorem kept_shaftPulse {e : Fin 4} {b : Bool} (h : Kept s t) : Kept s (shaftPulse e b t) := h.trans {}

theorem kept_wrongWayTest {e : Fin 4} (h : Kept s t) : Kept s (wrongWayTest e t) := h.trans {}

theorem kept_followTest {e : Fin 4} (h : Kept s t) : Kept s (followTest e t) := by
  simp only [followTest]
  repeat' split
  all_goals first | exact h | exact kept_onChan h | exact kept_engineReport (kept_onChan h)

theorem kept_shaftTests {e : Fin 4} (h : Kept s t) : Kept s (shaftTests e t) := by
  simp only [shaftTests]
  repeat' split
  all_goals first | exact h | exact kept_enterFault h | exact kept_followTest (kept_wrongWayTest h)

theorem kept_windowInDisengaging {e : Fin 4} (h : Kept s t) : Kept s (windowInDisengaging e t) := by
  unfold windowInDisengaging
  split
  · exact kept_enterNeutral h
  · exact h

theorem kept_shaftWindow {e : Fin 4} (h : Kept s t) : Kept s (shaftWindow e t) := by
  unfold shaftWindow
  split
  · exact kept_windowInDisengaging (kept_shaftTests (kept_onChan h))
  · exact h

theorem kept_governorPeriodEnd {e : Fin 4} (h : Kept s t) : Kept s (governorPeriodEnd e t) := h.trans {}

theorem kept_engineInputChange {e : Fin 4} {inp : EngineInput} {b : Bool} (h : Kept s t) :
    Kept s (engineInputChange e inp b t) := h.trans {}

theorem kept_inputFilterExpiry {e : Fin 4} {inp : EngineInput} (h : Kept s t) : Kept s (inputFilterExpiry e inp t) := by
  simp only [inputFilterExpiry]
  repeat' split
  all_goals first
    | exact h | exact kept_engineRuns (kept_onChan h) | exact kept_enterStopped (kept_onChan h)
    | exact kept_confirmGear (kept_onChan h)

theorem kept_engageConfirmExpiry {e : Fin 4} (h : Kept s t) : Kept s (engageConfirmExpiry e t) := by
  unfold engageConfirmExpiry
  split
  · exact kept_enterFault h
  · exact h

theorem kept_neutralDwellExpiry {e : Fin 4} (h : Kept s t) : Kept s (neutralDwellExpiry e t) := by
  unfold neutralDwellExpiry
  split
  · exact kept_dwellRunOut h
  · exact h

theorem kept_dwellTimeoutExpiry {e : Fin 4} (h : Kept s t) : Kept s (dwellTimeoutExpiry e t) := by
  unfold dwellTimeoutExpiry
  split
  · exact kept_enterNeutral h
  · exact h

theorem kept_wrongWayExpiry {e : Fin 4} (h : Kept s t) : Kept s (wrongWayExpiry e t) := by
  unfold wrongWayExpiry
  split
  · exact kept_enterFault h
  · exact h

theorem kept_followExpiry {e : Fin 4} (h : Kept s t) : Kept s (followExpiry e t) := by
  simp only [followExpiry]
  split
  · exact kept_engineReport (kept_report (kept_onChan h))
  · exact h

/-! #### Steering -/

theorem kept_onRudder {r : Fin 8} {f : Rudder → Rudder} (h : Kept s t) : Kept s (t.onRudder r f) :=
  kept_onSteer (fun _ => rfl) (fun _ => rfl) h

theorem kept_setTargets (h : Kept s t) : Kept s (setTargets t) :=
  kept_forAll (fun r _ u hu => by
    split
    · exact kept_onRudder hu
    · exact hu) h

theorem kept_steeringRecompute (h : Kept s t) : Kept s (steeringRecompute t) :=
  kept_onSteer (fun _ => rfl) (fun _ => rfl) (kept_setTargets h)

theorem kept_degradedTest (h : Kept s t) : Kept s (degradedTest t) := by
  simp only [degradedTest]
  repeat' split
  · exact h
  · exact kept_steeringRecompute (kept_report (kept_onSteer (fun _ => rfl) (fun _ => rfl) h))
  · exact kept_steeringRecompute (kept_onSteer (fun _ => rfl) (fun _ => rfl) h)
  · exact h

theorem kept_rudderPeriod {r : Fin 8} {raw : Nat} (h : Kept s t) : Kept s (rudderPeriod r raw t) := by
  simp only [rudderPeriod]
  repeat' split
  all_goals first
    | exact h | exact kept_report (kept_onRudder (kept_onRudder h)) | exact kept_onRudder (kept_onRudder h)
    | exact kept_onRudder h

theorem kept_steeringControlPeriod {v : Vector Nat 8} (h : Kept s t) : Kept s (steeringControlPeriod v t) := by
  have hp : Kept s (forAll allRudders (fun r s => rudderPeriod r v[r] s) t) :=
    kept_forAll (fun _ _ _ hu => kept_rudderPeriod hu) h
  simp only [steeringControlPeriod]
  split
  · exact hp
  · exact kept_degradedTest hp

theorem kept_onBow {n : Nat} {f : BowUnit → BowUnit} (h : Kept s t) : Kept s (t.onBow n f) :=
  kept_onSteer (fun _ => rfl) (fun _ => rfl) h

theorem kept_addBow {u : BowUnit} (h : Kept s t) : Kept s (addBow u t) := kept_onSteer (fun _ => rfl) (fun _ => rfl) h

theorem kept_dropBow {p : Pos} (h : Kept s t) : Kept s (dropBow p t) := kept_onSteer (fun _ => rfl) (fun _ => rfl) h

theorem kept_rudderReturns {r : Fin 8} (h : Kept s t) : Kept s (rudderReturns r t) := by
  simp only [rudderReturns]
  split
  · exact kept_onRudder h
  · exact h

/-! #### The effective lever and the silence timing -/

theorem kept_directionChanged (h : Kept s t) : Kept s (directionChanged t) :=
  kept_forAll (fun _ _ _ hu => kept_channelOnDirection hu) (kept_steeringRecompute (h.trans {}))

theorem kept_recomputeLe (h : Kept s t) : Kept s (recomputeLe t) := by
  simp only [recomputeLe]
  repeat' split
  · exact h
  · exact kept_onSettling (kept_onProp (fun _ => rfl) (fun _ => rfl) (fun _ => rfl) h)
  · exact kept_directionChanged (kept_onSettling (kept_onProp (fun _ => rfl) (fun _ => rfl) (fun _ => rfl) h))

theorem kept_capsReport (h : Kept s t) : Kept s (capsReport t) := kept_report h

theorem kept_sourceReport (h : Kept s t) : Kept s (sourceReport t) := kept_report h

theorem kept_restartSilence (h : Kept s t) : Kept s (restartSilence t) :=
  kept_onProp (fun _ => rfl) (fun _ => rfl) (fun _ => rfl) h

theorem kept_endSilence (h : Kept s t) : Kept s (endSilence t) := by
  unfold endSilence
  split
  · exact h
  · exact kept_sourceReport (kept_onProp (fun _ => rfl) (fun _ => rfl) (fun _ => rfl) h)

theorem kept_clearLatch {l : Int} (h : Kept s t) : Kept s (clearLatch l t) := by
  unfold clearLatch
  split
  · exact kept_sourceReport (kept_onProp (fun _ => rfl) (fun _ => rfl) (fun _ => rfl) h)
  · exact h

/-! #### Tanks and legs -/

theorem kept_tankReport {k : Fin 8} (h : Kept s t) : Kept s (tankReport k t) := kept_report h

theorem kept_tankReportOf {n : Nat} (h : Kept s t) : Kept s (tankReportOf n t) := by
  unfold tankReportOf
  split
  · exact kept_tankReport h
  · exact h

theorem kept_addAdjustment {x : Int} (h : Kept s t) : Kept s (addAdjustment x t) := kept_onLeg (kept_onFuel h)

theorem kept_takeFromBook {k : Fin 8} {x : Int} (h : Kept s t) : Kept s (takeFromBook k x t) := by
  simp only [takeFromBook]
  split
  · exact kept_onTank h
  · exact kept_addAdjustment (kept_onTank h)

theorem kept_lowTest {k : Fin 8} (h : Kept s t) : Kept s (lowTest k t) := by
  simp only [lowTest]
  repeat' split
  all_goals first | exact h | exact kept_tankReport (kept_report (kept_onTank h)) | exact kept_tankReport (kept_onTank h)

theorem kept_overfullTest {k : Fin 8} (h : Kept s t) : Kept s (overfullTest k t) := by
  simp only [overfullTest]
  repeat' split
  all_goals first | exact h | exact kept_tankReport (kept_report (kept_onTank h)) | exact kept_tankReport (kept_onTank h)

theorem kept_tankTests {k : Fin 8} (h : Kept s t) : Kept s (tankTests k t) := by
  unfold tankTests
  split
  · exact kept_overfullTest (kept_lowTest h)
  · exact h

theorem kept_reserveTest (h : Kept s t) : Kept s (reserveTest t) := by
  unfold reserveTest
  split
  · exact kept_report (kept_onFuel h)
  · exact kept_onFuel h

theorem kept_fcapRecompute (h : Kept s t) : Kept s (fcapRecompute t) := by
  have hf := kept_recomputeLe (kept_onFuel (f := fun f => { f with fcap := t.fcapNow }) h)
  simp only [fcapRecompute]
  repeat' split
  all_goals first
    | exact kept_reserveTest h | exact kept_reserveTest hf | exact kept_reserveTest (kept_capsReport h)
    | exact kept_reserveTest (kept_capsReport hf)

theorem kept_soundTo {k : Fin 8} {b : Int} (h : Kept s t) : Kept s (soundTo k b t) := kept_addAdjustment (kept_onTank h)

theorem kept_closeLeg {c : CloseCause} (h : Kept s t) : Kept s (closeLeg c t) :=
  kept_askCheckpoint (kept_report (kept_onLegs h))

theorem kept_makeupEvent (h : Kept s t) : Kept s (makeupEvent t) := by
  unfold makeupEvent
  repeat' split
  · exact h
  · exact kept_onLeg h
  · exact kept_closeLeg h
  · exact kept_report (kept_onLeg h)

theorem snapshotRecord_holds (s : State) : s.snapshotRecord.holds s.sup :=
  ⟨List.map_map.trans rfl, List.map_map.trans rfl⟩

theorem kept_startWrite (h : Kept s t) : Kept s (startWrite t) :=
  h.trans { record := rfl, good := rfl, writing := fun _ hr => .inr (Option.some.inj hr ▸ snapshotRecord_holds t) }

theorem kept_writeDue {b : Bool} (h : Kept s t) : Kept s (t.onCkpt fun c => { c with due := b }) := h.trans {}

theorem kept_writeAsked (h : Kept s t) : Kept s (writeAsked t) := by
  simp only [writeAsked]
  repeat' split
  · exact kept_startWrite (kept_onSettling h)
  · exact kept_writeDue (kept_onSettling h)
  · exact h

end Sys2Proof.Machine
end

section
/-! ### The operations that keep: couplings, orders, the tow and the end of a command -/

namespace Sys2Proof.Machine

variable {s t : State}

/-! #### Couplings -/

theorem kept_couplingReport {n : Nat} (h : Kept s t) : Kept s (couplingReport n t) := kept_report h

theorem kept_couplingAlarm {c : Coupling} {st : CouplingState} (h : Kept s t) : Kept s (couplingAlarm c st t) := by
  unfold couplingAlarm
  repeat' split
  all_goals first | exact h | exact kept_report h

theorem kept_setCouplingState {n : Nat} {st : CouplingState} (h : Kept s t) :
    Kept s (setCouplingState n st t) := by
  unfold setCouplingState
  repeat' split
  · exact h
  · exact h
  · exact kept_onSettling (kept_couplingAlarm (kept_couplingReport (kept_onCoupling (fun _ => rfl) h)))

theorem kept_setCommand {n : Nat} {c : WinchCmd} (h : Kept s t) : Kept s (setCommand n c t) :=
  kept_onCoupling (fun _ => rfl) h

theorem kept_commandLeaves {n : Nat} (h : Kept s t) : Kept s (commandLeaves n t) := by
  unfold commandLeaves
  split
  · exact kept_setCommand h
  · exact h

/-! #### Orders -/

/-- A slot takes nothing but the order it holds, changed in its state and timers. -/
theorem kept_setSlot {i : Fin 16} {x : Option Order} (hx : ∀ p, x = some p → ∃ o, t.orders.slots[i] = some o ∧ OrderKept o p)
    (h : Kept s t) : Kept s (t.setSlot i x) :=
  h.trans
    { orders := fun j p hp => by
        by_cases hj : j = i
        · subst hj
          rw [setSlot_same] at hp
          exact hx p hp
        · rw [setSlot_other t x hj] at hp
          exact ⟨p, hp, rfl, rfl, .inl rfl⟩ }

/-- A slot is freed. -/
theorem kept_freeSlot {i : Fin 16} (h : Kept s t) : Kept s (t.setSlot i none) := kept_setSlot (fun _ hp => nomatch hp) h

theorem kept_setLast {i : Fin 16} {r : Option Resource} (h : Kept s t) : Kept s (t.onOrders fun x => x.setLast i r) :=
  h.trans { orders := by rcases r with _ | _ | _ | _ <;> exact ordersKept_refl _ }

/-- The operations of a notice keep. -/
theorem kept_notice (s : State) : NoticeKeeps (Kept s) where
  report _ _ _ := kept_report
  node _ _ _ := kept_onLine
  bow _ _ := kept_onBow
  freed _ := kept_freeSlot
  requeued i o st ho _ := kept_setSlot fun p hp => by
    obtain rfl := Option.some.inj hp
    exact ⟨o, ho, rfl, rfl, .inl rfl⟩
  started i o ho _ h := kept_setLast (kept_setSlot (fun p hp => by
    obtain rfl := Option.some.inj hp
    exact ⟨o, ho, rfl, rfl, .inl rfl⟩) h)
  command _ _ _ := kept_setCommand
  coupling _ _ _ _ := kept_setCouplingState

theorem kept_startOrder {i : Fin 16} (hi : ∀ o, t.orders.slots[i] = some o → o.working = false) (h : Kept s t) :
    Kept s (startOrder i t) := (kept_notice s).startOrder i hi h

theorem kept_completeOrder {i : Fin 16} {c : Completion} (h : Kept s t) : Kept s (completeOrder i c t) :=
  (kept_notice s).completeOrder i c h

theorem kept_endActive {i : Fin 16} {n : Nat} {r : OrderResult} {x : Option Nat} (h : Kept s t) :
    Kept s (endActive i n r x t) := (kept_notice s).endActive i n r x h

theorem kept_newClaim {n : Nat} (h : Kept s t) : Kept s (newClaim n t) := (kept_notice s).newClaim n h

theorem kept_giveDepartures {l : List Nat} (h : Kept s t) : Kept s (giveDepartures l t) := (kept_notice s).giveDepartures l h

/-! #### The tow -/

theorem kept_bargeReport {p : Pos} (h : Kept s t) : Kept s (bargeReport p t) := kept_report h

theorem kept_setBargeState {p : Pos} {st : BargeState} (h : Kept s t) : Kept s (setBargeState p st t) :=
  kept_askCheckpoint (kept_bargeReport (kept_onBarge (fun _ => ⟨rfl, fun _ => rfl⟩) h))

theorem kept_keepHeld {l : List Pos} (h : Kept s t) : Kept s (keepHeld l t) :=
  h.trans { barges := forall₂_of_map fun _ _ => ⟨rfl, id⟩, couplings := rfl }

theorem kept_takeTonnage (h : Kept s t) : Kept s (takeTonnage t) := kept_onSup (fun _ => rfl) (fun _ => rfl) h

theorem kept_ccapRecompute {b : Bool} (h : Kept s t) : Kept s (ccapRecompute b t) := by
  have hc := kept_recomputeLe (kept_onSup (f := fun u => { u with ccap := t.ccapNow }) (fun _ => rfl) (fun _ => rfl) h)
  simp only [ccapRecompute]
  repeat' split
  all_goals first | exact h | exact hc | exact kept_capsReport h | exact kept_capsReport hc

theorem kept_makeupChange (h : Kept s t) : Kept s (makeupChange t) :=
  kept_askCheckpoint (kept_makeupEvent (kept_takeTonnage h))

theorem kept_unheldAlarm {p : Pos} (h : Kept s t) : Kept s (unheldAlarm p t) := kept_report h

theorem kept_holdingAnalysis (h : Kept s t) : Kept s (holdingAnalysis t) := by
  have hj : Kept s (forAll t.toPromote (fun p => setBargeState p .inTow)
      ((keepHeld (chained CouplingState.holding t.sup.couplings) t).onSettling
        fun x => { x with analysis := false, makeup := false })) :=
    kept_forAll (fun _ _ _ hu => kept_setBargeState hu) (kept_onSettling (kept_keepHeld h))
  refine kept_ccapRecompute (kept_onSup (fun _ => rfl) (fun _ => rfl)
    (kept_forAll (fun _ _ _ hu => kept_unheldAlarm hu) ?_))
  split
  · exact kept_makeupChange hj
  · exact hj

/-! #### The end of a command -/

theorem kept_settleOnce (h : Kept s t) : Kept s (settleOnce t) := by
  unfold settleOnce
  repeat' split
  · exact kept_holdingAnalysis h
  · exact (kept_notice s).retestOrders (kept_onSettling h)
  · exact h

theorem kept_settleFor (n : Nat) (h : Kept s t) : Kept s (settleFor n t) := by
  induction n generalizing t with
  | zero => exact h
  | succ n ih => exact ih (kept_settleOnce h)

theorem kept_settle (h : Kept s t) : Kept s (settle t) := kept_settleFor 40 h

theorem kept_finish (h : Kept s t) : Kept s (finish t) := kept_writeAsked (kept_settle h)

/-! #### The timers of the wires -/

theorem kept_releaseWaitExpiry {n : Nat} (h : Kept s t) : Kept s (releaseWaitExpiry n t) := by
  unfold releaseWaitExpiry
  repeat' split
  all_goals first | exact h | exact kept_completeOrder h

theorem kept_haulTimerExpiry {n : Nat} (h : Kept s t) : Kept s (haulTimerExpiry n t) := by
  unfold haulTimerExpiry
  repeat' split
  all_goals first | exact h | exact kept_endActive h

theorem kept_releaseTimerExpiry {n : Nat} (h : Kept s t) : Kept s (releaseTimerExpiry n t) := by
  unfold releaseTimerExpiry
  repeat' split
  all_goals first | exact h | exact kept_endActive (kept_setCouplingState h)

/-- R29, R138, R141: the order that winds down is the one of its slot. -/
theorem kept_windDown {i : Fin 16} {o : Order} (ho : t.orders.slots[i] = some o) (h : Kept s t) : Kept s (windDown i o t) := by
  have hs : ∀ p, OrderKept o p → Kept s (t.setSlot i (some p)) := fun p hp => kept_setSlot (fun q hq => by
    obtain rfl := Option.some.inj hq
    exact ⟨o, ho, hp⟩) h
  unfold windDown
  split
  · exact kept_commandLeaves (hs _ ⟨rfl, rfl, .inl rfl⟩)
  · exact kept_commandLeaves (hs _ ⟨rfl, rfl, .inl rfl⟩)
  · next w hw => exact hs _ ⟨rfl, rfl, .inr ⟨rfl, by rw [hw]; rfl⟩⟩
  · exact hs _ ⟨rfl, rfl, .inl rfl⟩

end Sys2Proof.Machine
end

section
/-! ### The operations that keep: the Barge Line -/

namespace Sys2Proof.Machine

variable {s t : State}

/-- The operations of the Barge Line keep. -/
theorem kept_line (s : State) : LineKeeps (Kept s) where
  toNoticeKeeps := kept_notice s
  line _ _ := kept_onLine
  struck _ := kept_onLine
  joined _ _ _ := kept_onLine
  classified _ _ := kept_setCouplingState
  tension _ _ _ _ := kept_onCoupling fun _ => rfl
  cast _ h := kept_onSettling (kept_forAll (fun _ _ _ hu => kept_setBargeState hu) h)

theorem kept_poll {d : Node} {b : Bool} (h : Kept s t) : Kept s (poll d b t) := by
  unfold poll send storeBowDemand
  exact kept_onLine (kept_ite (kept_onBow h) h)

theorem kept_joiningSlot (h : Kept s t) : Kept s (joiningSlot t) := by
  simp only [joiningSlot]
  split
  all_goals exact kept_onLine (kept_onLine h)

theorem kept_startNext (h : Kept s t) : Kept s (startNext t) := by
  simp only [startNext]
  repeat' split
  · exact kept_poll (kept_onLine h)
  · exact kept_poll (kept_onLine (kept_onLine h))
  · exact kept_joiningSlot (kept_onLine h)

theorem kept_replyWindowExpiry (h : Kept s t) : Kept s (replyWindowExpiry t) := by
  unfold replyWindowExpiry
  split
  · exact kept_startNext (kept_finish ((kept_line s).exchangeMiss _ ((kept_line s).turnaround h)))
  all_goals exact h

end Sys2Proof.Machine
end

section
/-! ### The commands, said once

A request is its owner's handling with the answer put at the port (R174); an event is an operation guarded by the part being up
(R191). An invariant that the owners, the guarded operations and the few unguarded ones keep is kept by every step. -/

namespace Sys2Proof.Machine

/-- R174: the owner's handling of a request. -/
def ownerOf : Instr → Option (State → State × Answer)
  | .echo body => some (echo body)
  | .readStatus n => some (readStatus n)
  | .fetchReports n => some (fetchReports n)
  | .restart => some restart
  | .setLever v => some (setLever v)
  | .setHelm v => some (setHelm v)
  | .setSteerMode m => some (setSteerMode m)
  | .setEngineModes k a b c d => some (setEngineModes k a b c d)
  | .setSync v => some (setSync v)
  | .readPropulsion => some readPropulsion
  | .readEngine n => some (readEngine n)
  | .readSteering => some readSteering
  | .declareBarge p h l c b => some (declareBarge p h l c b)
  | .removeBarge p => some (removeBarge p)
  | .declareCoupling n a b s c w t => some (declareCoupling n a b s c w t)
  | .withdrawCoupling n => some (withdrawCoupling n)
  | .readBarge p => some (readBarge p)
  | .readCoupling n => some (readCoupling n)
  | .listMakeup => some listMakeup
  | .readNode n => some (readNode n)
  | .listNodes a => some (listNodes a)
  | .forgetNode n => some (forgetNode n)
  | .postOrder t o => some (postOrder t o)
  | .abortOrder t => some (abortOrder t)
  | .listOrders i => some (listOrders i)
  | .setSounding t l => some (setSounding t l)
  | .readTank t => some (readTank t)
  | .readMeters p => some (readMeters p)
  | .closeLeg n => some (closeLegRequest n)
  | .readLeg n => some (readLeg n)
  | .releaseLeg n => some (releaseLeg n)
  | .setVoyageClock v => some (setVoyageClock v)
  | .writeSetting a b c v => some (writeSetting a b c v)
  | .readSetting a b c => some (readSetting a b c)
  | .saveSettings c => some (saveSettings c)
  | _ => none

/-- R191: the operation of an event that acts while the part is up. The frames of the Bridge Link, which run requests, stand apart. -/
def eventOf : Instr → Option (State → State)
  | .bridgeByteGap => some dropReceiving
  | .saveComplete d => some (saveComplete d)
  | .checkpointPeriodExpiry => some checkpointPeriodExpiry
  | .checkpointWriteComplete => some checkpointWriteComplete
  | .controlPeriodExpiry b l h => some (controlPeriodExpiry b l h)
  | .silenceLimitExpiry => some fun s => finish (silenceLimitExpiry s)
  | .holdTimeExpiry => some fun s => finish (holdTimeExpiry s)
  | .syncPeriodExpiry => some syncPeriodExpiry
  | .governorPeriodEnd e => some (governorPeriodEnd e)
  | .shaftPulse e b => some (shaftPulse e b)
  | .shaftWindowExpiry e => some (shaftWindow e)
  | .inputFilterExpiry e i => some (inputFilterExpiry e i)
  | .engageConfirmExpiry e => some (engageConfirmExpiry e)
  | .neutralDwellExpiry e => some (neutralDwellExpiry e)
  | .dwellTimeoutExpiry e => some (dwellTimeoutExpiry e)
  | .wrongWayExpiry e => some (wrongWayExpiry e)
  | .followExpiry e => some (followExpiry e)
  | .steeringControlPeriod v => some (steeringControlPeriod v)
  | .turnaroundExpiry => some turnaroundExpiry
  | .masterFrameSent => some fun s => finish (masterFrameSent s)
  | .echoFailure => some fun s => finish (echoFailure s)
  | .faultRecoveryExpiry => some faultRecoveryExpiry
  | .downRetryExpiry => some downRetryExpiry
  | .rejoinTimerExpiry n => some fun s => finish (rejoinTimerExpiry n s)
  | .replyWindowExpiry => some replyWindowExpiry
  | .bargeFrameReceived cs b => some fun s => finish (bargeFrameReceived cs b s)
  | .bargeFrameSilence => some fun s => finish (bargeFrameSilence s)
  | .haulTimerExpiry n => some fun s => finish (haulTimerExpiry n s)
  | .releaseTimerExpiry n => some fun s => finish (releaseTimerExpiry n s)
  | .releaseWaitExpiry n => some fun s => finish (releaseWaitExpiry n s)
  | .meterPulse m => some (meterPulse m)
  | .accountingIntervalExpiry v => some (accountingInterval v)
  | .logPulse => some logPulse
  | .bridgeByteFault => some bridgeByteFault
  | .bargeReplyStart => some bargeReplyStart
  | _ => none

theorem exec_of_owner {c : Instr} {o : State → State × Answer} (h : ownerOf c = some o) (hc : c ≠ .restart) (s : State) :
    exec c s = answerRequest s o := by
  cases c <;> cases h <;> first | exact absurd rfl hc | rfl

theorem exec_of_event {c : Instr} {f : State → State} (h : eventOf c = some f) (s : State) : exec c s = whenUp s f := by
  cases c <;> simp only [eventOf, reduceCtorEq, Option.some.injEq] at h <;> subst h <;> rfl

/-- R174, R198: what a request frame does: it is refused, or it is a request's owner that handles it. -/
theorem handleRequest_cases (kind : Nat) (b : List Byte) (s : State) :
    (∃ why, handleRequest kind b s = refuse s why) ∨ ∃ c o, ownerOf c = some o ∧ handleRequest kind b s = o s := by
  have whole : ∀ (c : Instr) (o : State → State × Answer) (n : Nat), ownerOf c = some o →
      (∃ why, sized n b o s = refuse s why) ∨ ∃ c' o', ownerOf c' = some o' ∧ sized n b o s = o' s := fun c o n h => by
    unfold sized
    split
    · exact .inr ⟨c, o, h, rfl⟩
    · exact .inl ⟨_, rfl⟩
  unfold handleRequest
  split
  case h_1 => exact .inr ⟨.echo b, _, rfl, rfl⟩
  case h_13 =>
    unfold declareBargeFrame
    repeat' split
    · exact .inr ⟨.declareBarge _ _ _ _ _, _, rfl, rfl⟩
    · exact .inr ⟨.declareBarge _ _ _ _ _, _, rfl, rfl⟩
    · exact .inl ⟨_, rfl⟩
  case h_23 =>
    unfold postOrderFrame
    split
    · exact .inr ⟨.postOrder _ _, _, rfl, rfl⟩
    · exact .inl ⟨_, rfl⟩
  case h_36 => exact .inl ⟨_, rfl⟩
  case h_2 => exact whole (.readStatus _) _ _ rfl
  case h_3 => exact whole (.fetchReports _) _ _ rfl
  case h_4 => exact whole .restart _ _ rfl
  case h_5 => exact whole (.setLever _) _ _ rfl
  case h_6 => exact whole (.setHelm _) _ _ rfl
  case h_7 => exact whole (.setSteerMode _) _ _ rfl
  case h_8 => exact whole (.setEngineModes _ _ _ _ _) _ _ rfl
  case h_9 => exact whole (.setSync _) _ _ rfl
  case h_10 => exact whole .readPropulsion _ _ rfl
  case h_11 => exact whole (.readEngine _) _ _ rfl
  case h_12 => exact whole .readSteering _ _ rfl
  case h_14 => exact whole (.removeBarge _) _ _ rfl
  case h_15 => exact whole (.declareCoupling _ _ _ _ _ _ _) _ _ rfl
  case h_16 => exact whole (.withdrawCoupling _) _ _ rfl
  case h_17 => exact whole (.readBarge _) _ _ rfl
  case h_18 => exact whole (.readCoupling _) _ _ rfl
  case h_19 => exact whole .listMakeup _ _ rfl
  case h_20 => exact whole (.readNode _) _ _ rfl
  case h_21 => exact whole (.listNodes _) _ _ rfl
  case h_22 => exact whole (.forgetNode _) _ _ rfl
  case h_24 => exact whole (.abortOrder _) _ _ rfl
  case h_25 => exact whole (.listOrders _) _ _ rfl
  case h_26 => exact whole (.setSounding _ _) _ _ rfl
  case h_27 => exact whole (.readTank _) _ _ rfl
  case h_28 => exact whole (.readMeters _) _ _ rfl
  case h_29 => exact whole (.closeLeg _) _ _ rfl
  case h_30 => exact whole (.readLeg _) _ _ rfl
  case h_31 => exact whole (.releaseLeg _) _ _ rfl
  case h_32 => exact whole (.setVoyageClock _) _ _ rfl
  case h_33 => exact whole (.writeSetting _ _ _ _) _ _ rfl
  case h_34 => exact whole (.readSetting _ _ _) _ _ rfl
  case h_35 => exact whole (.saveSettings _) _ _ rfl

/-! #### Invariants that the port does not touch -/

/-- What every part of a step must keep for an invariant to be one. -/
structure StepKeeps (P : State → Prop) : Prop where
  pending : ∀ s cs, P s → P (s.withPending cs)
  port : ∀ s f, P s → P (s.onPort f)
  control : ∀ s f, P s → P (s.onCtl f)
  clock : ∀ s, P s → P (voyageClockTick s)
  input : ∀ e i b s, P s → P (engineInputChange e i b s)
  begins : ∀ x s, P s → P (start x s)
  owner : ∀ c o s, ownerOf c = some o → P s → P (o s).1
  event : ∀ c f s, eventOf c = some f → P s → P (f s)

namespace StepKeeps

variable {P : State → Prop} {s t : State}

theorem whenUp (h : ∀ s, P s → P (f s)) (hs : P s) (ht : Machine.whenUp s f = .next t) : P t := by
  obtain rfl := Host.Outcome.next.inj ht
  split
  · exact h s hs
  · exact hs

theorem takeInHand (k : StepKeeps P) (f : Frame) (hs : P s) : P (takeInHand f s) := by
  simp only [Machine.takeInHand]
  refine k.port _ _ ?_
  rcases handleRequest_cases f.kind f.body s with ⟨why, hw⟩ | ⟨c, o, ho, he⟩
  · exact hw ▸ hs
  · exact he ▸ k.owner c o s ho hs

theorem takeFrame (k : StepKeeps P) (f : Frame) (hs : P s) : P (takeFrame f s) := by
  unfold Machine.takeFrame
  repeat' split
  · exact k.takeInHand f hs
  · exact k.port _ _ hs
  · exact k.port _ _ hs

theorem frameComplete (k : StepKeeps P) (bytes : List Byte) (hs : P s) : P (frameComplete bytes s) := by
  unfold Machine.frameComplete
  split
  · exact k.takeFrame _ (k.port _ _ hs)
  · exact k.port _ _ hs

theorem receiveByte (k : StepKeeps P) (b : Byte) (hs : P s) : P (receiveByte b s) := by
  unfold Machine.receiveByte frameGrows
  repeat' split
  all_goals first | exact hs | exact k.frameComplete _ hs | exact k.port _ _ hs

theorem replySent (k : StepKeeps P) (hs : P s) : P (replySent s) := by
  unfold Machine.replySent nextInHand
  repeat' split
  all_goals first | exact hs | exact k.control _ _ hs | exact k.takeInHand _ (k.port _ _ hs) | exact k.port _ _ hs

theorem restartRequest (k : StepKeeps P) (hs : P s) : P (restartRequest s).1 := by
  have hr : P (restart s).1 := k.owner .restart _ s rfl hs
  unfold Machine.restartRequest
  dsimp only
  split
  · dsimp only
    exact k.port _ _ hr
  · exact hr

theorem exec (k : StepKeeps P) (c : Instr) (hs : P s) (ht : exec c s = .next t) : P t := by
  have answered : ∀ o : State → State × Answer, (∀ s, P s → P (o s).1) → answerRequest s o = .next t → P t :=
    fun o ho he => whenUp (fun s hs => k.port _ _ (ho s hs)) hs he
  by_cases hc : c = .restart
  · subst hc
    exact answered _ (fun _ hs => k.restartRequest hs) ht
  · cases ho : ownerOf c with
    | some o => exact answered o (fun s hs => k.owner c o s ho hs) (exec_of_owner ho hc s ▸ ht)
    | none =>
      cases he : eventOf c with
      | some f => exact whenUp (fun s hs => k.event c f s he hs) hs (exec_of_event he s ▸ ht)
      | none =>
        cases c <;> first | cases ho; done | cases he; done | skip
        case bridgeFrameReceived bytes =>
          exact whenUp (fun s hs => forAll_induct bytes Machine.receiveByte s (fun b _ _ hu => k.receiveByte b hu) hs) hs ht
        case replySent => exact whenUp (fun s hs => k.replySent hs) hs ht
        case voyageClockTick => exact Host.Outcome.next.inj ht ▸ k.clock s hs
        case engineInputChange e i b => exact Host.Outcome.next.inj ht ▸ k.input e i b s hs
        case start x => exact Host.Outcome.next.inj ht ▸ k.begins x s hs
        case resetLineAsserted => exact Host.Outcome.next.inj ht ▸ k.control _ _ (k.control _ _ hs)
        case resetLineReleased => exact Host.Outcome.next.inj ht ▸ k.control _ _ hs
        case powerOn => exact Host.Outcome.next.inj ht ▸ k.control _ _ hs
        case supplyDip => exact Host.Outcome.next.inj ht ▸ k.control _ _ hs

/-- An invariant that every part of a step keeps is kept by every step. -/
theorem step (k : StepKeeps P) (hs : P s) (ht : step s = .next t) : P t := by
  unfold Machine.step at ht
  split at ht
  · exact Host.Outcome.next.inj ht ▸ hs
  · exact k.exec _ (k.pending _ _ hs) ht

end StepKeeps

end Sys2Proof.Machine
end

section
/-! ### What the operations on the Node Table keep of the Barge Line Master -/

namespace Sys2Proof.Machine

variable {s t : State}

/-- The Node Table holds the same serials at the same addresses, and nothing else of the master has changed. -/
structure LineKept (s t : State) : Prop where
  line : t.line = { s.line with nodes := t.line.nodes } := by simp
  keys : t.line.nodes.map Node.key = s.line.nodes.map Node.key := by simp

theorem LineKept.refl (s : State) : LineKept s s where

theorem LineKept.trans {u : State} (h : LineKept s t) (h' : LineKept t u) : LineKept s u where
  line := by rw [h'.line, h.line]
  keys := h'.keys.trans h.keys

/-- An operation that does not act on the master. -/
theorem lineKept_of_line (he : t.line = s.line) : LineKept s t where
  line := by rw [he]
  keys := by rw [he]

theorem onNode_keys (n : Nat) {f : Node → Node} (hf : ∀ d, (f d).key = d.key) (s : State) :
    (s.onNode n f).line.nodes.map Node.key = s.line.nodes.map Node.key := by
  simp only [State.onNode, onLine_line, List.map_map]
  refine List.map_congr_left fun d _ => ?_
  simp only [Function.comp_apply]
  split
  · exact hf d
  · rfl

theorem lineKept_onNode {n : Nat} {f : Node → Node} (hf : ∀ d, (f d).key = d.key) (h : LineKept s t) :
    LineKept s (t.onNode n f) := h.trans { line := rfl, keys := onNode_keys n hf t }

/-- The operations of a notice keep. -/
theorem lineKept_notice (s : State) : NoticeKeeps (LineKept s) where
  report _ _ _ h := h.trans (lineKept_of_line (by simp))
  node _ _ hf h := lineKept_onNode hf h
  bow _ _ h := h.trans (lineKept_of_line (by simp))
  freed _ h := h.trans (lineKept_of_line (by simp))
  requeued _ _ _ _ _ h := h.trans (lineKept_of_line (by simp))
  started _ _ _ _ h := h.trans (lineKept_of_line (by simp))
  command _ _ _ h := h.trans (lineKept_of_line (by simp))
  coupling _ _ _ _ h := h.trans (lineKept_of_line (by simp))

/-! ### R39: the Node Table stays in order -/

theorem nodesOk_of_keys (he : t.line.nodes.map Node.key = s.line.nodes.map Node.key) (h : NodesOk s) : NodesOk t := by
  obtain ⟨hord, hrange, hserial⟩ := h
  have hmap : ∀ {β : Type} (g : Nat × Nat → β),
      (t.line.nodes.map fun d => g d.key) = s.line.nodes.map fun d => g d.key := fun g => by
    simpa [Function.comp_def] using congrArg (List.map g) he
  refine ⟨hmap Prod.snd ▸ hord, fun d hd => ?_, hmap Prod.fst ▸ hserial⟩
  have hk : d.key ∈ s.line.nodes.map Node.key := he ▸ List.mem_map_of_mem hd
  obtain ⟨e, he', hek⟩ := List.mem_map.1 hk
  have : e.address = d.address := congrArg Prod.snd hek
  exact this ▸ hrange e he'

theorem nodesOk_of_nodes (he : t.line.nodes = s.line.nodes) (hs : NodesOk s) : NodesOk t := nodesOk_of_keys (by rw [he]) hs

/-- A record that compares with every record of a list goes in its place. -/
theorem orderedInsert_pairwise {α : Type} {lt : α → α → Prop} [DecidableRel lt] (htrans : ∀ a b c, lt a b → lt b c → lt a c)
    {d : α} {l : List α} (hd : ∀ x ∈ l, lt x d ∨ lt d x) (h : l.Pairwise lt) :
    (l.orderedInsert (fun a x => ¬lt x a) d).Pairwise lt := by
  induction l with
  | nil => exact List.pairwise_singleton _ _
  | cons a l ih =>
    obtain ⟨ha, hl⟩ := List.pairwise_cons.1 h
    rw [List.orderedInsert_cons]
    split
    · next hlt =>
      have hda : lt d a := (hd a List.mem_cons_self).resolve_left hlt
      refine List.pairwise_cons.2 ⟨fun x hx => ?_, h⟩
      rcases List.mem_cons.1 hx with rfl | hx
      · exact hda
      · exact htrans _ _ _ hda (ha x hx)
    · next hlt =>
      refine List.pairwise_cons.2 ⟨fun x hx => ?_, ih (fun x hx => hd x (List.mem_cons_of_mem _ hx)) hl⟩
      rcases (List.mem_orderedInsert _).1 hx with rfl | hx
      · exact not_not.1 hlt
      · exact ha x hx

theorem insertNode_eq (d : Node) (l : List Node) :
    insertNode d l = l.orderedInsert (fun a x => ¬x.address < a.address) d := by
  induction l with
  | nil => rfl
  | cons a l ih =>
    rw [insertNode, List.orderedInsert_cons, ih]
    split <;> simp_all

theorem insertNode_perm (d : Node) (l : List Node) : (insertNode d l).Perm (d :: l) :=
  insertNode_eq d l ▸ List.perm_orderedInsert _ d l

/-- R39: a record put in at a free address keeps the order. -/
theorem insertNode_pairwise {d : Node} {l : List Node} (hd : ∀ x ∈ l, x.address ≠ d.address)
    (h : l.Pairwise fun x y => x.address < y.address) : (insertNode d l).Pairwise fun x y => x.address < y.address := by
  rw [insertNode_eq]
  exact orderedInsert_pairwise (lt := fun x y : Node => x.address < y.address) (fun _ _ _ => Nat.lt_trans)
    (fun x hx => Nat.lt_or_gt_of_ne (hd x hx)) h

theorem freeAddress_free {a : Nat} (h : s.freeAddress = some a) : (1 ≤ a ∧ a ≤ 40) ∧ ∀ d ∈ s.line.nodes, d.address ≠ a := by
  have hmem := List.mem_of_find?_eq_some h
  have hfree := List.find?_some h
  simp only [List.mem_map, List.mem_range, Config.maxAddress] at hmem
  obtain ⟨k, hk, rfl⟩ := hmem
  refine ⟨by omega, fun d hd => ?_⟩
  simpa using List.all_eq_true.1 hfree d hd

theorem node?_none {n : Nat} (h : s.node? n = none) : ∀ d ∈ s.line.nodes, d.serial ≠ n := fun d hd => by
  simpa using List.find?_eq_none.1 h d hd

/-- R39, R43: a record takes a free address. -/
theorem insertNode_nodesOk {d : Node} (hn : s.node? d.serial = none) (hx : s.freeAddress = some d.address) (h : NodesOk s) :
    NodesOk (s.onLine fun l => { l with nodes := insertNode d l.nodes }) := by
  obtain ⟨hrange', hfree⟩ := freeAddress_free hx
  obtain ⟨hord, hrange, hserial⟩ := h
  refine ⟨List.pairwise_map.2 (insertNode_pairwise hfree (List.pairwise_map.1 hord)), fun y hy => ?_,
    ((insertNode_perm d _).map _).nodup_iff.2 (List.nodup_cons.2 ⟨fun hm => ?_, hserial⟩)⟩
  · rcases List.mem_cons.1 ((insertNode_perm d _).mem_iff.1 hy) with rfl | hy
    · exact hrange'
    · exact hrange y hy
  · obtain ⟨y, hy, he⟩ := List.mem_map.1 hm
    exact node?_none hn y hy he

/-- R52: a table without one of its records is in order. -/
theorem nodesOk_struck (n : Nat) (h : NodesOk s) : NodesOk (s.onLine fun l =>
    { l with nodes := l.nodes.filter fun x => x.serial != n, stops := l.stops.filter fun x => x.1 != n }) := by
  obtain ⟨hord, hrange, hserial⟩ := h
  have hf : (s.line.nodes.filter fun x => x.serial != n).Sublist s.line.nodes := List.filter_sublist
  exact ⟨hord.sublist (hf.map _), fun d hd => hrange d (hf.subset hd), hserial.sublist (hf.map _)⟩

/-- The operations of the Barge Line keep the order of the Node Table. -/
theorem nodesOk_keeps : LineKeeps NodesOk where
  report _ _ _ h := nodesOk_of_nodes (by simp) h
  node n f hf h := nodesOk_of_keys (onNode_keys n hf _) h
  bow _ _ h := nodesOk_of_nodes (by simp) h
  freed _ h := nodesOk_of_nodes (by simp) h
  requeued _ _ _ _ _ h := nodesOk_of_nodes (by simp) h
  started _ _ _ _ h := nodesOk_of_nodes (by simp) h
  command _ _ _ h := nodesOk_of_nodes (by simp) h
  coupling _ _ _ _ h := nodesOk_of_nodes (by simp) h
  line _ hf h := nodesOk_of_nodes (hf _) h
  struck n h := nodesOk_struck n h
  joined _ hn hx h := insertNode_nodesOk hn hx h
  classified _ _ h := nodesOk_of_nodes (by simp) h
  tension _ _ _ _ h := nodesOk_of_nodes rfl h
  cast ps h := nodesOk_of_nodes (by simp) h

/-- R45: the master's next frame leaves the records. -/
theorem startNext_nodes (s : State) : (startNext s).line.nodes = s.line.nodes := by
  unfold startNext poll joiningSlot send
  dsimp only
  repeat' split
  all_goals simp

theorem replyWindowExpiry_nodesOk (h : NodesOk s) : NodesOk (replyWindowExpiry s) := by
  unfold replyWindowExpiry
  split
  · next tx _ =>
    have hm := nodesOk_keeps.exchangeMiss tx (nodesOk_keeps.turnaround h)
    exact nodesOk_of_nodes (startNext_nodes _) (nodesOk_of_nodes (by simp) hm)
  all_goals exact h

end Sys2Proof.Machine
end

section
/-! ### Reading the Order Table -/

namespace Sys2Proof.Machine

variable {s t : State}

theorem mem_allSlots (i : Fin 16) : i ∈ allSlots := by
  revert i
  decide

/-- A live order stands in its slot. -/
theorem mem_liveOrders {i : Fin 16} {o : Order} : (i, o) ∈ s.liveOrders ↔ s.orders.slots[i] = some o := by
  constructor
  · intro h
    obtain ⟨j, _, hj⟩ := List.mem_filterMap.1 h
    obtain ⟨p, hp, he⟩ := Option.map_eq_some_iff.1 hj
    obtain ⟨rfl, rfl⟩ := Prod.mk.inj he
    exact hp
  · intro h
    exact List.mem_filterMap.2 ⟨i, mem_allSlots i, by simp [h]⟩

theorem orderOn_some {n : Nat} {i : Fin 16} {o : Order} (h : s.orderOn n = some (i, o)) :
    s.orders.slots[i] = some o ∧ o.work.coupling? = some n :=
  ⟨mem_liveOrders.1 (List.mem_of_find?_eq_some h), by simpa using List.find?_some h⟩

theorem orderOn_none {n : Nat} : s.orderOn n = none ↔ ∀ x ∈ s.liveOrders, x.2.work.coupling? ≠ some n := by
  simp [State.orderOn, List.find?_eq_none]

theorem orderOn_isSome {n : Nat} : (s.orderOn n).isSome ↔ ∃ x ∈ s.liveOrders, x.2.work.coupling? = some n := by
  simp [State.orderOn, List.find?_isSome]

theorem orderTagged_some {n : Nat} {i : Fin 16} {o : Order} (h : s.orderTagged n = some (i, o)) :
    s.orders.slots[i] = some o ∧ o.tag = n :=
  ⟨mem_liveOrders.1 (List.mem_of_find?_eq_some h), by simpa using List.find?_some h⟩

theorem orderTagged_none {n : Nat} : s.orderTagged n = none ↔ ∀ x ∈ s.liveOrders, x.2.tag ≠ n := by
  simp [State.orderTagged, List.find?_eq_none]

theorem transferOrder_some {i : Fin 16} {o : Order} {w : TransferWork} (h : s.transferOrder = some (i, o, w)) :
    s.orders.slots[i] = some o ∧ o.work = .transfer w ∧ o.working = true := by
  obtain ⟨⟨j, p⟩, hm, hp⟩ := List.exists_of_findSome?_eq_some h
  rcases hw : p.work with _ | _ | v | _ <;> simp only [hw, reduceCtorEq] at hp
  split at hp
  · next hk =>
    obtain ⟨rfl, rfl, rfl⟩ := by simpa using hp
    exact ⟨mem_liveOrders.1 hm, hw, hk⟩
  · exact nomatch hp

theorem bunkerOrder_some {i : Fin 16} {o : Order} {w : BunkerWork} (h : s.bunkerOrder = some (i, o, w)) :
    s.orders.slots[i] = some o ∧ o.work = .bunker w ∧ o.working = true := by
  obtain ⟨⟨j, p⟩, hm, hp⟩ := List.exists_of_findSome?_eq_some h
  rcases hw : p.work with _ | _ | _ | v <;> simp only [hw, reduceCtorEq] at hp
  split at hp
  · next hk =>
    obtain ⟨rfl, rfl, rfl⟩ := by simpa using hp
    exact ⟨mem_liveOrders.1 hm, hw, hk⟩
  · exact nomatch hp

/-! ### What the Fuel Account and the remaining requests keep -/

theorem kept_onMeter {m : Fin 10} {f : Meter → Meter} (h : Kept s t) : Kept s (t.onMeter m f) := kept_onFuel h

theorem kept_takeTemperature {m : Fin 10} {r : Option Int} (h : Kept s t) : Kept s (takeTemperature m r t) := by
  simp only [takeTemperature]
  exact kept_ite (kept_report (kept_onMeter h)) (kept_onMeter h)

theorem kept_correctMeter {m : Fin 10} (h : Kept s t) : Kept s (correctMeter m t) := h.trans {}

theorem kept_bookNet {e : Fin 4} (h : Kept s t) : Kept s (bookNet e t) := by
  simp only [bookNet]
  split
  · exact kept_takeFromBook (kept_onLeg (kept_onFuel h))
  · exact kept_onLeg (kept_onFuel h)

theorem kept_bookEngine {e : Fin 4} (h : Kept s t) : Kept s (bookEngine e t) := by
  unfold bookEngine addRunning
  exact kept_ite (kept_onLeg (kept_bookNet h)) (kept_bookNet h)

theorem kept_takeFromTank {n : Nat} {x : Int} (h : Kept s t) : Kept s (takeFromTank n x t) := by
  unfold takeFromTank
  split
  · exact kept_takeFromBook h
  · exact h

theorem setWork_same (s : State) (i : Fin 16) (w : Work) :
    (s.setWork i w).orders.slots[i] = s.orders.slots[i].map fun o => { o with work := w } := by
  simp [State.setWork]

theorem setWork_other (s : State) {i j : Fin 16} (w : Work) (h : j ≠ i) :
    (s.setWork i w).orders.slots[j] = s.orders.slots[j] := by
  have : i.val ≠ j.val := fun he => h (Fin.ext he.symm)
  simp [State.setWork, Vector.getElem_set_ne, this]

/-- The figures of a fuel order change, and never the coupling of a HAUL or RELEASE. -/
theorem kept_setWork {i : Fin 16} {w : Work} {o : Order} (ho : t.orders.slots[i] = some o) (hc : o.work.coupling? = none)
    (hw : w.coupling? = none) (h : Kept s t) : Kept s (t.setWork i w) :=
  h.trans
    { orders := fun j p hp => by
        by_cases hj : j = i
        · subst hj
          rw [setWork_same, ho] at hp
          obtain rfl := Option.some.inj hp
          exact ⟨o, ho, rfl, rfl, .inr ⟨hw, hc⟩⟩
        · rw [setWork_other t w hj] at hp
          exact ⟨p, hp, rfl, rfl, .inl rfl⟩ }

theorem kept_bookTransfer (h : Kept s t) : Kept s (bookTransfer t) := by
  simp only [bookTransfer]
  split
  · next i o w ho =>
    obtain ⟨hslot, hw, _⟩ := transferOrder_some ho
    exact kept_setWork (o := o) (by simpa using hslot) (by simp [hw, Work.coupling?]) rfl
      (kept_takeFromTank (kept_takeFromTank h))
  · exact kept_onFuel h

theorem kept_bookBunker (h : Kept s t) : Kept s (bookBunker t) := by
  simp only [bookBunker]
  split
  · next i o w ho =>
    obtain ⟨hslot, hw, _⟩ := bunkerOrder_some ho
    exact kept_onLeg (kept_onFuel
      (kept_setWork (o := o) (by simpa using hslot) (by simp [hw, Work.coupling?]) rfl (kept_takeFromTank h)))
  · exact kept_onFuel h

theorem kept_testTransfer (h : Kept s t) : Kept s (testTransfer t) := by
  simp only [testTransfer]
  split
  · exact h
  · next i o w ho =>
    obtain ⟨hslot, hw, _⟩ := transferOrder_some ho
    have hs : Kept s (t.setWork i (.transfer (transferNext t w))) :=
      kept_setWork hslot (by simp [hw, Work.coupling?]) rfl h
    exact kept_ite (kept_completeOrder hs) hs

theorem kept_testBunker (h : Kept s t) : Kept s (testBunker t) := by
  simp only [testBunker]
  split
  · exact h
  · next i o w ho =>
    obtain ⟨hslot, hw, _⟩ := bunkerOrder_some ho
    have hs (b : BunkerWork) : Kept s (t.setWork i (.bunker b)) := kept_setWork hslot (by simp [hw, Work.coupling?]) rfl h
    refine kept_ite (kept_completeOrder h) ?_
    split
    · exact kept_completeOrder (hs _)
    · exact hs _

theorem kept_accountingInterval {v : Vector (Option Int) 10} (h : Kept s t) : Kept s (accountingInterval v t) := by
  simp only [accountingInterval]
  refine kept_finish (kept_fcapRecompute (kept_forAll (fun _ _ _ hu => kept_tankTests hu) ?_))
  refine kept_testBunker (kept_testTransfer (kept_bookBunker (kept_bookTransfer ?_)))
  refine kept_forAll (fun _ _ _ hu => kept_bookEngine hu) (kept_forAll (fun _ _ _ hu => kept_correctMeter hu) ?_)
  exact kept_forAll (fun _ _ _ hu => kept_takeTemperature hu) h

theorem kept_setSounding {n q : Nat} (h : Kept s t) : Kept s (setSounding n q t).1 := by
  simp only [setSounding]
  repeat' split
  · exact h
  · exact h
  · exact h
  · exact h
  · dsimp only
    exact kept_finish (kept_tankReport (kept_fcapRecompute (kept_tankTests (kept_soundTo h))))

theorem kept_abortOrder {n : Nat} (h : Kept s t) : Kept s (abortOrder n t).1 := by
  unfold abortOrder
  split
  · exact h
  · next i o ho =>
    split
    · exact kept_completeOrder h
    · exact kept_completeOrder h
    · exact kept_windDown (orderTagged_some ho).1 h
    · exact h

theorem kept_forgetNode {n : Nat} (h : Kept s t) : Kept s (forgetNode n t).1 := by
  unfold forgetNode
  repeat' split
  · exact h
  · dsimp only
    exact kept_finish ((kept_line s).removeNode n h)
  · exact h

theorem kept_closeLegRequest {n : Nat} (h : Kept s t) : Kept s (closeLegRequest n t).1 := by
  simp only [closeLegRequest]
  repeat' split
  · exact h
  · exact h
  · dsimp only
    exact kept_writeAsked (kept_closeLeg h)

theorem kept_releaseLeg {n : Nat} (h : Kept s t) : Kept s (releaseLeg n t).1 := by
  have hl (l : List ClosedLeg) : Kept s (t.onLegs fun x => { x with log := l }) := kept_onLegs h
  simp only [releaseLeg]
  repeat' split
  · exact h
  · exact h
  · exact kept_writeAsked (kept_closeLeg (hl _))
  · exact hl _

theorem kept_checkpointPeriodExpiry (h : Kept s t) : Kept s (checkpointPeriodExpiry t) := kept_finish (kept_askCheckpoint h)

theorem kept_clearTrims (h : Kept s t) : Kept s (clearTrims t) := h.trans {}

theorem kept_syncPeriodExpiry (h : Kept s t) : Kept s (syncPeriodExpiry t) := by
  simp only [syncPeriodExpiry]
  split
  · exact kept_clearTrims (kept_onProp (fun _ => rfl) (fun _ => rfl) (fun _ => rfl) h)
  · exact kept_forAll (fun _ _ _ hu => kept_onChan hu) (kept_onProp (fun _ => rfl) (fun _ => rfl) (fun _ => rfl) h)

theorem kept_logPulse (h : Kept s t) : Kept s (logPulse t) := h.trans {}

end Sys2Proof.Machine
end

section
/-! ### The requests and events that leave the Barge Line Master alone -/

namespace Sys2Proof.Machine

variable {s t : State}

/-- The commands that can act on the master: those of the line, those that read or forget a node, and those that change a node's claim
(R30, R40). -/
def actsOnLine : Instr → Bool
  | .readNode _ | .forgetNode _ | .declareBarge _ _ _ _ _ | .removeBarge _ | .declareCoupling _ _ _ _ _ _ _
  | .withdrawCoupling _ | .turnaroundExpiry | .masterFrameSent | .echoFailure | .faultRecoveryExpiry | .downRetryExpiry
  | .rejoinTimerExpiry _ | .replyWindowExpiry | .bargeFrameReceived _ _ | .bargeFrameSilence | .bargeReplyStart => true
  | _ => false

theorem owner_line {c : Instr} {o : State → State × Answer} (h : ownerOf c = some o) (hc : actsOnLine c = false) (s : State) :
    (o s).1.line = s.line := by
  cases c <;> cases h <;> first | cases hc; done | skip
  all_goals
    simp only [echo, readStatus, fetchReports, restart, setLever, setHelm, setSteerMode, setEngineModes, setSync, readPropulsion,
      readEngine, readSteering, readBarge, readCoupling, listMakeup, listNodes, postOrder, abortOrder, listOrders, setSounding,
      readTank, readMeters, closeLegRequest, readLeg, releaseLeg, setVoyageClock, writeSetting, readSetting, saveSettings]
    repeat' split
  all_goals simp [clearTrims]

theorem event_line {c : Instr} {f : State → State} (h : eventOf c = some f) (hc : actsOnLine c = false) (s : State) :
    (f s).line = s.line := by
  cases c <;> simp only [eventOf, reduceCtorEq, Option.some.injEq] at h <;> subst h <;> first | cases hc; done | skip
  all_goals simp
end Sys2Proof.Machine
end

section
/-! ### R39: the Node Table stays in order, after any step -/

namespace Sys2Proof.Machine

variable {s t : State}

theorem nodesOk_of_line (he : t.line = s.line) (hs : NodesOk s) : NodesOk t := nodesOk_of_nodes (by rw [he]) hs

theorem finish_nodesOk (h : NodesOk s) : NodesOk (finish s) := nodesOk_of_line (by simp) h

theorem dueAnalysis_nodesOk (h : NodesOk s) : NodesOk (dueAnalysis s) := nodesOk_of_line (by simp) h

theorem addBarge_nodesOk (p : Pos) (hull light cargo : Nat) (bow : Option Nat) (h : NodesOk s) :
    NodesOk (addBarge p hull light cargo bow s) := by
  have hb : NodesOk (askCheckpoint (bargeReport p (s.onSup fun u =>
      { u with barges := insertBarge ⟨p, hull, light, cargo, bow, .expected, true, false⟩ u.barges }))) :=
    nodesOk_of_line (by simp) h
  refine dueAnalysis_nodesOk ?_
  cases bow with
  | none => exact hb
  | some n => exact nodesOk_keeps.newClaim n (nodesOk_of_line (by simp) hb)

theorem dropCoupling_nodes (c : Coupling) (s : State) : (dropCoupling c s).line.nodes = s.line.nodes := by
  simp only [dropCoupling]
  split <;> simp [oneShotStop]

theorem removeRecord_nodesOk (p : Pos) (cs : List Coupling) (h : NodesOk s) : NodesOk (removeRecord p cs s) := by
  have hd : NodesOk (forAll cs dropCoupling s) :=
    forAll_induct cs dropCoupling s (fun _ _ _ hu => nodesOk_of_nodes (dropCoupling_nodes _ _) hu) h
  exact nodesOk_keeps.giveDepartures _ (nodesOk_of_line (by simp) hd)

theorem breakaway_nodesOk (p : Pos) (h : NodesOk s) : NodesOk (breakaway p s) := by
  have hc : NodesOk (forAll (s.liveOrders.filter fun x => s.orderEndsAt p x.2)
      (fun x => completeOrder x.1 (.ofWire .cancelled none)) s) :=
    forAll_induct _ _ s (fun _ _ _ hu => nodesOk_of_line (by simp) hu) h
  unfold breakaway
  exact nodesOk_of_line (by simp) (removeRecord_nodesOk p (s.couplingsAt p) hc)

theorem addCoupling_nodesOk (n : Nat) (a : CouplingEnd) (b : Pos) (serial channel winchEnd cls : Nat) (h : NodesOk s) :
    NodesOk (addCoupling n a b serial channel winchEnd cls s) := by
  exact dueAnalysis_nodesOk (nodesOk_keeps.newClaim _ (nodesOk_of_nodes (s := s) (by simp) h))

theorem owner_nodesOk {c : Instr} {o : State → State × Answer} (h : ownerOf c = some o) (hs : NodesOk s) : NodesOk (o s).1 := by
  cases hc : actsOnLine c with
  | false => exact nodesOk_of_line (owner_line h hc s) hs
  | true =>
    cases c <;> cases h <;> first | cases hc; done | skip
    case readNode.refl n =>
      unfold readNode
      split
      · exact hs
      · exact nodesOk_keeps.node n _ (fun _ => rfl) hs
    case forgetNode.refl n =>
      unfold forgetNode
      repeat' split
      · exact hs
      · dsimp only
        exact finish_nodesOk (nodesOk_keeps.removeNode n hs)
      · exact hs
    case declareBarge.refl p hull light cargo bow =>
      unfold declareBarge
      split
      · exact hs
      · dsimp only
        exact finish_nodesOk (addBarge_nodesOk p hull light cargo bow hs)
    case removeBarge.refl p =>
      unfold removeBarge
      repeat' split
      · exact hs
      · exact hs
      · exact hs
      · dsimp only
        exact finish_nodesOk (breakaway_nodesOk p hs)
      · exact hs
      · dsimp only
        exact finish_nodesOk (removeRecord_nodesOk p _ hs)
    case declareCoupling.refl n a b serial channel winchEnd cls =>
      unfold declareCoupling
      repeat' split
      · exact hs
      · exact hs
      · exact hs
      · dsimp only
        exact finish_nodesOk (addCoupling_nodesOk n a _ serial channel winchEnd cls hs)
    case withdrawCoupling.refl n =>
      unfold withdrawCoupling
      repeat' split
      · exact hs
      · exact hs
      · exact hs
      · dsimp only
        exact finish_nodesOk (nodesOk_keeps.giveDepartures _ (nodesOk_of_nodes (dropCoupling_nodes _ _) hs))

theorem event_nodesOk {c : Instr} {f : State → State} (h : eventOf c = some f) (hs : NodesOk s) : NodesOk (f s) := by
  cases hc : actsOnLine c with
  | false => exact nodesOk_of_line (event_line h hc s) hs
  | true =>
    cases c <;> simp only [eventOf, reduceCtorEq, Option.some.injEq] at h <;> subst h <;> first | cases hc; done | skip
    case turnaroundExpiry =>
      unfold turnaroundExpiry
      split
      · exact nodesOk_of_nodes (startNext_nodes s) hs
      · exact hs
    case masterFrameSent => exact finish_nodesOk (nodesOk_keeps.masterFrameSent hs)
    case echoFailure => exact finish_nodesOk (nodesOk_keeps.echoFailure hs)
    case faultRecoveryExpiry =>
      unfold faultRecoveryExpiry
      split
      · exact nodesOk_of_nodes rfl hs
      · exact hs
    case downRetryExpiry =>
      unfold downRetryExpiry
      split
      · exact nodesOk_of_nodes rfl hs
      · exact hs
    case rejoinTimerExpiry n => exact finish_nodesOk (nodesOk_keeps.rejoinTimerExpiry n hs)
    case replyWindowExpiry => exact replyWindowExpiry_nodesOk hs
    case bargeFrameReceived cs b => exact finish_nodesOk (nodesOk_keeps.bargeFrameReceived cs b hs)
    case bargeFrameSilence => exact finish_nodesOk (nodesOk_keeps.bargeFrameSilence hs)
    case bargeReplyStart =>
      unfold bargeReplyStart
      split
      · exact nodesOk_of_nodes rfl hs
      all_goals exact hs

theorem startPart_nodes (cause : StartCause) (x : StartInputs) (s : State) : (startPart cause x s).line.nodes = [] := by
  simp only [startPart]
  split <;> rfl

theorem start_nodesOk (x : StartInputs) (h : NodesOk s) : NodesOk (start x s) := by
  unfold start
  repeat' split
  · exact h
  · exact h
  · next cause _ _ => simp [NodesOk, startPart_nodes cause x s]

theorem stepKeeps_nodesOk : StepKeeps NodesOk where
  pending _ _ h := h
  port _ _ h := h
  control _ _ h := h
  clock _ h := h
  input e i b _ h := nodesOk_of_line (by simp) h
  begins x _ h := start_nodesOk x h
  owner _ _ _ ho h := owner_nodesOk ho h
  event _ _ _ he h := event_nodesOk he h
end Sys2Proof.Machine
end

section
/-! ### R3, R7: the Makeup Table, the Coupling Table and the checkpoint stay in order, after any step -/

namespace Sys2Proof.Machine

variable {s t u : State}

/-- The same barges and couplings stand in the tables, and the checkpoint holds what it held or them. -/
structure TablesKept (s t : State) : Prop where
  barges : t.sup.barges.map Barge.declared = s.sup.barges.map Barge.declared := by simp
  couplings : t.sup.couplings.map Coupling.declared = s.sup.couplings.map Coupling.declared := by simp
  record : t.ckpt.record = s.ckpt.record := by simp
  good : t.ckpt.good = s.ckpt.good := by simp
  writing : ∀ r, t.ckpt.writing = some r → s.ckpt.writing = some r ∨ r.holds s.sup := by simp +contextual

theorem Kept.tables (h : Kept s t) : TablesKept s t where
  barges := h.declaredBarges
  couplings := h.couplings
  record := h.record
  good := h.good
  writing := h.writing

theorem TablesKept.refl (s : State) : TablesKept s s where

/-- Tables and checkpoint stand as they were. -/
theorem tablesKept_of_parts (hb : t.sup.barges = s.sup.barges) (hc : t.sup.couplings = s.sup.couplings)
    (hk : t.ckpt = s.ckpt) : TablesKept s t where
  barges := by rw [hb]
  couplings := by rw [hc]
  record := by rw [hk]
  good := by rw [hk]
  writing _ hr := .inl (hk ▸ hr)

theorem TablesKept.numbers (h : TablesKept s t) : t.sup.couplings.map (·.number) = s.sup.couplings.map (·.number) := by
  simpa [Coupling.declared, Function.comp_def] using congrArg (List.map Prod.fst) h.couplings

theorem TablesKept.trans (h : TablesKept s t) (h' : TablesKept t u) : TablesKept s u where
  barges := h'.barges.trans h.barges
  couplings := h'.couplings.trans h.couplings
  record := h'.record.trans h.record
  good := h'.good.trans h.good
  writing r hr := by
    rcases h'.writing r hr with hw | ⟨hb, hc⟩
    · exact h.writing r hw
    · exact .inr ⟨hb.trans h.barges, hc.trans h.numbers⟩

/-- A figure of the declared ones is the same along two lists that declare the same. -/
theorem map_of_declared {α β γ δ : Type} {f : α → γ} {g : β → γ} {l : List α} {m : List β} (p : γ → δ) (h : l.map f = m.map g) :
    (l.map fun a => p (f a)) = m.map fun b => p (g b) := by
  simpa [Function.comp_def] using congrArg (List.map p) h

theorem recordTablesOk_of_holds {r : Record} {x : Supervisor} (h : r.holds x)
    (hm : MakeupOk (x.barges.map (·.pos)) (x.barges.map (·.hull)) (x.barges.map (·.bow)))
    (hc : CouplingsOk (x.couplings.map (·.number))) : RecordTablesOk r := by
  obtain ⟨hb, hn⟩ := h
  have hpos := map_of_declared (fun d => d.1) hb
  have hhull := map_of_declared (fun d => d.2.1) hb
  have hbow := map_of_declared (fun d => d.2.2.2.2) hb
  exact ⟨hpos ▸ hhull ▸ hbow ▸ hm, hn ▸ hc⟩

theorem tablesOk_of_kept (h : TablesKept s t) (hs : TablesOk s) : TablesOk t := by
  obtain ⟨hm, hc, hr, hw⟩ := hs
  have hpos := map_of_declared (fun d => d.1) h.barges
  have hhull := map_of_declared (fun d => d.2.1) h.barges
  have hbow := map_of_declared (fun d => d.2.2.2.2) h.barges
  refine ⟨hpos ▸ hhull ▸ hbow ▸ hm, h.numbers ▸ hc, h.record ▸ hr, fun r hr' => ?_⟩
  rcases h.writing r hr' with he | he
  · exact hw r he
  · exact recordTablesOk_of_holds he hm hc

theorem tablesKept_finish : TablesKept s (finish s) := (kept_finish (.refl s)).tables

theorem finish_tablesOk (h : TablesOk s) : TablesOk (finish s) := tablesOk_of_kept tablesKept_finish h

/-! #### The requests and events that declare and remove nothing -/

/-- The requests that change which records stand in the two tables (R4, R5, R8, R9). -/
def changesTables : Instr → Bool
  | .declareBarge _ _ _ _ _ | .removeBarge _ | .declareCoupling _ _ _ _ _ _ _ | .withdrawCoupling _ => true
  | _ => false

theorem tablesKept_readBarge (p : Pos) (s : State) : TablesKept s (readBarge p s).1 := by
  unfold readBarge
  repeat' split
  · exact .refl s
  · exact .refl s
  · refine { barges := ?_, couplings := rfl }
    simp only [State.onBarge, onSup_sup, List.map_map]
    refine List.map_congr_left fun b _ => ?_
    simp only [Function.comp_apply]
    split <;> rfl

theorem tablesKept_readCoupling (n : Nat) (s : State) : TablesKept s (readCoupling n s).1 := by
  unfold readCoupling
  split
  · exact .refl s
  · exact { barges := rfl, couplings := onCoupling_declared n (f := fun c => { c with changed := false }) (fun _ => rfl) s }

theorem tablesKept_startWrite (s : State) : TablesKept s (startWrite s) := (kept_startWrite (.refl s)).tables

theorem tablesKept_restart (s : State) : TablesKept s (restart s).1 := by
  unfold restart
  repeat' split
  · exact .refl s
  · exact (tablesKept_startWrite s).trans {}
  · exact {}

theorem tablesKept_postOrder (n : Nat) (x : OrderSpec) (s : State) : TablesKept s (postOrder n x s).1 := by
  have hset (i : Fin 16) (o : Option Order) : TablesKept s (s.setSlot i o) := {}
  unfold postOrder
  split
  · exact .refl s
  · exact .refl s
  · dsimp only
    refine .trans ?_ tablesKept_finish
    simp only [placeOrder]
    split
    · exact (hset _ _).trans (kept_startOrder (idle_setSlot (by simp [Order.working])) (.refl _)).tables
    · exact hset _ _

/-- R185: no owner changes the tables for a setting. -/
theorem ownerActs_tables (c : Sec) (num idx : Nat) (old value : Int) (was : Settings) (s : State) :
    (ownerActs c num idx old value was s).sup.barges = s.sup.barges ∧
      (ownerActs c num idx old value was s).sup.couplings = s.sup.couplings := by
  cases c with
  | coupling =>
    simp only [ownerActs, ownerCoupling, takeClass, ccapRecompute]
    repeat' split
    all_goals simp
  | engine => simp [ownerActs]
  | steering => simp [ownerActs]
  | fuel => simp [ownerActs]
  | backup => simp [ownerActs]

theorem tablesKept_writeSetting (a b c : Nat) (v : Int) (s : State) : TablesKept s (writeSetting a b c v s).1 := by
  unfold writeSetting
  repeat' split
  · exact .refl s
  · exact .refl s
  · dsimp only
    refine .trans ?_ tablesKept_finish
    exact tablesKept_of_parts (by simp [ownerActs_tables]) (by simp [ownerActs_tables]) (by simp)

theorem owner_tablesKept {c : Instr} {o : State → State × Answer} (h : ownerOf c = some o) (hc : changesTables c = false) (s : State) :
    TablesKept s (o s).1 := by
  cases c <;> cases h <;> first | cases hc; done | skip
  case readBarge.refl p => exact tablesKept_readBarge p s
  case readCoupling.refl n => exact tablesKept_readCoupling n s
  case restart.refl => exact tablesKept_restart s
  case postOrder.refl n x => exact tablesKept_postOrder n x s
  case abortOrder.refl n => exact (kept_abortOrder (.refl s)).tables
  case forgetNode.refl n => exact (kept_forgetNode (.refl s)).tables
  case setSounding.refl n q => exact (kept_setSounding (.refl s)).tables
  case closeLeg.refl n => exact (kept_closeLegRequest (.refl s)).tables
  case releaseLeg.refl n => exact (kept_releaseLeg (.refl s)).tables
  case writeSetting.refl a b c v => exact tablesKept_writeSetting a b c v s
  case setLever.refl v =>
    unfold setLever
    split
    · exact .refl s
    · dsimp only
      exact .trans (tablesKept_of_parts (t := takeLever v s) (by simp) (by simp) (by simp)) tablesKept_finish
  all_goals
    simp only [echo, readStatus, fetchReports, setHelm, setSteerMode, setEngineModes, setSync, readPropulsion,
      readEngine, readSteering, listMakeup, readNode, listNodes, listOrders, 
      readTank, readMeters, readLeg, setVoyageClock, readSetting, saveSettings]
    repeat' split
  all_goals exact tablesKept_of_parts (by simp [clearTrims]) (by simp [clearTrims]) (by simp [clearTrims])
theorem tablesKept_settle : TablesKept s (settle s) := (kept_settle (.refl s)).tables

theorem tablesKept_controlPeriodExpiry (b : Bool) (x y : Nat) (s : State) : TablesKept s (controlPeriodExpiry b x y s) := by
  have hd : TablesKept s (deliverBackup x y (followTakeover b s)) := tablesKept_of_parts (by simp) (by simp) (by simp)
  have he (u : State) : TablesKept u (forAll allEngines engineControl u) :=
    tablesKept_of_parts (by simp) (by simp) (by simp)
  exact ((hd.trans tablesKept_settle).trans (he _)).trans tablesKept_finish

theorem event_tablesKept {c : Instr} {f : State → State} (h : eventOf c = some f) (hc : c ≠ .checkpointWriteComplete) (s : State) :
    TablesKept s (f s) := by
  have parts {u : State} (hb : u.sup.barges = s.sup.barges) (hc : u.sup.couplings = s.sup.couplings) (hk : u.ckpt = s.ckpt) :
      TablesKept s (finish u) := (tablesKept_of_parts hb hc hk).trans tablesKept_finish
  have kept {u : State} (hu : Kept s u) : TablesKept s (finish u) := (kept_finish hu).tables
  cases c <;> simp only [eventOf, reduceCtorEq, Option.some.injEq] at h <;> subst h
  case checkpointWriteComplete => exact absurd rfl hc
  case checkpointPeriodExpiry => exact kept (kept_askCheckpoint (.refl s))
  case controlPeriodExpiry b x y => exact tablesKept_controlPeriodExpiry b x y s
  case silenceLimitExpiry => exact parts (by simp) (by simp) (by simp)
  case holdTimeExpiry => exact parts (by simp) (by simp) (by simp)
  case masterFrameSent => exact kept ((kept_line s).masterFrameSent (.refl s))
  case echoFailure => exact kept ((kept_line s).echoFailure (.refl s))
  case rejoinTimerExpiry n => exact kept ((kept_line s).rejoinTimerExpiry n (.refl s))
  case replyWindowExpiry => exact (kept_replyWindowExpiry (.refl s)).tables
  case bargeFrameReceived l b => exact kept ((kept_line s).bargeFrameReceived l b (.refl s))
  case bargeFrameSilence => exact kept ((kept_line s).bargeFrameSilence (.refl s))
  case haulTimerExpiry n => exact kept (kept_haulTimerExpiry (.refl s))
  case releaseTimerExpiry n => exact kept (kept_releaseTimerExpiry (.refl s))
  case releaseWaitExpiry n => exact kept (kept_releaseWaitExpiry (.refl s))
  case accountingIntervalExpiry v => exact (kept_accountingInterval (.refl s)).tables
  all_goals exact tablesKept_of_parts (by simp) (by simp) (by simp)

/-! #### The checkpoint -/

theorem startWrite_tablesOk (h : TablesOk s) : TablesOk (startWrite s) := tablesOk_of_kept (tablesKept_startWrite s) h

theorem startDue_tablesOk (h : TablesOk s) : TablesOk (startDue s) := by
  unfold startDue
  split
  · exact startWrite_tablesOk h
  · exact h

/-- R190: the record that has been written becomes the one that stands. -/
theorem checkpointWriteComplete_tablesOk (h : TablesOk s) : TablesOk (checkpointWriteComplete s) := by
  unfold checkpointWriteComplete
  split
  · exact h
  · next r hr =>
    obtain ⟨hm, hc, _, hw⟩ := h
    have hu : TablesOk (s.onCkpt fun c => { c with record := r, good := true, writing := none }) :=
      ⟨hm, hc, hw r hr, fun _ hn => nomatch hn⟩
    dsimp only
    split
    · exact startWrite_tablesOk (s := (s.onCkpt fun c => { c with record := r, good := true, writing := none }).onCkpt fun c =>
        { c with due := false }) hu
    · exact hu
    · exact startDue_tablesOk hu
    · exact hu

theorem startRecord_tablesOk (good : Bool) (clock : Stamp) {r : Record} (h : RecordTablesOk r) :
    RecordTablesOk (startRecord good clock r) := by
  cases good with
  | true => exact h
  | false => exact ⟨makeupOk_nil, fun n hn => (nomatch hn), List.Pairwise.nil⟩

/-- R31: the restored tables are those of the record. -/
theorem startSupervisor_holds (x : Settings) (r : Record) : r.holds (startSupervisor x r) := by
  simp [Record.holds, startSupervisor, SavedBarge.restored, SavedCoupling.restored, SavedBarge.declared, Barge.declared,
    Function.comp_def]

/-- R31, R194: a start restores the tables from the record, or leaves them empty. -/
theorem startPart_tablesOk (cause : StartCause) (x : StartInputs) (h : TablesOk s) : TablesOk (startPart cause x s) := by
  obtain ⟨_, _, hr, _⟩ := h
  have hsup : ∀ (y : Settings) (r : Record), RecordTablesOk r →
      MakeupOk ((startSupervisor y r).barges.map (·.pos)) ((startSupervisor y r).barges.map (·.hull))
          ((startSupervisor y r).barges.map (·.bow)) ∧ CouplingsOk ((startSupervisor y r).couplings.map (·.number)) := by
    intro y r ⟨hm, hc⟩
    obtain ⟨hb, hn⟩ := startSupervisor_holds y r
    have hpos := map_of_declared (fun d => d.1) hb.symm
    have hhull := map_of_declared (fun d => d.2.1) hb.symm
    have hbow := map_of_declared (fun d => d.2.2.2.2) hb.symm
    exact ⟨hpos ▸ hhull ▸ hbow ▸ hm, hn ▸ hc⟩
  have hstart := hsup (loadSettings (wearSections x.worn (cutSave x.sectionsWritten s.store))) _
    (startRecord_tablesOk (s.ckpt.good && s.ckpt.writing.isNone) (startClock cause s.clock) hr)
  simp only [startPart]
  split
  · exact ⟨hstart.1, hstart.2, hr, fun _ hn => nomatch hn⟩
  · refine startWrite_tablesOk ?_
    exact ⟨hstart.1, hstart.2, hr, fun _ hn => nomatch hn⟩

/-! #### R4: a barge is put in its place -/

theorem before_iff (p q : Pos) : Pos.before p q = true ↔ posLt p q := by
  simp [Pos.before, posLt]

theorem posLt_trichotomy {p q : Pos} (h : p ≠ q) : posLt p q ∨ posLt q p := by
  rcases p with ⟨a, b⟩
  rcases q with ⟨c, d⟩
  simp only [ne_eq, Pos.mk.injEq, posLt] at *
  omega

theorem posLt_trans {p q r : Pos} (h : posLt p q) (h' : posLt q r) : posLt p r := by
  simp only [posLt] at *
  omega

theorem insertBarge_eq (b : Barge) (l : List Barge) :
    insertBarge b l = l.orderedInsert (fun a x => ¬Pos.before x.pos a.pos = true) b := by
  induction l with
  | nil => rfl
  | cons a l ih =>
    rw [insertBarge, List.orderedInsert_cons, ih]
    split <;> simp_all

theorem insertBarge_perm (b : Barge) (l : List Barge) : (insertBarge b l).Perm (b :: l) :=
  insertBarge_eq b l ▸ List.perm_orderedInsert _ b l

/-- R3: a barge put in at an empty position keeps the order. -/
theorem insertBarge_pairwise {b : Barge} {l : List Barge} (hb : ∀ x ∈ l, x.pos ≠ b.pos)
    (h : l.Pairwise fun x y => posLt x.pos y.pos) : (insertBarge b l).Pairwise fun x y => posLt x.pos y.pos := by
  simp only [← before_iff] at h ⊢
  rw [insertBarge_eq]
  refine orderedInsert_pairwise (lt := fun x y : Barge => Pos.before x.pos y.pos = true) (fun _ _ _ => ?_) (fun x hx => ?_) h
  · simpa only [before_iff] using posLt_trans
  · simpa only [before_iff] using posLt_trichotomy (hb x hx)

/-- R4: what the checks of DECLARE_BARGE leave true of an accepted one. -/
theorem bargeRefusal_none {p : Pos} {hull light cargo : Nat} {bow : Option Nat}
    (h : s.bargeRefusal p hull light cargo bow = none) :
    s.barge? p = none ∧ (∀ b ∈ s.sup.barges, b.hull ≠ hull) ∧ s.sup.barges.length < 24 ∧
      (bow.isSome = true → (s.sup.barges.filter (·.bow.isSome)).length < 2) := by
  unfold State.bargeRefusal at h
  split_ifs at h with h1 h2 h3 h4 h5
  simp only [Bool.not_eq_true, Option.isSome_eq_false_iff, Option.isNone_iff_eq_none, Bool.or_eq_false_iff, List.any_eq_false,
    Config.maxBarges, Config.maxBowUnits, Bool.and_eq_false_iff, beq_iff_eq] at h2 h3 h4 h5
  refine ⟨h2, h3.1, by omega, fun hbow => ?_⟩
  rcases h5 with h5 | h5
  · simp [h5] at hbow
  · exact not_le.1 (of_decide_eq_false h5)

theorem barge?_none {p : Pos} (h : s.barge? p = none) : ∀ b ∈ s.sup.barges, b.pos ≠ p := fun b hb => by
  simpa using List.find?_eq_none.1 h b hb

/-- R3, R4: the table with an accepted barge in its place keeps its order and its limits. -/
theorem insertBarge_makeupOk {p : Pos} {hull light cargo : Nat} {bow : Option Nat} {x : Barge}
    (hx : x.declared = (p, hull, light, cargo, bow)) (h : s.bargeRefusal p hull light cargo bow = none)
    (hm : MakeupOk (s.sup.barges.map (·.pos)) (s.sup.barges.map (·.hull)) (s.sup.barges.map (·.bow))) :
    MakeupOk ((insertBarge x s.sup.barges).map (·.pos)) ((insertBarge x s.sup.barges).map (·.hull))
      ((insertBarge x s.sup.barges).map (·.bow)) := by
  obtain ⟨hp, hhull, hlen, hbows⟩ := bargeRefusal_none h
  obtain ⟨_, hord, hdup, htwo⟩ := hm
  obtain ⟨rfl, rfl, rfl, rfl, rfl⟩ := by simpa [Barge.declared] using hx
  have hperm := insertBarge_perm x s.sup.barges
  refine ⟨?_, List.pairwise_map.2 (insertBarge_pairwise (barge?_none hp) (List.pairwise_map.1 hord)), ?_, ?_⟩
  · simpa [hperm.length_eq] using hlen
  · refine (hperm.map _).nodup_iff.2 (List.nodup_cons.2 ⟨fun hmem => ?_, hdup⟩)
    obtain ⟨b, hb, he⟩ := List.mem_map.1 hmem
    exact hhull b hb he
  · rw [((hperm.map _).filter _).length_eq, List.map_cons, List.filter_cons]
    split
    · next hsome =>
      have := hbows hsome
      simp only [List.length_cons, List.filter_map, List.length_map, Function.comp_def] at htwo ⊢
      omega
    · exact htwo

/-! #### R8: a coupling is put in its place -/

theorem insertCoupling_eq (c : Coupling) (l : List Coupling) :
    insertCoupling c l = l.orderedInsert (fun a x => ¬x.number < a.number) c := by
  induction l with
  | nil => rfl
  | cons a l ih =>
    rw [insertCoupling, List.orderedInsert_cons, ih]
    split <;> simp_all

theorem insertCoupling_perm (c : Coupling) (l : List Coupling) : (insertCoupling c l).Perm (c :: l) :=
  insertCoupling_eq c l ▸ List.perm_orderedInsert _ c l

theorem coupling?_none {n : Nat} (h : s.coupling? n = none) : ∀ c ∈ s.sup.couplings, c.number ≠ n := fun c hc => by
  simpa using List.find?_eq_none.1 h c hc

/-- R7, R8: the table with a coupling of a free number in its place. -/
theorem insertCoupling_couplingsOk {c : Coupling} (hn : s.coupling? c.number = none) (hr : 1 ≤ c.number ∧ c.number ≤ 32)
    (h : CouplingsOk (s.sup.couplings.map (·.number))) : CouplingsOk ((insertCoupling c s.sup.couplings).map (·.number)) := by
  obtain ⟨hrange, hord⟩ := h
  constructor
  · intro n hm
    rcases List.mem_cons.1 (((insertCoupling_perm c _).map _).mem_iff.1 hm) with rfl | hm
    · exact hr
    · exact hrange n hm
  · rw [insertCoupling_eq]
    exact List.pairwise_map.2 (orderedInsert_pairwise (lt := fun x y : Coupling => x.number < y.number)
      (fun _ _ _ => Nat.lt_trans) (fun x hx => Nat.lt_or_gt_of_ne (coupling?_none hn x hx)) (List.pairwise_map.1 hord))

/-- R8: what the checks of DECLARE_COUPLING leave true of an accepted one. -/
theorem goodCoupling_number {n channel winchEnd cls : Nat} {a : CouplingEnd} {b : Pos}
    (h : s.goodCoupling n a b channel winchEnd cls = true) : 1 ≤ n ∧ n ≤ 32 := by
  simp only [State.goodCoupling, Bool.and_eq_true, decide_eq_true_eq] at h
  exact ⟨h.1.1.1.1.1.1.1.1.1, h.1.1.1.1.1.1.1.1.2⟩

/-! #### Records are struck -/

theorem makeupOk_filter (f : Barge → Bool) {l : List Barge} (h : MakeupOk (l.map (·.pos)) (l.map (·.hull)) (l.map (·.bow))) :
    MakeupOk ((l.filter f).map (·.pos)) ((l.filter f).map (·.hull)) ((l.filter f).map (·.bow)) := by
  obtain ⟨hlen, hord, hdup, htwo⟩ := h
  have hs : (l.filter f).Sublist l := List.filter_sublist
  exact ⟨(hs.map _).length_le.trans hlen, hord.sublist (hs.map _), hdup.sublist (hs.map _),
    ((hs.map _).filter _).length_le.trans htwo⟩

theorem couplingsOk_filter (f : Coupling → Bool) {l : List Coupling} (h : CouplingsOk (l.map (·.number))) :
    CouplingsOk ((l.filter f).map (·.number)) := by
  obtain ⟨hrange, hord⟩ := h
  have hs : (l.filter f).Sublist l := List.filter_sublist
  exact ⟨fun n hn => hrange n ((hs.map _).subset hn), hord.sublist (hs.map _)⟩

theorem dropCoupling_tablesOk (c : Coupling) (h : TablesOk s) : TablesOk (dropCoupling c s) := by
  obtain ⟨hm, hc, hr, hw⟩ := h
  have hu : TablesOk (s.onSup fun u => { u with couplings := u.couplings.filter fun x => x.number != c.number }) :=
    ⟨hm, couplingsOk_filter _ hc, hr, hw⟩
  refine tablesOk_of_kept (tablesKept_of_parts ?_ ?_ ?_) hu <;> simp only [dropCoupling] <;> split <;> simp

theorem removeRecord_tablesOk (p : Pos) (cs : List Coupling) (h : TablesOk s) : TablesOk (removeRecord p cs s) := by
  have hd : TablesOk (forAll cs dropCoupling s) := forAll_induct cs dropCoupling s (fun _ _ _ hu => dropCoupling_tablesOk _ hu) h
  obtain ⟨hm, hc, hr, hw⟩ := hd
  have hu : TablesOk ((forAll cs dropCoupling s).onSup fun u => { u with barges := u.barges.filter fun b => b.pos != p }) :=
    ⟨makeupOk_filter _ hm, hc, hr, hw⟩
  exact tablesOk_of_kept (Kept.tables (kept_giveDepartures (.refl _)))
    (tablesOk_of_kept (tablesKept_of_parts (by simp) (by simp) (by simp)) hu)

theorem onSettling_tablesOk {f : Settling → Settling} (h : TablesOk s) : TablesOk (s.onSettling f) := h

theorem dueAnalysis_tablesOk (h : TablesOk s) : TablesOk (dueAnalysis s) := h

theorem breakaway_tablesOk (p : Pos) (h : TablesOk s) : TablesOk (breakaway p s) := by
  have hc : TablesOk (forAll (s.liveOrders.filter fun x => s.orderEndsAt p x.2)
      (fun x => completeOrder x.1 (.ofWire .cancelled none)) s) :=
    tablesOk_of_kept (kept_forAll (fun _ _ _ hu => kept_completeOrder hu) (.refl s)).tables h
  unfold breakaway
  exact onSettling_tablesOk (removeRecord_tablesOk p (s.couplingsAt p) hc)

theorem addBarge_tablesOk {p : Pos} {hull light cargo : Nat} {bow : Option Nat}
    (hb : s.bargeRefusal p hull light cargo bow = none) (h : TablesOk s) : TablesOk (addBarge p hull light cargo bow s) := by
  obtain ⟨hm, hc, hr, hw⟩ := h
  have hu : TablesOk (s.onSup fun u =>
      { u with barges := insertBarge ⟨p, hull, light, cargo, bow, .expected, true, false⟩ u.barges }) :=
    ⟨insertBarge_makeupOk rfl hb hm, hc, hr, hw⟩
  have claimed {v : State} : TablesKept v (claimBow p bow v) := by
    unfold claimBow
    split
    · exact (kept_newClaim (kept_addBow (.refl v))).tables
    · exact .refl v
  exact dueAnalysis_tablesOk (tablesOk_of_kept claimed (tablesOk_of_kept (tablesKept_of_parts (by simp) (by simp) (by simp)) hu))

theorem addCoupling_tablesOk {n serial channel winchEnd cls : Nat} {a : CouplingEnd} {b : Pos}
    (hg : s.goodCoupling n a b channel winchEnd cls = true) (hn : s.coupling? n = none) (h : TablesOk s) :
    TablesOk (addCoupling n a b serial channel winchEnd cls s) := by
  obtain ⟨hm, hc, hr, hw⟩ := h
  have hu (c : Coupling) (hcn : c.number = n) :
      TablesOk (s.onSup fun u => { u with couplings := insertCoupling c u.couplings }) :=
    ⟨hm, insertCoupling_couplingsOk (hcn ▸ hn) (hcn ▸ goodCoupling_number hg) hc, hr, hw⟩
  let cmd : WinchCmd := if s.line.stops.contains (serial, channel) then .stop else .none
  have hc := hu ⟨n, a, b, serial, channel, winchEnd == 1, cls, .unconfirmed, 0, none, cmd, true⟩ rfl
  exact dueAnalysis_tablesOk (tablesOk_of_kept (kept_newClaim (.refl _)).tables
    (tablesOk_of_kept (tablesKept_of_parts (by simp) (by simp [cmd]) (by simp)) hc))

/-! #### Every step -/

theorem owner_tablesOk {c : Instr} {o : State → State × Answer} (h : ownerOf c = some o) (hs : TablesOk s) : TablesOk (o s).1 := by
  cases hc : changesTables c with
  | false => exact tablesOk_of_kept (owner_tablesKept h hc s) hs
  | true =>
    cases c <;> cases h <;> first | cases hc; done | skip
    case declareBarge.refl p hull light cargo bow =>
      unfold declareBarge
      split
      · exact hs
      · next hb =>
        dsimp only
        exact finish_tablesOk (addBarge_tablesOk hb hs)
    case removeBarge.refl p =>
      unfold removeBarge
      repeat' split
      · exact hs
      · exact hs
      · exact hs
      · dsimp only
        exact finish_tablesOk (breakaway_tablesOk p hs)
      · exact hs
      · dsimp only
        exact finish_tablesOk (removeRecord_tablesOk p _ hs)
    case declareCoupling.refl n a b serial channel winchEnd cls =>
      unfold declareCoupling
      repeat' split
      · exact hs
      · exact hs
      · exact hs
      · next hg hd =>
        have hn : s.coupling? n = none := by
          simp only [State.couplingDuplicate, Bool.not_eq_true, Bool.or_eq_false_iff] at hd
          simpa using hd.1.1
        dsimp only
        exact finish_tablesOk (addCoupling_tablesOk (by simpa using hg) hn hs)
    case withdrawCoupling.refl n =>
      unfold withdrawCoupling
      repeat' split
      · exact hs
      · exact hs
      · exact hs
      · dsimp only
        exact finish_tablesOk (tablesOk_of_kept (kept_giveDepartures (.refl _)).tables (dropCoupling_tablesOk _ hs))

theorem event_tablesOk {c : Instr} {f : State → State} (h : eventOf c = some f) (hs : TablesOk s) : TablesOk (f s) := by
  by_cases hc : c = .checkpointWriteComplete
  · subst hc
    obtain rfl := Option.some.inj h
    exact checkpointWriteComplete_tablesOk hs
  · exact tablesOk_of_kept (event_tablesKept h hc s) hs

theorem stepKeeps_tablesOk : StepKeeps TablesOk where
  pending _ _ h := h
  port _ _ h := h
  control _ _ h := h
  clock _ h := h
  input _ _ _ _ h := tablesOk_of_kept (tablesKept_of_parts (by simp) (by simp) (by simp)) h
  begins x s h := by
    unfold start
    repeat' split
    · exact h
    · exact h
    · exact startPart_tablesOk _ x h
  owner _ _ _ ho h := owner_tablesOk ho h
  event _ _ _ he h := event_tablesOk he h

/-- Settles O23: the two invariants are kept by every part of a step. -/
theorem recordTablesStayInOrder : Obligations.RecordTablesStayInOrder := by
  unfold Obligations.RecordTablesStayInOrder
  exact ⟨fun _ _ => stepKeeps_nodesOk.step, fun _ _ => stepKeeps_tablesOk.step⟩

end Sys2Proof.Machine
end

section
/-! ### What is left to settle, and that settling ends -/

namespace Sys2Proof.Machine

variable {s t u : State}

/-! #### The holding analysis and the makeup change that are due -/

@[simp] theorem recomputeLe_due (s : State) : (recomputeLe s).settling.analysis = s.settling.analysis ∧
    (recomputeLe s).settling.makeup = s.settling.makeup := by
  simp only [recomputeLe]
  repeat' split
  all_goals simp

@[simp] theorem fcapRecompute_due (s : State) : (fcapRecompute s).settling.analysis = s.settling.analysis ∧
    (fcapRecompute s).settling.makeup = s.settling.makeup := by
  simp only [fcapRecompute]
  repeat' split
  all_goals simp

@[simp] theorem ccapRecompute_due (b : Bool) (s : State) : (ccapRecompute b s).settling.analysis = s.settling.analysis ∧
    (ccapRecompute b s).settling.makeup = s.settling.makeup := by
  simp only [ccapRecompute]
  repeat' split
  all_goals simp

@[simp] theorem takeLever_due (v : Int) (s : State) : (takeLever v s).settling.analysis = s.settling.analysis ∧
    (takeLever v s).settling.makeup = s.settling.makeup := by simp [takeLever]

@[simp] theorem zeroCommand_due (s : State) : (zeroCommand s).settling.analysis = s.settling.analysis ∧
    (zeroCommand s).settling.makeup = s.settling.makeup := by simp [zeroCommand]

@[simp] theorem silenceLimitExpiry_due (s : State) : (silenceLimitExpiry s).settling.analysis = s.settling.analysis ∧
    (silenceLimitExpiry s).settling.makeup = s.settling.makeup := by
  simp only [silenceLimitExpiry]
  repeat' split
  all_goals simp

@[simp] theorem holdTimeExpiry_due (s : State) : (holdTimeExpiry s).settling.analysis = s.settling.analysis ∧
    (holdTimeExpiry s).settling.makeup = s.settling.makeup := by
  simp only [holdTimeExpiry]
  split
  all_goals simp

@[simp] theorem deliverBackup_due (x y : Nat) (s : State) : (deliverBackup x y s).settling.analysis = s.settling.analysis ∧
    (deliverBackup x y s).settling.makeup = s.settling.makeup := by
  simp only [deliverBackup]
  split
  all_goals simp

@[simp] theorem ownerActs_due (c : Sec) (num idx : Nat) (old value : Int) (was : Settings) (s : State) :
    (ownerActs c num idx old value was s).settling.analysis = s.settling.analysis ∧
      (ownerActs c num idx old value was s).settling.makeup = s.settling.makeup := by
  cases c <;> simp only [ownerActs]
  case engine =>
    simp only [ownerEngine]
    repeat' split
    all_goals simp
  case coupling =>
    simp only [ownerCoupling]
    repeat' split
    all_goals simp
  case fuel =>
    simp only [ownerFuel]
    repeat' split
    all_goals simp
  all_goals simp

@[simp] theorem makeupChange_due (s : State) : (makeupChange s).settling.analysis = s.settling.analysis ∧
    (makeupChange s).settling.makeup = s.settling.makeup := by
  simp only [makeupChange, makeupEvent]
  repeat' split
  all_goals simp [askCheckpoint, closeLeg]

@[simp] theorem setBargeState_due (p : Pos) (st : BargeState) (s : State) :
    (setBargeState p st s).settling.analysis = s.settling.analysis ∧
      (setBargeState p st s).settling.makeup = s.settling.makeup := by simp [setBargeState, askCheckpoint]

/-! #### Settling ends

Each round of settling takes the analysis or the re-test off; a re-test brings an analysis back only where it starts an order. -/

/-- The slots whose orders hold no place. -/
def State.idleSlots (s : State) : Finset (Fin 16) :=
  Finset.univ.filter fun i => (s.orders.slots[i]).any fun o => !o.working

/-- What a re-test can do: no slot falls idle, and an analysis that it brings comes with an order that started. -/
structure Starts (s t : State) : Prop where
  idle : t.idleSlots ⊆ s.idleSlots
  retest : t.settling.retest = s.settling.retest
  analysis : t.settling.analysis = true → s.settling.analysis = true ∨ t.idleSlots ≠ s.idleSlots

theorem Starts.refl (s : State) : Starts s s := ⟨fun _ h => h, rfl, .inl⟩

theorem Starts.trans (h : Starts s t) (h' : Starts t u) : Starts s u where
  idle := h'.idle.trans h.idle
  retest := h'.retest.trans h.retest
  analysis ha := by
    have shrinks : t.idleSlots ≠ s.idleSlots → u.idleSlots ≠ s.idleSlots := fun hne he =>
      hne (h.idle.antisymm (he ▸ h'.idle))
    rcases h'.analysis ha with ht | hne
    · exact (h.analysis ht).imp_right shrinks
    · exact .inr fun he => hne (h'.idle.antisymm (he ▸ h.idle))

theorem mem_idleSlots {i : Fin 16} : i ∈ s.idleSlots ↔ ∃ o, s.orders.slots[i] = some o ∧ o.working = false := by
  simp [State.idleSlots, Option.any_eq_true]

theorem idleSlots_of_orders (h : t.orders = s.orders) : t.idleSlots = s.idleSlots := by
  simp only [State.idleSlots, h]

/-- A slot takes an order that is idle only where it was. -/
theorem idleSlots_setSlot {i : Fin 16} {o : Option Order} (h : ∀ p, o = some p → p.working = false → i ∈ s.idleSlots) :
    (s.setSlot i o).idleSlots ⊆ s.idleSlots := fun j hj => by
  obtain ⟨p, hp, hw⟩ := mem_idleSlots.1 hj
  by_cases hij : j = i
  · subst hij
    rw [setSlot_same] at hp
    exact h p hp hw
  · rw [setSlot_other s o hij] at hp
    exact mem_idleSlots.2 ⟨p, hp, hw⟩

@[simp] theorem setCouplingState_retest (n : Nat) (st : CouplingState) (s : State) :
    (setCouplingState n st s).settling.retest = s.settling.retest := by
  unfold setCouplingState
  repeat' split
  all_goals simp

@[simp] theorem handToBlock_retest (w : Work) (s : State) : (handToBlock w s).settling.retest = s.settling.retest := by
  cases w <;> simp [handToBlock, startHaul, startRelease]

@[simp] theorem setLast_slots (x : Orders) (i : Fin 16) (r : Option Resource) : (x.setLast i r).slots = x.slots := by
  rcases r with _ | _ | _ | _ <;> rfl

/-- R164: the order of the slot is ACTIVE, and its own timer runs in place of the release-wait timer. -/
theorem startOrder_same {i : Fin 16} {o : Order} (h : s.orders.slots[i] = some o) :
    (startOrder i s).orders.slots[i] =
      some { o with state := .active, waitTimer := none, workTimer := s.workTimer o.work } := by
  rw [startOrder_orders i s o h]
  simp

theorem startOrder_other {i j : Fin 16} (h : j ≠ i) : (startOrder i s).orders.slots[j] = s.orders.slots[j] := by
  cases ho : s.orders.slots[i] with
  | none => rw [startOrder_empty i s ho]
  | some o =>
    have : i.val ≠ j.val := fun he => h (Fin.ext he.symm)
    rw [startOrder_orders i s o ho]
    simp [Vector.getElem_set_ne, this]

/-- R164: an idle order starts. -/
theorem startOrder_starts {i : Fin 16} (hi : i ∈ s.idleSlots) : Starts s (startOrder i s) := by
  obtain ⟨o, ho, _⟩ := mem_idleSlots.1 hi
  have hgone : i ∉ (startOrder i s).idleSlots := fun h => by
    obtain ⟨p, hp, hw⟩ := mem_idleSlots.1 h
    rw [startOrder_same ho] at hp
    obtain rfl := Option.some.inj hp
    exact nomatch hw
  refine ⟨fun j hj => ?_, ?_, fun _ => .inr fun he => hgone (he ▸ hi)⟩
  · have hne : j ≠ i := fun he => hgone (he ▸ hj)
    obtain ⟨p, hp, hw⟩ := mem_idleSlots.1 hj
    exact mem_idleSlots.2 ⟨p, startOrder_other hne ▸ hp, hw⟩
  · simp only [startOrder, ho]
    simp

theorem grantScan_starts (r : Resource) (s : State) : Starts s (grantScan r s) := by
  unfold grantScan
  repeat' split
  · exact .refl s
  · next i hi =>
    have hq := List.find?_some hi
    simp only [State.qualifies, Option.any_eq_true, Bool.and_eq_true, beq_iff_eq] at hq
    obtain ⟨o, ho, ⟨hst, _⟩, _⟩ := hq
    exact startOrder_starts (mem_idleSlots.2 ⟨o, ho, by simp [Order.working, hst]⟩)
  · exact .refl s

/-- R162: an order that waits and one that is queued change places without starting. -/
theorem setSlot_starts {i : Fin 16} {o : Option Order} (hi : i ∈ s.idleSlots) : Starts s (s.setSlot i o) :=
  ⟨idleSlots_setSlot fun _ _ _ => hi, rfl, .inl⟩

theorem retestSlot_starts (i : Fin 16) (s : State) : Starts s (retestSlot i s) := by
  have idle {o : Order} (ho : s.orders.slots[i] = some o) (hst : o.state = .waiting ∨ o.state = .queued) : i ∈ s.idleSlots :=
    mem_idleSlots.2 ⟨o, ho, by rcases hst with hst | hst <;> simp [Order.working, hst]⟩
  unfold retestSlot
  split
  · exact .refl s
  · next o ho =>
    split
    · split
      · next hst =>
        repeat' split
        · exact startOrder_starts (idle ho (.inl hst))
        · exact setSlot_starts (idle ho (.inl hst))
        · exact .refl s
      · next hst =>
        split
        · exact .refl s
        · exact setSlot_starts (idle ho (.inr hst))
      · exact .refl s
      · exact .refl s
    · exact .refl s

theorem forAll_starts {α : Type} {l : List α} {f : α → State → State} (hf : ∀ a u, Starts u (f a u)) (s : State) :
    Starts s (forAll l f s) :=
  forAll_induct (P := Starts s) l f s (fun a _ u hu => hu.trans (hf a u)) (.refl s)

theorem retestOrders_starts (s : State) : Starts s (retestOrders s) :=
  (forAll_starts retestSlot_starts s).trans (forAll_starts (fun _ u => grantScan_starts .facePool u) _)

/-- How many more rounds settling can take. -/
def State.rounds (s : State) : Nat :=
  2 * s.idleSlots.card + if s.settling.analysis then 2 else if s.settling.retest then 1 else 0

/-- R19 to R22: a run of the analysis leaves none due, and starts no order. -/
theorem holdingAnalysis_due (s : State) : (holdingAnalysis s).settling.analysis = false ∧
    (holdingAnalysis s).settling.makeup = false := by
  have hb (l : List Pos) (t : State) : (forAll l (fun p => setBargeState p .inTow) t).settling.analysis = t.settling.analysis ∧
      (forAll l (fun p => setBargeState p .inTow) t).settling.makeup = t.settling.makeup :=
    forAll_induct (P := fun u => u.settling.analysis = t.settling.analysis ∧ u.settling.makeup = t.settling.makeup) l _ t
      (fun p u _ ⟨ha, hm⟩ => by simp [ha, hm]) ⟨rfl, rfl⟩
  simp only [holdingAnalysis]
  split <;> simp [hb]

theorem settleOnce_rounds (h : s.settling.analysis = true ∨ s.settling.retest = true) : (settleOnce s).rounds < s.rounds := by
  unfold settleOnce
  split
  · next ha =>
    have hi : (holdingAnalysis s).idleSlots = s.idleSlots := idleSlots_of_orders (by simp)
    have : (holdingAnalysis s).rounds ≤ 2 * s.idleSlots.card + 1 := by
      simp only [State.rounds, holdingAnalysis_due, hi]
      rw [if_neg (by simp)]
      split <;> omega
    simp only [State.rounds, ha, if_true] at *
    omega
  · next ha =>
    split
    · next hr =>
      let u : State := s.onSettling fun x => { x with retest := false }
      have hu : u.idleSlots = s.idleSlots := idleSlots_of_orders rfl
      have hs : Starts u (retestOrders u) := retestOrders_starts u
      have hret : (retestOrders u).settling.retest = false := hs.retest
      have hle := Finset.card_le_card hs.idle
      have hrounds : s.rounds = 2 * s.idleSlots.card + 1 := by simp [State.rounds, ha, hr]
      show (retestOrders u).rounds < s.rounds
      rw [hrounds, ← hu]
      simp only [State.rounds, hret]
      split
      · next hana =>
        have hne := (hs.analysis hana).resolve_left (by simpa [u] using ha)
        have := Finset.card_lt_card (hs.idle.ssubset_of_ne hne)
        omega
      · simp
        omega
    · next hr => exact absurd h (by simp [ha, hr])

/-- Nothing is due that a round of settling would take on. -/
def State.settled (s : State) : Prop := s.settling.analysis = false ∧ s.settling.retest = false

theorem settleFor_settled (h : s.settled) (n : Nat) : settleFor n s = s := by
  obtain ⟨ha, hr⟩ := h
  induction n with
  | zero => rfl
  | succ n ih => simpa [settleFor, settleOnce, ha, hr] using ih

theorem settleFor_settles (n : Nat) : ∀ s : State, s.rounds ≤ n → (settleFor n s).settled := by
  induction n with
  | zero =>
    intro s h
    unfold State.rounds at h
    show s.settled
    split at h
    · omega
    · next ha =>
      split at h
      · omega
      · next hr => exact ⟨by simpa using ha, by simpa using hr⟩
  | succ n ih =>
    intro s h
    by_cases hs : s.settled
    · rw [settleFor_settled hs]
      exact hs
    · have hdue : s.settling.analysis = true ∨ s.settling.retest = true := by
        simpa [State.settled, or_iff_not_imp_left] using hs
      have := settleOnce_rounds hdue
      exact ih _ (by omega)

/-- Log entry 8: forty rounds leave neither an analysis nor a re-test. -/
theorem settle_settles (s : State) : (settle s).settled := by
  refine settleFor_settles 40 s ?_
  have := Finset.card_le_univ s.idleSlots
  simp only [Fintype.card_fin] at this
  unfold State.rounds
  split
  · omega
  · split <;> omega

end Sys2Proof.Machine
end

section
/-! ### R6, R22: the figures of the tow follow the tables -/

namespace Sys2Proof.Machine

variable {s t u : State}

/-- What tonnage and Ccap take from a barge record. -/
def Barge.figures (b : Barge) : Pos × BargeState × Bool × Nat × Nat := (b.pos, b.state, b.held, b.light, b.cargo)

/-- What Ccap takes from a coupling record. -/
def Coupling.figures (c : Coupling) : CouplingEnd × Pos × CouplingState := (c.endA, c.endB, c.state)

theorem tonnageOf_eq (l : List Barge) : tonnageOf l =
    (((l.map Barge.figures).filter fun x => x.2.1 == .inTow).map fun x => ((x.2.2.2.1 + x.2.2.2.2 : Nat) : Int)).sum := by
  simp [tonnageOf, List.filter_map, Function.comp_def, Barge.figures]

theorem tonnageOf_congr {l m : List Barge} (h : m.map Barge.figures = l.map Barge.figures) : tonnageOf m = tonnageOf l := by
  rw [tonnageOf_eq, tonnageOf_eq, h]

theorem inTowAt_eq (s : State) (p : Pos) :
    s.inTowAt p = ((s.sup.barges.map Barge.figures).find? (·.1 == p)).any (·.2.1 == .inTow) := by
  simp [State.inTowAt, State.barge?, List.find?_map, Function.comp_def, Barge.figures, Option.any_map]

theorem inTowAt_congr (h : t.sup.barges.map Barge.figures = s.sup.barges.map Barge.figures) : t.inTowAt = s.inTowAt := by
  funext p
  rw [inTowAt_eq, inTowAt_eq, h]

theorem anyUnheld_eq (s : State) :
    s.anyUnheld = (s.sup.barges.map Barge.figures).any fun x => x.2.1 == .inTow && !x.2.2.1 := by
  simp [State.anyUnheld, List.any_map, Function.comp_def, Barge.figures]

/-- An end of a coupling lies at a position that satisfies `f`. -/
def endLiesAt (f : Pos → Bool) : CouplingEnd → Bool
  | .pushboat => false
  | .barge p => f p

theorem touchesTow_eq (s : State) (c : Coupling) : s.touchesTow c = (s.inTowAt c.endB || endLiesAt s.inTowAt c.endA) := by
  unfold State.touchesTow
  cases c.endA <;> rfl

theorem any_touchesTow_eq (s : State) (q : CouplingState → Bool) :
    (s.sup.couplings.any fun c => s.touchesTow c && q c.state) =
      (s.sup.couplings.map Coupling.figures).any fun x => (s.inTowAt x.2.1 || endLiesAt s.inTowAt x.1) && q x.2.2 := by
  simp only [List.any_map, Function.comp_def, Coupling.figures, touchesTow_eq]

/-- R22: the caps of the COUPLING settings. -/
def CouplingSettings.caps (x : CouplingSettings) : Int × Int × Int := (x.overloadCap, x.slackCap, x.detachedCap)

theorem ccapNow_congr (hb : t.sup.barges.map Barge.figures = s.sup.barges.map Barge.figures)
    (hc : t.sup.couplings.map Coupling.figures = s.sup.couplings.map Coupling.figures)
    (hs : t.settings.coupling.caps = s.settings.coupling.caps) : t.ccapNow = s.ccapNow := by
  have hany (q : CouplingState → Bool) :
      (t.sup.couplings.any fun c => t.touchesTow c && q c.state) = s.sup.couplings.any fun c => s.touchesTow c && q c.state := by
    rw [any_touchesTow_eq, any_touchesTow_eq, hc, inTowAt_congr hb]
  have hunheld : t.anyUnheld = s.anyUnheld := by rw [anyUnheld_eq, anyUnheld_eq, hb]
  have hover := hany (· == .overload)
  have hslack := hany (·.slackens)
  simp only [CouplingSettings.caps, Prod.mk.injEq] at hs
  simp only [State.ccapNow, hover, hslack, hunheld, hs]

/-! #### While work is due -/

/-- Within a command: the figures follow the tables wherever no makeup change or holding analysis is due that will make them. -/
structure FiguresDue (s : State) : Prop where
  makeup : s.settling.makeup = true → s.settling.analysis = true
  tonnage : s.settling.makeup = true ∨
    s.sup.tonnage = tonnageOf s.sup.barges ∧ s.sup.tonnageClass = classOf s.settings.coupling s.sup.tonnage
  ccap : s.settling.analysis = true ∨ s.sup.ccap = s.ccapNow

theorem figuresDue_of_towFigures (h : TowFiguresOk s) : FiguresDue s := by
  obtain ⟨hq, ht, hc, hcap⟩ := h
  unfold State.quiet at hq
  exact ⟨fun hm => by simp [hq] at hm, .inr ⟨ht, hc⟩, .inr hcap⟩

/-- An operation that leaves the figures and what they follow, and takes no analysis off. -/
theorem figuresDue_of_same (hb : t.sup.barges.map Barge.figures = s.sup.barges.map Barge.figures)
    (hc : t.settling.analysis = true ∨ t.settling.analysis = s.settling.analysis ∧
      t.sup.couplings.map Coupling.figures = s.sup.couplings.map Coupling.figures)
    (hf : t.sup.tonnage = s.sup.tonnage ∧ t.sup.tonnageClass = s.sup.tonnageClass ∧ t.sup.ccap = s.sup.ccap)
    (hs : t.settings.coupling = s.settings.coupling) (hm : t.settling.makeup = s.settling.makeup) (h : FiguresDue s) :
    FiguresDue t := by
  obtain ⟨hmk, ht, hcap⟩ := h
  obtain ⟨f1, f2, f3⟩ := hf
  refine ⟨fun hm' => ?_, ?_, ?_⟩
  · rcases hc with ha | ⟨ha, _⟩
    · exact ha
    · exact ha ▸ hmk (hm ▸ hm')
  · rw [hm, f1, f2, tonnageOf_congr hb, hs]
    exact ht
  · rcases hc with ha | ⟨ha, hc⟩
    · exact .inl ha
    · rw [ha, f3, ccapNow_congr hb hc (by rw [hs])]
      exact hcap

theorem figuresDue_of_sup (hsup : t.sup = s.sup) (ha : t.settling.analysis = s.settling.analysis)
    (hm : t.settling.makeup = s.settling.makeup) (hs : t.store = s.store) (h : FiguresDue s) : FiguresDue t :=
  figuresDue_of_same (by rw [hsup]) (.inr ⟨ha, by rw [hsup]⟩) (by rw [hsup]; exact ⟨rfl, rfl, rfl⟩)
    (by rw [settings_eq, settings_eq, hs]) hm h

theorem onCoupling_figures (n : Nat) {f : Coupling → Coupling} (hf : ∀ c, (f c).figures = c.figures) (s : State) :
    (s.onCoupling n f).sup.couplings.map Coupling.figures = s.sup.couplings.map Coupling.figures := by
  simp only [State.onCoupling, onSup_sup, List.map_map]
  refine List.map_congr_left fun c _ => ?_
  simp only [Function.comp_apply]
  split
  · exact hf c
  · rfl

theorem figuresDue_onCoupling (n : Nat) {f : Coupling → Coupling} (hf : ∀ c, (f c).figures = c.figures) (h : FiguresDue s) :
    FiguresDue (s.onCoupling n f) :=
  figuresDue_of_same (s := s) rfl (.inr ⟨rfl, onCoupling_figures n hf s⟩) ⟨rfl, rfl, rfl⟩ rfl rfl h

theorem figuresDue_setCouplingState (n : Nat) (st : CouplingState) (h : FiguresDue s) :
    FiguresDue (setCouplingState n st s) := by
  unfold setCouplingState
  repeat' split
  · exact h
  · exact h
  · exact figuresDue_of_same (s := s) (by simp [State.onCoupling]) (.inl rfl) (by simp [State.onCoupling])
      (by simp [settings_eq]) (by simp) h

/-- The operations of the Barge Line: a coupling that changes, and a cast-off, bring what is due with them. -/
theorem figuresDue_keeps : LineKeeps FiguresDue where
  report _ _ _ h := figuresDue_of_sup (by simp) (by simp) (by simp) (by simp) h
  node _ _ _ h := figuresDue_of_sup (by simp) (by simp) (by simp) (by simp) h
  bow _ _ h := figuresDue_of_sup (by simp) (by simp) (by simp) (by simp) h
  freed _ h := figuresDue_of_sup (by simp) (by simp) (by simp) (by simp) h
  requeued _ _ _ _ _ h := figuresDue_of_sup (by simp) (by simp) (by simp) (by simp) h
  started _ _ _ _ h := figuresDue_of_sup (by simp) (by simp) (by simp) (by simp) h
  command n _ _ h := figuresDue_onCoupling n (fun _ => rfl) h
  coupling n st _ _ h := figuresDue_setCouplingState n st h
  line _ _ h := figuresDue_of_sup (by simp) (by simp) (by simp) (by simp) h
  struck _ h := figuresDue_of_sup (by simp) (by simp) (by simp) (by simp) h
  joined _ _ _ h := figuresDue_of_sup (by simp) (by simp) (by simp) (by simp) h
  classified n st h := figuresDue_setCouplingState n st h
  tension n _ _ _ h := figuresDue_onCoupling n (fun _ => rfl) h
  cast _ _ := ⟨fun _ => rfl, .inl rfl, .inl rfl⟩

/-! #### Settling makes the figures -/

/-- R20: with no barge that joins and no makeup change due, the tonnage figures stand. -/
theorem tonnageOf_keepHeld (l : List Pos) (s : State) : tonnageOf (keepHeld l s).sup.barges = tonnageOf s.sup.barges := by
  simp [tonnageOf, keepHeld, List.filter_map, Function.comp_def]

/-- R22: Ccap becomes what the tables and the settings give, and no other figure changes. -/
theorem ccapRecompute_sup (b : Bool) (s : State) : (ccapRecompute b s).sup = { s.sup with ccap := s.ccapNow } := by
  have ht : (if s.ccapNow = s.sup.ccap then s else recomputeLe (s.onSup fun u => { u with ccap := s.ccapNow })).sup =
      { s.sup with ccap := s.ccapNow } := by
    split
    · next he => simp [he]
    · simp
  unfold ccapRecompute
  dsimp only
  split
  · simpa using ht
  · exact ht

theorem ccapRecompute_ccapNow (b : Bool) (s : State) : (ccapRecompute b s).ccapNow = s.ccapNow :=
  ccapNow_congr (by rw [ccapRecompute_sup]) (by rw [ccapRecompute_sup]) (by simp [settings_eq])

/-- R6: a makeup change takes tonnage and class from the table. -/
theorem makeupChange_sup (s : State) : (makeupChange s).sup = (takeTonnage s).sup := by simp [makeupChange]

/-- R20: the barges that join, with the held result of the run. -/
def joinedState (s : State) : State :=
  forAll s.toPromote (fun p => setBargeState p .inTow)
    ((keepHeld (chained CouplingState.holding s.sup.couplings) s).onSettling fun x => { x with analysis := false, makeup := false })

/-- R20: the makeup change of a run of the analysis. -/
def changedState (s : State) : State :=
  if s.settling.makeup || !s.toPromote.isEmpty then makeupChange (joinedState s) else joinedState s

/-- R19 to R22: a run of the analysis leaves the tables as the makeup change left them, and makes Ccap last. -/
theorem holdingAnalysis_sup (s : State) : (holdingAnalysis s).sup.barges = (changedState s).sup.barges ∧
    (holdingAnalysis s).sup.couplings = (changedState s).sup.couplings ∧
    (holdingAnalysis s).sup.tonnage = (changedState s).sup.tonnage ∧
    (holdingAnalysis s).sup.tonnageClass = (changedState s).sup.tonnageClass := by
  have hl (l : List Pos) (t : State) : (forAll l unheldAlarm t).sup = t.sup := by simp
  unfold holdingAnalysis
  dsimp only
  rw [ccapRecompute_sup]
  simp only [onSup_sup, hl]
  exact ⟨rfl, rfl, rfl, rfl⟩

theorem joinedState_figures (s : State) : (joinedState s).sup.tonnage = s.sup.tonnage ∧
    (joinedState s).sup.tonnageClass = s.sup.tonnageClass :=
  forAll_induct (P := fun u => u.sup.tonnage = s.sup.tonnage ∧ u.sup.tonnageClass = s.sup.tonnageClass) _ _ _
    (fun p u _ hu => by simpa [setBargeState, State.onBarge] using hu) ⟨rfl, rfl⟩

theorem changedState_tonnage (h : FiguresDue s) : (changedState s).sup.tonnage = tonnageOf (changedState s).sup.barges ∧
    (changedState s).sup.tonnageClass = classOf s.settings.coupling (changedState s).sup.tonnage := by
  have hstore : (joinedState s).store = s.store := by simp [joinedState]
  unfold changedState
  split
  · simp [makeupChange_sup, takeTonnage, settings_eq, hstore]
  · next hn =>
    simp only [Bool.or_eq_true, Bool.not_eq_eq_eq_not, Bool.not_true, not_or, Bool.not_eq_true, Bool.not_eq_false,
      List.isEmpty_iff] at hn
    obtain ⟨hmk, hj⟩ := hn
    obtain ⟨ht, hc⟩ := h.tonnage.resolve_left (by simp [hmk])
    obtain ⟨hjt, hjc⟩ := joinedState_figures s
    have hb : tonnageOf (joinedState s).sup.barges = tonnageOf s.sup.barges := by
      simp [joinedState, hj, tonnageOf_keepHeld]
    rw [hjt, hjc, hb]
    exact ⟨ht, hc⟩

/-- R6, R20, R22: a run of the analysis makes the figures what the tables give. -/
theorem holdingAnalysis_figures (h : FiguresDue s) : FiguresDue (holdingAnalysis s) := by
  obtain ⟨_, hm⟩ := holdingAnalysis_due s
  obtain ⟨ht, hc⟩ := changedState_tonnage h
  refine ⟨fun hm' => by simp [hm] at hm', .inr ?_, .inr ?_⟩
  · obtain ⟨h1, _, h2, h3⟩ := holdingAnalysis_sup s
    have hs : (holdingAnalysis s).settings = s.settings := by simp [settings_eq]
    rw [h1, h2, h3, hs]
    exact ⟨ht, hc⟩
  · unfold holdingAnalysis
    dsimp only
    rw [ccapRecompute_ccapNow, ccapRecompute_sup]

theorem settleOnce_figures (h : FiguresDue s) : FiguresDue (settleOnce s) := by
  unfold settleOnce
  repeat' split
  · exact holdingAnalysis_figures h
  · exact figuresDue_keeps.retestOrders (figuresDue_of_sup (by simp) (by simp) (by simp) (by simp) h)
  · exact h

theorem settle_figures (h : FiguresDue s) : FiguresDue (settle s) := by
  have hrun : ∀ n (t : State), FiguresDue t → FiguresDue (settleFor n t) := by
    intro n
    induction n with
    | zero => exact fun _ ht => ht
    | succ n ih => exact fun t ht => ih _ (settleOnce_figures ht)
  exact hrun 40 s h

/-- R190: the write asked for is taken up. -/
theorem writeAsked_settling (s : State) : (writeAsked s).settling = { s.settling with checkpoint := false } := by
  unfold writeAsked
  dsimp only
  split_ifs with h1 h2
  · simp
  · rfl
  · rw [← Bool.eq_false_iff.2 h1]

/-- The end of a command: nothing is due, and the figures follow the tables. -/
theorem finish_towFigures (h : FiguresDue s) : TowFiguresOk (finish s) := by
  obtain ⟨hmk, ht, hc⟩ := settle_figures h
  obtain ⟨ha, hr⟩ := settle_settles s
  have hm : (settle s).settling.makeup = false := by
    by_contra hne
    simp [hmk (by simpa using hne)] at ha
  obtain ⟨ht, hcl⟩ := ht.resolve_left (by simp [hm])
  have hcap := hc.resolve_left (by simp [ha])
  have hsup : (writeAsked (settle s)).sup = (settle s).sup := by simp
  have hstore : (writeAsked (settle s)).settings = (settle s).settings := by simp [settings_eq]
  refine ⟨?_, ?_, ?_, ?_⟩
  · simp [finish, State.quiet, writeAsked_settling, ha, hr, hm]
  · rw [finish, hsup, ht]
  · rw [finish, hsup, hstore, hcl]
  · rw [finish, hsup, ccapNow_congr (s := settle s) (by rw [hsup]) (by rw [hsup]) (by rw [hstore]), hcap]

/-! #### The requests and events -/

/-- A command that leaves the figures, what they follow, and what is due. -/
theorem towFigures_of_same (hb : t.sup.barges.map Barge.figures = s.sup.barges.map Barge.figures)
    (hc : t.sup.couplings.map Coupling.figures = s.sup.couplings.map Coupling.figures)
    (hf : t.sup.tonnage = s.sup.tonnage ∧ t.sup.tonnageClass = s.sup.tonnageClass ∧ t.sup.ccap = s.sup.ccap)
    (hs : t.settings.coupling = s.settings.coupling) (hm : t.settling = s.settling) (h : TowFiguresOk s) : TowFiguresOk t := by
  obtain ⟨hq, ht, hcl, hcap⟩ := h
  obtain ⟨f1, f2, f3⟩ := hf
  unfold State.quiet at hq
  refine ⟨hm.trans hq, ?_, ?_, ?_⟩
  · rw [f1, tonnageOf_congr hb, ht]
  · rw [f2, f1, hs, hcl]
  · rw [f3, ccapNow_congr hb hc (by rw [hs]), hcap]

theorem towFigures_of_sup (hsup : t.sup = s.sup) (hm : t.settling = s.settling) (hs : t.store.working = s.store.working)
    (h : TowFiguresOk s) : TowFiguresOk t :=
  towFigures_of_same (by rw [hsup]) (by rw [hsup]) (by rw [hsup]; exact ⟨rfl, rfl, rfl⟩) (by rw [settings_eq, settings_eq, hs]) hm h

theorem readBarge_towFigures (p : Pos) (h : TowFiguresOk s) : TowFiguresOk (readBarge p s).1 := by
  unfold readBarge
  repeat' split
  · exact h
  · exact h
  · refine towFigures_of_same (s := s) ?_ rfl ⟨rfl, rfl, rfl⟩ rfl rfl h
    simp only [State.onBarge, onSup_sup, List.map_map]
    refine List.map_congr_left fun b _ => ?_
    simp only [Function.comp_apply]
    split <;> rfl

theorem readCoupling_towFigures (n : Nat) (h : TowFiguresOk s) : TowFiguresOk (readCoupling n s).1 := by
  unfold readCoupling
  split
  · exact h
  · exact towFigures_of_same (s := s) rfl (onCoupling_figures n (f := fun c => { c with changed := false }) (fun _ => rfl) s)
      ⟨rfl, rfl, rfl⟩ rfl rfl h

/-- R190: what a request asks for of the checkpoint is taken up before it ends. -/
theorem writeAsked_towFigures (hsup : t.sup = s.sup) (hm : { t.settling with checkpoint := false } = s.settling)
    (hs : t.store.working = s.store.working) (h : TowFiguresOk s) : TowFiguresOk (writeAsked t) :=
  towFigures_of_sup (by simp [hsup]) (by rw [writeAsked_settling, hm]) (by simp [hs]) h

theorem closeLegRequest_towFigures (n : Nat) (h : TowFiguresOk s) : TowFiguresOk (closeLegRequest n s).1 := by
  have hq : s.settling = ⟨false, false, false, false⟩ := h.1
  unfold closeLegRequest
  repeat' split
  · exact h
  · exact h
  · dsimp only
    exact writeAsked_towFigures (by simp) (by simp [closeLeg, askCheckpoint, hq]) (by simp) h

theorem releaseLeg_towFigures (n : Nat) (h : TowFiguresOk s) : TowFiguresOk (releaseLeg n s).1 := by
  have hq : s.settling = ⟨false, false, false, false⟩ := h.1
  unfold releaseLeg
  dsimp only
  repeat' split
  · exact h
  · exact h
  · dsimp only
    exact writeAsked_towFigures (by simp) (by simp [closeLeg, askCheckpoint, hq]) (by simp) h
  · exact h

/-- R167: an order that holds no place completes with no grant scan. -/
theorem completeOrder_idle {i : Fin 16} {o : Order} (ho : s.orders.slots[i] = some o) (hw : o.working = false) (c : Completion) :
    completeOrder i c s = o.work.tanks.foldl (fun u n => tankReportOf n u) (orderDoneReport o c (s.setSlot i none)) := by
  simp only [completeOrder, ho]
  split <;> simp [hw]

theorem commandLeaves_figures (n : Nat) (s : State) : (commandLeaves n s).sup.barges = s.sup.barges ∧
    (commandLeaves n s).sup.couplings.map Coupling.figures = s.sup.couplings.map Coupling.figures ∧
    (commandLeaves n s).sup.tonnage = s.sup.tonnage ∧ (commandLeaves n s).sup.tonnageClass = s.sup.tonnageClass ∧
    (commandLeaves n s).sup.ccap = s.sup.ccap := by
  unfold commandLeaves
  split
  · next c _ =>
    have hc := onCoupling_figures n (f := fun x => { x with command := s.leaveCommand c }) (fun _ => rfl) s
    exact ⟨rfl, hc, rfl, rfl, rfl⟩
  · exact ⟨rfl, rfl, rfl, rfl, rfl⟩

theorem windDown_towFigures (i : Fin 16) (o : Order) (h : TowFiguresOk s) : TowFiguresOk (windDown i o s) := by
  have hset (p : Option Order) : TowFiguresOk (s.setSlot i p) := towFigures_of_sup (by simp) (by simp) (by simp) h
  have leaves (n : Nat) (u : State) (hu : TowFiguresOk u) : TowFiguresOk (commandLeaves n u) := by
    obtain ⟨h1, h2, h3⟩ := commandLeaves_figures n u
    exact towFigures_of_same (by rw [h1]) h2 h3 (by simp [settings_eq]) (by simp) hu
  unfold windDown
  split
  · exact leaves _ _ (hset _)
  · exact leaves _ _ (hset _)
  · exact hset _
  · exact hset _

/-- R166: ABORT_ORDER changes a command at most, and frees the slot of an order that holds no place. -/
theorem abortOrder_towFigures (n : Nat) (h : TowFiguresOk s) : TowFiguresOk (abortOrder n s).1 := by
  unfold abortOrder
  split
  · exact h
  · next i o ho =>
    have idle (hw : o.working = false) : TowFiguresOk (completeOrder i (.ofWire .aborted none) s) := by
      rw [completeOrder_idle (orderTagged_some ho).1 hw]
      exact towFigures_of_sup (by simp) (by simp) (by simp) h
    split
    · next hst => exact idle (by simp [Order.working, hst])
    · next hst => exact idle (by simp [Order.working, hst])
    · exact windDown_towFigures i o h
    · exact h

/-! #### Writing a setting -/

theorem classOf_put {num : Nat} (h : num ≠ 1) (h' : num ≠ 2) (x : CouplingSettings) (idx : Nat) (v t : Int) :
    classOf (x.put num idx v) t = classOf x t := by
  unfold CouplingSettings.put
  split <;> first | rfl | contradiction

theorem caps_put {num : Nat} (h : num ≠ 7 ∧ num ≠ 8 ∧ num ≠ 9) (x : CouplingSettings) (idx : Nat) (v : Int) :
    (x.put num idx v).caps = x.caps := by
  obtain ⟨h7, h8, h9⟩ := h
  unfold CouplingSettings.put
  split <;> first | rfl | contradiction

/-- R6, R22: a COUPLING write that moves a class threshold or a cap makes the figure again. -/
theorem ownerCoupling_figures (num idx : Nat) (v : Int) (h : TowFiguresOk s) :
    FiguresDue (ownerCoupling num (storeValue .coupling num idx v s)) := by
  obtain ⟨hq, ht, hcl, hcap⟩ := h
  have hmk : s.settling.makeup = false := by rw [hq]
  let u := storeValue .coupling num idx v s
  have hnow (hn : num ≠ 7 ∧ num ≠ 8 ∧ num ≠ 9) : u.sup.ccap = u.ccapNow :=
    hcap.trans (ccapNow_congr (s := u) rfl rfl (caps_put hn _ idx v).symm)
  have hclass (hn : num ≠ 1 ∧ num ≠ 2) : u.sup.tonnageClass = classOf u.settings.coupling u.sup.tonnage :=
    hcl.trans (classOf_put hn.1 hn.2 _ idx v _).symm
  unfold ownerCoupling
  split
  · next hn =>
    exact ⟨fun hm => absurd hm (by simp [hmk]), .inr ⟨ht, rfl⟩, .inr (hnow (by omega))⟩
  · next hn =>
    split
    · refine ⟨fun hm => absurd hm (by simp [hmk]), .inr ?_, .inr ?_⟩
      · rw [ccapRecompute_sup]
        have hs : (ccapRecompute false u).settings = u.settings := by simp [settings_eq]
        exact ⟨ht, hs ▸ hclass (by omega)⟩
      · rw [ccapRecompute_ccapNow, ccapRecompute_sup]
    · next hn' =>
      have hu : FiguresDue u := ⟨fun hm => absurd hm (by simp [u, hmk]), .inr ⟨ht, hclass (by omega)⟩, .inr (hnow (by omega))⟩
      split
      · exact figuresDue_of_sup (s := u) rfl rfl rfl rfl hu
      · exact hu

/-- R185: the other owners act on no figure of the tow. -/
theorem ownerActs_sup {c : Sec} (hc : c ≠ .coupling) (num idx : Nat) (old v : Int) (was : Settings) (s : State) :
    (ownerActs c num idx old v was s).sup = s.sup := by
  cases c with
  | coupling => exact absurd rfl hc
  | engine => simp [ownerActs]
  | steering => simp [ownerActs]
  | fuel => simp [ownerActs]
  | backup => rfl

theorem storeValue_other {c : Sec} (hc : c ≠ .coupling) (num idx : Nat) (v : Int) (s : State) :
    (storeValue c num idx v s).settings.coupling = s.settings.coupling := by
  cases c with
  | coupling => exact absurd rfl hc
  | engine => rfl
  | steering => rfl
  | fuel => rfl
  | backup => rfl

theorem writeSetting_towFigures (a b c : Nat) (v : Int) (h : TowFiguresOk s) : TowFiguresOk (writeSetting a b c v s).1 := by
  unfold writeSetting
  split
  · exact h
  · next sec old _ =>
    split
    · exact h
    · dsimp only
      refine finish_towFigures ?_
      by_cases hc : sec = .coupling
      · subst hc
        exact ownerCoupling_figures b c v h
      · have hsup : (ownerActs sec b c old v s.settings (storeValue sec b c v s)).sup = s.sup := by simp [ownerActs_sup hc]
        have hset : (ownerActs sec b c old v s.settings (storeValue sec b c v s)).settings.coupling = s.settings.coupling :=
          .trans (by simp [settings_eq]) (storeValue_other hc b c v s)
        exact figuresDue_of_same (s := s) (by rw [hsup]) (.inr ⟨by simp, by rw [hsup]⟩) (by rw [hsup]; exact ⟨rfl, rfl, rfl⟩) hset
          (by simp) (figuresDue_of_towFigures h)

/-! #### Declarations and removals -/

/-- The tonnage and its class are what the Makeup Table gives. -/
def TonnageOk (s : State) : Prop :=
  s.sup.tonnage = tonnageOf s.sup.barges ∧ s.sup.tonnageClass = classOf s.settings.coupling s.sup.tonnage

theorem tonnageOk_of (hb : tonnageOf t.sup.barges = tonnageOf s.sup.barges)
    (hf : t.sup.tonnage = s.sup.tonnage ∧ t.sup.tonnageClass = s.sup.tonnageClass) (hs : t.store = s.store) (h : TonnageOk s) :
    TonnageOk t := by
  obtain ⟨ht, hc⟩ := h
  obtain ⟨f1, f2⟩ := hf
  refine ⟨by rw [f1, hb, ht], ?_⟩
  rw [f1, f2, settings_eq, hs]
  exact hc

theorem setCouplingState_tonnage (n : Nat) (st : CouplingState) (s : State) :
    (setCouplingState n st s).sup.barges = s.sup.barges ∧ (setCouplingState n st s).sup.tonnage = s.sup.tonnage ∧
      (setCouplingState n st s).sup.tonnageClass = s.sup.tonnageClass := by
  unfold setCouplingState
  repeat' split
  all_goals simp [State.onCoupling]

/-- The operations of a notice act on no barge. -/
theorem tonnageOk_keeps : NoticeKeeps TonnageOk where
  report _ _ _ h := tonnageOk_of (by simp) (by simp) (by simp) h
  node _ _ _ h := tonnageOk_of (by simp) (by simp) (by simp) h
  bow _ _ h := tonnageOk_of (by simp) (by simp) (by simp) h
  freed _ h := tonnageOk_of (by simp) (by simp) (by simp) h
  requeued _ _ _ _ _ h := tonnageOk_of (by simp) (by simp) (by simp) h
  started _ _ _ _ h := tonnageOk_of (by simp) (by simp) (by simp) h
  command _ _ _ h := tonnageOk_of rfl ⟨rfl, rfl⟩ rfl h
  coupling n st _ _ h := by
    obtain ⟨hb, hf⟩ := setCouplingState_tonnage n st _
    exact tonnageOk_of (by rw [hb]) hf (by simp) h

theorem figuresDue_dueAnalysis (h : TonnageOk s) : FiguresDue (dueAnalysis s) := ⟨fun _ => rfl, .inr h, .inl rfl⟩

theorem addBarge_figures {p : Pos} {hull light cargo : Nat} {bow : Option Nat} (h : TonnageOk s) :
    FiguresDue (addBarge p hull light cargo bow s) := by
  let x : Barge := ⟨p, hull, light, cargo, bow, .expected, true, false⟩
  have hsum : tonnageOf (insertBarge x s.sup.barges) = tonnageOf s.sup.barges := by
    have hp := ((insertBarge_perm x s.sup.barges).filter fun b => b.state == .inTow).map
      fun b => ((b.light + b.cargo : Nat) : Int)
    simpa [tonnageOf, x] using hp.sum_eq
  have hb : TonnageOk (askCheckpoint (bargeReport p (s.onSup fun u => { u with barges := insertBarge x u.barges }))) :=
    tonnageOk_of (s := s) (by simpa using hsum) (by simp) (by simp) h
  refine figuresDue_dueAnalysis ?_
  cases bow with
  | none => exact hb
  | some n => exact tonnageOk_keeps.newClaim n (tonnageOk_of (by simp [x]) (by simp) (by simp) hb)

theorem addCoupling_figures {n serial channel winchEnd cls : Nat} {a : CouplingEnd} {b : Pos} (h : TonnageOk s) :
    FiguresDue (addCoupling n a b serial channel winchEnd cls s) :=
  figuresDue_dueAnalysis (tonnageOk_keeps.newClaim _ (tonnageOk_of (s := s) (by simp) (by simp) (by simp) h))

theorem dropCoupling_sup (c : Coupling) (s : State) :
    (dropCoupling c s).sup = { s.sup with couplings := s.sup.couplings.filter fun x => x.number != c.number } := by
  simp only [dropCoupling]
  split <;> simp

theorem dropCoupling_tonnageOk (c : Coupling) (h : TonnageOk s) : TonnageOk (dropCoupling c s) :=
  tonnageOk_of (by rw [dropCoupling_sup]) (by rw [dropCoupling_sup]; exact ⟨rfl, rfl⟩) (by simp) h

theorem forAll_dropCoupling_barges (cs : List Coupling) (s : State) : (forAll cs dropCoupling s).sup.barges = s.sup.barges :=
  forAll_induct (P := fun u => u.sup.barges = s.sup.barges) cs dropCoupling s
    (fun c _ u hu => by rw [dropCoupling_sup, ← hu]) rfl

/-- R5: the removal of a barge that is not IN_TOW changes no tonnage. -/
theorem removeRecord_figures {p : Pos} (hp : ∀ b ∈ s.sup.barges, b.pos = p → b.state ≠ .inTow) (cs : List Coupling)
    (h : TonnageOk s) : FiguresDue (removeRecord p cs s) := by
  have hd : TonnageOk (forAll cs dropCoupling s) :=
    forAll_induct cs dropCoupling s (fun _ _ _ hu => dropCoupling_tonnageOk _ hu) h
  have hb := forAll_dropCoupling_barges cs s
  have hsum : tonnageOf ((forAll cs dropCoupling s).sup.barges.filter fun b => b.pos != p) =
      tonnageOf (forAll cs dropCoupling s).sup.barges := by
    simp only [tonnageOf, List.filter_filter, hb]
    congr 2
    refine List.filter_congr fun b hm => ?_
    by_cases hpos : b.pos = p
    · have := hp b hm hpos
      simp [hpos, this]
    · simp [hpos]
  exact figuresDue_keeps.giveDepartures _ (figuresDue_dueAnalysis (tonnageOk_of (by simpa using hsum) (by simp) (by simp) hd))

/-- An analysis that is due stays so. -/
theorem analysis_keeps : NoticeKeeps fun s => s.settling.analysis = true where
  report _ _ _ h := by simpa using h
  node _ _ _ h := by simpa using h
  bow _ _ h := by simpa using h
  freed _ h := by simpa using h
  requeued _ _ _ _ _ h := by simpa using h
  started _ _ _ _ h := by simpa using h
  command _ _ _ h := h
  coupling n st _ _ h := by
    unfold setCouplingState
    repeat' split
    all_goals simp [h]

/-- R5, R20: a breakaway leaves an analysis and a makeup change due. -/
theorem breakaway_figures (p : Pos) (s : State) : FiguresDue (breakaway p s) := by
  have ha (cs : List Coupling) (u : State) : (removeRecord p cs u).settling.analysis = true := by
    unfold removeRecord
    exact analysis_keeps.giveDepartures _ rfl
  have hd : (breakaway p s).settling.analysis = true := by simp [breakaway, ha]
  exact ⟨fun _ => hd, .inl (by simp [breakaway]), .inl hd⟩

/-- R3: a position has one record. -/
theorem barge?_unique {p : Pos} {b : Barge} (hk : TablesOk s) (hb : s.barge? p = some b) :
    ∀ x ∈ s.sup.barges, x.pos = p → x = b := fun x hx hpos => by
  obtain ⟨⟨_, hord, _⟩, _⟩ := hk
  have hnodup : (s.sup.barges.map (·.pos)).Nodup := hord.imp fun hlt he => by
    subst he
    simp [posLt] at hlt
  have hbp : b.pos = p := by simpa using List.find?_some hb
  exact List.inj_on_of_nodup_map hnodup hx (List.mem_of_find?_eq_some hb) (hpos.trans hbp.symm)

theorem removeBarge_towFigures (p : Pos) (hk : TablesOk s) (h : TowFiguresOk s) : TowFiguresOk (removeBarge p s).1 := by
  have ht : TonnageOk s := ⟨h.2.1, h.2.2.1⟩
  unfold removeBarge
  split
  · exact h
  · split
    · exact h
    · next b hb =>
      split
      · split
        · exact h
        · dsimp only
          exact finish_towFigures (breakaway_figures p s)
      · next hst =>
        split
        · exact h
        · dsimp only
          refine finish_towFigures (removeRecord_figures (fun x hx hpos => ?_) _ ht)
          rw [barge?_unique hk hb x hx hpos]
          exact hst

theorem owner_towFigures {c : Instr} {o : State → State × Answer} (h : ownerOf c = some o) (hk : TablesOk s)
    (hs : TowFiguresOk s) : TowFiguresOk (o s).1 := by
  have ht : TonnageOk s := ⟨hs.2.1, hs.2.2.1⟩
  have hd := figuresDue_of_towFigures hs
  cases c <;> cases h
  case readBarge.refl p => exact readBarge_towFigures p hs
  case readCoupling.refl n => exact readCoupling_towFigures n hs
  case closeLeg.refl n => exact closeLegRequest_towFigures n hs
  case releaseLeg.refl n => exact releaseLeg_towFigures n hs
  case abortOrder.refl n => exact abortOrder_towFigures n hs
  case writeSetting.refl a b c v => exact writeSetting_towFigures a b c v hs
  case removeBarge.refl p => exact removeBarge_towFigures p hk hs
  case declareBarge.refl p hull light cargo bow =>
    unfold declareBarge
    split
    · exact hs
    · dsimp only
      exact finish_towFigures (addBarge_figures ht)
  case declareCoupling.refl n a b serial channel winchEnd cls =>
    unfold declareCoupling
    repeat' split
    · exact hs
    · exact hs
    · exact hs
    · dsimp only
      exact finish_towFigures (addCoupling_figures ht)
  case withdrawCoupling.refl n =>
    unfold withdrawCoupling
    repeat' split
    · exact hs
    · exact hs
    · exact hs
    · dsimp only
      exact finish_towFigures (figuresDue_keeps.giveDepartures _ (figuresDue_dueAnalysis (dropCoupling_tonnageOk _ ht)))
  case setLever.refl v =>
    unfold setLever
    split
    · exact hs
    · dsimp only
      exact finish_towFigures (figuresDue_of_sup (by simp) (by simp) (by simp) (by simp) hd)
  case postOrder.refl n x =>
    have hset (i : Fin 16) (p : Option Order) : FiguresDue (s.setSlot i p) :=
      figuresDue_of_sup (by simp) (by simp) (by simp) (by simp) hd
    unfold postOrder
    split
    · exact hs
    · exact hs
    · dsimp only
      exact finish_towFigures (figuresDue_keeps.placeOrder _ _ _ _ fun _ => hset _ _)
  case forgetNode.refl n =>
    unfold forgetNode
    repeat' split
    · exact hs
    · dsimp only
      exact finish_towFigures (figuresDue_keeps.removeNode n hd)
    · exact hs
  case setSounding.refl n q =>
    unfold setSounding
    repeat' split
    · exact hs
    · exact hs
    · exact hs
    · exact hs
    · dsimp only
      exact finish_towFigures (figuresDue_of_sup (by simp) (by simp) (by simp) (by simp) hd)
  all_goals
    simp only [echo, readStatus, fetchReports, restart, setHelm, setSteerMode, setEngineModes, setSync, readPropulsion,
      readEngine, readSteering, listMakeup, readNode, listNodes, listOrders, readTank, readMeters, readLeg, setVoyageClock,
      readSetting, saveSettings]
    repeat' split
  all_goals exact towFigures_of_sup (by simp [clearTrims]) (by simp [clearTrims]) (by simp [clearTrims]) hs

theorem saveComplete_working (d : PerSection Bool) (s : State) : (saveComplete d s).store.working = s.store.working := by
  unfold saveComplete
  split
  · rfl
  · have hw (l : List Sec) (j : SaveJob) : (forAll l (saveSection j d) s).store.working = s.store.working :=
      forAll_induct (P := fun u => u.store.working = s.store.working) l _ s (fun _ _ _ hu => hu) rfl
    simp [hw]

theorem accountingInterval_towFigures (v : Vector (Option Int) 10) (h : FiguresDue s) : TowFiguresOk (accountingInterval v s) := by
  have same {t u : State} (ht : FiguresDue t) (hsup : u.sup = t.sup) (hset : u.settling = t.settling) (hs : u.store = t.store) :
      FiguresDue u := figuresDue_of_sup hsup (by rw [hset]) (by rw [hset]) hs ht
  have hb : FiguresDue (bookBunker (bookTransfer (forAll allEngines bookEngine (forAll allMeters correctMeter
      (forAll allMeters (fun m => takeTemperature m v[m]) s))))) := same h (by simp) (by simp) (by simp)
  have ht {u : State} (hu : FiguresDue u) : FiguresDue (testTransfer u) := by
    unfold testTransfer
    dsimp only
    split
    · exact hu
    · exact keeps_ite (figuresDue_keeps.completeOrder _ _ (same hu (by simp) (by simp) (by simp))) (same hu (by simp) (by simp) (by simp))
  have hn {u : State} (hu : FiguresDue u) : FiguresDue (testBunker u) := by
    unfold testBunker
    dsimp only
    repeat' split
    · exact hu
    · exact figuresDue_keeps.completeOrder _ _ hu
    · exact figuresDue_keeps.completeOrder _ _ (same hu (by simp) (by simp) (by simp))
    · exact same hu (by simp) (by simp) (by simp)
  exact finish_towFigures (figuresDue_of_sup (by simp) (by simp) (by simp) (by simp) (hn (ht hb)))

theorem event_towFigures {c : Instr} {f : State → State} (h : eventOf c = some f) (hs : TowFiguresOk s) : TowFiguresOk (f s) := by
  have hd := figuresDue_of_towFigures hs
  cases c <;> simp only [eventOf, reduceCtorEq, Option.some.injEq] at h <;> subst h
  case saveComplete d => exact towFigures_of_sup (by simp) (by simp) (saveComplete_working d s) hs
  case checkpointPeriodExpiry => exact finish_towFigures (figuresDue_of_sup (s := s) (by simp) rfl rfl (by simp) hd)
  case controlPeriodExpiry b x y =>
    have hb : FiguresDue (deliverBackup x y (followTakeover b s)) := figuresDue_of_sup (by simp) (by simp) (by simp) (by simp) hd
    exact finish_towFigures (figuresDue_of_sup (by simp) (by simp) (by simp) (by simp) (settle_figures hb))
  case silenceLimitExpiry => exact finish_towFigures (figuresDue_of_sup (by simp) (by simp) (by simp) (by simp) hd)
  case holdTimeExpiry => exact finish_towFigures (figuresDue_of_sup (by simp) (by simp) (by simp) (by simp) hd)
  case masterFrameSent => exact finish_towFigures (figuresDue_keeps.masterFrameSent hd)
  case echoFailure => exact finish_towFigures (figuresDue_keeps.echoFailure hd)
  case rejoinTimerExpiry n => exact finish_towFigures (figuresDue_keeps.rejoinTimerExpiry n hd)
  case replyWindowExpiry =>
    unfold replyWindowExpiry
    split
    · next tx _ =>
      exact towFigures_of_sup (by simp) (by simp) (by simp)
        (finish_towFigures (figuresDue_keeps.exchangeMiss tx (figuresDue_keeps.turnaround hd)))
    all_goals exact hs
  case bargeFrameReceived l b => exact finish_towFigures (figuresDue_keeps.bargeFrameReceived l b hd)
  case bargeFrameSilence => exact finish_towFigures (figuresDue_keeps.bargeFrameSilence hd)
  case haulTimerExpiry n =>
    refine finish_towFigures ?_
    unfold haulTimerExpiry
    split
    · exact keeps_ite (figuresDue_keeps.endActive _ _ _ _ hd) hd
    · exact hd
  case releaseTimerExpiry n =>
    refine finish_towFigures ?_
    unfold releaseTimerExpiry
    split
    · exact keeps_ite (figuresDue_keeps.endActive _ _ _ _ (figuresDue_keeps.classified _ _ hd)) hd
    · exact hd
  case releaseWaitExpiry n =>
    refine finish_towFigures ?_
    unfold releaseWaitExpiry
    repeat' split
    all_goals first | exact hd | exact figuresDue_keeps.completeOrder _ _ hd
  case accountingIntervalExpiry v => exact accountingInterval_towFigures v hd
  all_goals exact towFigures_of_sup (by simp) (by simp) (by simp) hs

/-- R6, R22, R31: a start makes the figures from the restored tables. -/
theorem startPart_towFigures (cause : StartCause) (x : StartInputs) (s : State) : TowFiguresOk (startPart cause x s) := by
  have caps (u : State) (hq : u.quiet) (ht : TonnageOk u) : TowFiguresOk (startCaps u) := ⟨hq, ht.1, ht.2, rfl⟩
  have write (u : State) (hu : TowFiguresOk u) : TowFiguresOk (startWrite u) := towFigures_of_sup (by simp) (by simp) (by simp) hu
  simp only [startPart]
  split
  · exact caps _ rfl ⟨rfl, rfl⟩
  · exact write _ (caps _ rfl ⟨rfl, rfl⟩)

/-- The tables in order, and the figures of the tow: together an invariant. -/
def TowOk (s : State) : Prop := TablesOk s ∧ TowFiguresOk s

theorem stepKeeps_towOk : StepKeeps TowOk where
  pending _ _ h := ⟨stepKeeps_tablesOk.pending _ _ h.1, h.2⟩
  port _ _ h := ⟨stepKeeps_tablesOk.port _ _ h.1, h.2⟩
  control _ _ h := ⟨stepKeeps_tablesOk.control _ _ h.1, h.2⟩
  clock _ h := ⟨stepKeeps_tablesOk.clock _ h.1, h.2⟩
  input e i b _ h := ⟨stepKeeps_tablesOk.input e i b _ h.1, towFigures_of_sup (by simp) (by simp) (by simp) h.2⟩
  begins x s h := by
    refine ⟨stepKeeps_tablesOk.begins x s h.1, ?_⟩
    unfold start
    repeat' split
    · exact h.2
    · exact h.2
    · exact startPart_towFigures _ x s
  owner _ _ _ ho h := ⟨owner_tablesOk ho h.1, owner_towFigures ho h.1 h.2⟩
  event _ _ _ he h := ⟨event_tablesOk he h.1, event_towFigures he h.2⟩

/-- Settles O30: within a command the figures follow the tables wherever nothing is due that makes them, and settling ends. -/
theorem towFiguresFollowTheTables : Obligations.TowFiguresFollowTheTables := by
  unfold Obligations.TowFiguresFollowTheTables
  intro s t hk hf hstep
  exact (stepKeeps_towOk.step ⟨hk, hf⟩ hstep).2

end Sys2Proof.Machine
end

section
/-! ### R10, R54, R75, R97, R120, R142, R143, R154, R169: the reading requests -/

namespace Sys2Proof.Machine

variable {s : State}

theorem index?_number {count : Nat} (i : Fin count) : index? (i.val + 1) 1 count = some i := by
  have h : 1 ≤ i.val + 1 ∧ i.val + 1 - 1 < count := by omega
  simp [index?, i.isLt]

theorem index?_outside {n count : Nat} (h : n < 1 ∨ count < n) : index? n 1 count = none := by
  have hn : ¬(1 ≤ n ∧ n - 1 < count) := by omega
  simp [index?, hn]

/-- A request that only reads ends in its answer and the free readings it took. -/
theorem exec_of_reading {c : Instr} {o : State → State × Answer} {k : Nat} {start body : List Byte} (hup : s.up = true)
    (hc : exec c s = answerRequest s o) (ho : o s = ({ s with readings := s.readings + k }, accept body))
    (hb : start <+: body) :
    ∃ more, exec c s = .next ({ s with readings := s.readings + k }.answered ⟨.accepted, start ++ more⟩) := by
  obtain ⟨more, rfl⟩ := hb
  refine ⟨more, ?_⟩
  rw [hc, answerRequest_of_up hup, ho]
  rfl

/-- A refused request ends in its answer alone. -/
theorem exec_of_refusal {c : Instr} {o : State → State × Answer} {why : Status} (hup : s.up = true)
    (hc : exec c s = answerRequest s o) (ho : o s = refuse s why) : exec c s = .next (s.answered ⟨why, []⟩) := by
  rw [hc, answerRequest_of_up hup, ho]
  rfl

/-- An accepted request ends in its owner's state with its answer. -/
theorem exec_of_accept {c : Instr} {o : State → State × Answer} {t : State} {a : Answer} (hup : s.up = true)
    (hc : exec c s = answerRequest s o) (ho : o s = (t, a)) : exec c s = .next (t.answered a) := by
  rw [hc, answerRequest_of_up hup, ho]
  rfl

theorem engineBody_present {e : Fin 4} (h : s.settings.engine.present[e] = 1) :
    yesNo true ++ unsigned 1 s.settings.engine.side[e].toNat ++ signed 2 s.settings.engine.idle[e] ++
      signed 2 s.settings.engine.maxSpeed[e] ++ unsigned 2 s.settings.engine.ppr[e].toNat ++
      unsigned 1 s.chans[e].mode.code ++ unsigned 1 s.chans[e].gear.code ++ unsigned 1 s.chans[e].fault.code ++
      yesNo s.chans[e].follow <+: engineBody e s := by
  have hp : s.settings.enginePresent e = true := by simp [Settings.enginePresent, h]
  simp only [engineBody, hp, if_true, List.append_assoc, List.prefix_append_right_inj, List.prefix_append]

theorem engineBody_absent {e : Fin 4} (h : s.settings.engine.present[e] ≠ 1) :
    List.replicate 8 0 ++ unsigned 1 s.chans[e].mode.code ++ List.replicate 43 0 <+: engineBody e s := by
  have hp : s.settings.enginePresent e = false := by simpa [Settings.enginePresent] using h
  simp only [engineBody, hp, Bool.false_eq_true, if_false]
  exact List.prefix_rfl

theorem absLe_toNat (s : State) : s.absLe.toNat = s.prop.le.natAbs := by
  simp only [State.absLe]
  omega

theorem listFitting_start {start before : List Byte} (records : List (List Byte)) (h : start <+: before) :
    start <+: listFitting before records := by
  simp only [listFitting, List.append_assoc]
  exact h.trans (List.prefix_append _ _)

theorem readLeg_open {n : Nat} (h : n = 0 ∨ n = s.legs.current.number) : readLeg n s = (s, accept s.openLegBytes) := by
  simp [readLeg, h]

theorem readLeg_closed {n : Nat} (h0 : n ≠ 0) (hc : n ≠ s.legs.current.number) {l : ClosedLeg}
    (hl : s.legs.log.find? (·.leg.number == n) = some l) : readLeg n s = (s, accept (s.closedLegBytes l)) := by
  simp [readLeg, h0, hc, hl]

theorem readLeg_unknown {n : Nat} (h0 : n ≠ 0) (hc : n ≠ s.legs.current.number)
    (hl : s.legs.log.find? (·.leg.number == n) = none) : readLeg n s = refuse s .noSuch := by
  simp [readLeg, h0, hc, hl]

theorem openLegBytes_start (s : State) : unsigned 4 s.legs.current.number <+: s.openLegBytes := by
  simp only [State.openLegBytes, List.append_assoc, List.prefix_append]

theorem closedLegBytes_start (s : State) (l : ClosedLeg) : unsigned 4 l.leg.number <+: s.closedLegBytes l := by
  simp only [State.closedLegBytes, List.append_assoc, List.prefix_append]

theorem readMeters_outside {n : Nat} (h : n < 1 ∨ 4 < n) (s : State) : readMeters n s = refuse s .badValue := by
  unfold readMeters
  split
  case h_5 => rfl
  all_goals omega

/-- Settles O9, request by request: the owner's value, and the start of its body. -/
theorem readsChangeNothing : Obligations.ReadsChangeNothing := by
  unfold Obligations.ReadsChangeNothing
  intro s n hup
  dsimp only
  refine ⟨?_, ?_, ?_, ?_, ?_, ?_, ?_, ?_, ?_, ?_, ?_, ⟨?_, ?_, ?_, ?_⟩, ?_, ?_, ?_⟩
  case refine_1 =>
    refine exec_of_reading hup (o := readPropulsion) rfl rfl ?_
    simp only [List.append_assoc, List.prefix_append_right_inj, List.prefix_append]
  case refine_2 =>
    refine exec_of_reading hup (o := readSteering) rfl rfl ?_
    simp only [List.append_assoc, List.prefix_append_right_inj, List.prefix_append]
  case refine_3 =>
    refine exec_of_reading hup (o := listMakeup) rfl rfl ?_
    simp only [counted, List.append_assoc, List.prefix_append]
  case refine_4 =>
    rintro e rfl
    have ho : readEngine (e.val + 1) s = ({ s with readings := s.readings + 5 }, accept (engineBody e s)) := by
      simp only [readEngine, index?_number]
    exact ⟨fun h => exec_of_reading hup rfl ho (engineBody_present h),
      fun h => exec_of_reading hup rfl ho (engineBody_absent h)⟩
  case refine_5 =>
    intro h
    exact exec_of_refusal hup (o := readEngine n) rfl (by simp only [readEngine, index?_outside h])
  case refine_6 =>
    intro h
    refine exec_of_reading hup (o := listNodes n) rfl (if_pos h) ?_
    simp only [List.append_assoc, List.prefix_append_right_inj, List.prefix_append]
  case refine_7 =>
    intro h
    have hn : ¬(1 ≤ n ∧ n ≤ Config.maxAddress) := by simp only [Config.maxAddress]; omega
    exact exec_of_refusal hup (o := listNodes n) rfl (if_neg hn)
  case refine_8 =>
    intro h
    refine exec_of_reading hup (o := listOrders n) rfl (if_neg (Nat.not_lt.mpr h)) (listFitting_start _ ?_)
    rw [absLe_toNat]
  case refine_9 =>
    intro h
    exact exec_of_refusal hup (o := listOrders n) rfl (if_pos h)
  case refine_10 =>
    rintro k rfl
    constructor
    · intro h
      have hp : (!s.settings.tankPresent k) = false := by simp [Settings.tankPresent, h]
      refine exec_of_reading hup (o := readTank (k.val + 1)) rfl
        (by simp only [readTank, index?_number, hp, Bool.false_eq_true, if_false]; rfl) ?_
      simp only [List.append_assoc, List.prefix_append_right_inj, List.prefix_append]
    · intro h
      have hp : (!s.settings.tankPresent k) = true := by simpa [Settings.tankPresent] using h
      exact exec_of_refusal hup (o := readTank (k.val + 1)) rfl (by simp only [readTank, index?_number, hp, if_true])
  case refine_11 =>
    intro h
    exact exec_of_refusal hup (o := readTank n) rfl (by simp only [readTank, index?_outside h])
  case refine_12 =>
    rintro rfl
    refine exec_of_reading hup (o := readMeters 1) rfl rfl ?_
    simp [allMeters, State.meterBytes]
  case refine_13 =>
    rintro rfl
    refine exec_of_reading hup (o := readMeters 2) rfl rfl ?_
    simp [allMeters, State.meterBytes]
  case refine_14 =>
    rintro rfl
    refine exec_of_reading hup (o := readMeters 3) rfl rfl ?_
    simp only [allMeters, List.flatMap_cons, State.channelBytes, List.append_assoc, List.prefix_append]
  case refine_15 =>
    rintro rfl
    refine exec_of_reading hup (o := readMeters 4) rfl rfl ?_
    simp only [State.accountBytes, allEngines, List.flatMap_cons, List.append_assoc, List.prefix_append_right_inj,
      List.prefix_append]
  case refine_16 =>
    intro h
    exact exec_of_refusal hup (o := readMeters n) rfl (readMeters_outside h s)
  case refine_17 =>
    intro h
    exact exec_of_reading hup (o := readLeg n) rfl (readLeg_open h) (openLegBytes_start s)
  case refine_18 =>
    intro h0 hc
    constructor
    · intro l hl hn
      obtain ⟨l', hl'⟩ : ∃ l', s.legs.log.find? (·.leg.number == n) = some l' :=
        Option.isSome_iff_exists.mp (List.find?_isSome.mpr ⟨l, hl, by simp [hn]⟩)
      have hn' : l'.leg.number = n := by simpa using List.find?_some hl'
      exact exec_of_reading hup (o := readLeg n) rfl (readLeg_closed h0 hc hl') (hn' ▸ closedLegBytes_start s l')
    · intro h
      have hl : s.legs.log.find? (·.leg.number == n) = none := List.find?_eq_none.mpr fun l hl => by simp [h l hl]
      exact exec_of_refusal hup (o := readLeg n) rfl (readLeg_unknown h0 hc hl)

end Sys2Proof.Machine
end

section
/-! ### R10, R53, R55: records are read and forgotten; R13 to R16: a report reaches a coupling no order holds -/

namespace Sys2Proof.Machine

variable {s t : State}

/-- R3: the record of a position after the record of a position was changed. -/
theorem barge?_onBarge (s : State) (p q : Pos) (f : Barge → Barge) (hf : ∀ b, (f b).pos = b.pos) :
    (s.onBarge p f).barge? q = (s.barge? q).map fun b => if q = p then f b else b := by
  have hkey : ((fun b : Barge => b.pos == q) ∘ fun b => if b.pos = p then f b else b) = fun b => b.pos == q := by
    funext b
    by_cases hb : b.pos = p <;> simp [hb, hf]
  change (s.sup.barges.map fun b => if b.pos = p then f b else b).find? (·.pos == q) = _
  rw [List.find?_map, hkey]
  refine Option.map_congr fun b hb => ?_
  have hq : b.pos = q := by simpa using List.find?_some hb
  rw [hq]

/-- R52: a record that is removed is in the table no more, and every other record stands. -/
theorem removeNode_node? (n m : Nat) (s : State) : (removeNode n s).node? m = if m = n then none else s.node? m := by
  unfold removeNode
  split
  next h =>
    split
    next hm => exact hm ▸ h
    next => rfl
  next d h =>
    simp only [State.node?, nodeNotices_frame, onLine_line, List.find?_filter]
    split
    next hm => simp [hm]
    next hm =>
      congr 1
      funext x
      by_cases hx : x.serial = m <;> simp [hx, hm]

theorem inGrid_iff (p : Pos) : Pos.inGrid p = true ↔ 1 ≤ p.col ∧ p.col ≤ 5 ∧ 1 ≤ p.row ∧ p.row ≤ 6 := by
  simp [Pos.inGrid, and_assoc]

/-- R53: a node record whose marks were read. -/
def Node.read (d : Node) : Node := { d with heldFlag := d.heldFlag || d.state == .active, faultSeen := false }

/-- R10: a barge record that was read. -/
def Barge.read (b : Barge) : Barge := { b with changed := false }

/-- R10: a coupling record that was read. -/
def Coupling.read (c : Coupling) : Coupling := { c with changed := false }

theorem readNode_some {n : Nat} {d : Node} (hd : s.node? n = some d) :
    readNode n s = (s.onNode n Node.read, accept (s.nodeBytes d)) := by
  simp only [readNode, hd]
  rfl

theorem readBarge_some {p : Pos} {b : Barge} (hp : Pos.inGrid p = true) (hb : s.barge? p = some b) :
    readBarge p s = (s.onBarge p Barge.read, accept b.bytes) := by
  simp only [readBarge, hp, hb]
  rfl

theorem readCoupling_some {n : Nat} {c : Coupling} (hc : s.coupling? n = some c) :
    readCoupling n s = (s.onCoupling n Coupling.read, accept c.bytes) := by
  simp only [readCoupling, hc]
  rfl

/-- Settles O22: the owner of each request, by the laws of the record it changes. -/
theorem recordsAreReadAndForgotten : Obligations.RecordsAreReadAndForgotten := by
  unfold Obligations.RecordsAreReadAndForgotten
  refine ⟨fun s n hup => ⟨fun hn => ⟨?_, ?_⟩, fun d hd => ⟨?_, fun hst => ?_, fun hst => ?_⟩⟩,
    fun s hup => ⟨fun p hp => ?_, fun p hp => ⟨fun hb => ?_, fun b hb => ?_⟩, fun n => ⟨fun hc => ?_, fun c hc => ?_⟩⟩⟩
  · exact exec_of_refusal hup (o := readNode n) rfl (by simp only [readNode, hn])
  · exact exec_of_refusal hup (o := forgetNode n) rfl (by simp only [forgetNode, hn])
  · refine ⟨_, exec_of_accept hup (o := readNode n) rfl (readNode_some hd), rfl, ?_, fun m hm => ?_, rfl⟩
    · exact (node?_onNode s n n Node.read fun _ => rfl).trans (by simp [hd, Node.read])
    · exact (node?_onNode s n m Node.read fun _ => rfl).trans (by simp [hm])
  · obtain ⟨hl, hr, hg⟩ := hst
    exact exec_of_refusal hup (o := forgetNode n) rfl (by simp [forgetNode, hd, hl, hr, hg])
  · have ho : forgetNode n s = (finish (removeNode n s), accept []) := by simp [forgetNode, hd, hst]
    have hline (m : Nat) : ((finish (removeNode n s)).answered (accept [])).node? m = (removeNode n s).node? m := by
      simp [State.answered, State.node?]
    refine ⟨_, exec_of_accept hup (o := forgetNode n) rfl ho, ?_, rfl, ?_, fun m hm => ?_⟩
    · simp [SameStores, State.answered]
    · rw [hline, removeNode_node?, if_pos rfl]
    · rw [hline, removeNode_node?, if_neg hm]
  · have hg : (!Pos.inGrid p) = true := by rwa [Bool.not_eq_true', ← Bool.not_eq_true, inGrid_iff]
    exact exec_of_refusal hup (o := readBarge p) rfl (by simp only [readBarge, hg, if_true])
  · have hg : Pos.inGrid p = true := (inGrid_iff p).2 hp
    exact exec_of_refusal hup (o := readBarge p) rfl (by simp [readBarge, hg, hb])
  · have ho := readBarge_some ((inGrid_iff p).2 hp) hb
    refine ⟨_, exec_of_accept hup (o := readBarge p) rfl ho, rfl, ?_, fun q hq => ?_, rfl, rfl⟩
    · exact (barge?_onBarge s p p Barge.read fun _ => rfl).trans (by simp [hb, Barge.read])
    · exact (barge?_onBarge s p q Barge.read fun _ => rfl).trans (by simp [hq])
  · exact exec_of_refusal hup (o := readCoupling n) rfl (by simp only [readCoupling, hc])
  · refine ⟨_, exec_of_accept hup (o := readCoupling n) rfl (readCoupling_some hc), rfl, ?_, fun m hm => ?_, rfl, rfl⟩
    · exact (coupling?_onCoupling s n n Coupling.read fun _ => rfl).trans (by simp [hc, Coupling.read])
    · exact (coupling?_onCoupling s n m Coupling.read fun _ => rfl).trans (by simp [hm])

/-! ### Classification -/

/-- R18: a coupling that was put in a state. -/
def Coupling.inState (st : CouplingState) (c : Coupling) : Coupling :=
  if c.state = st then c else { c with state := st, changed := true }

@[simp] theorem Coupling.inState_state (st : CouplingState) (c : Coupling) : (c.inState st).state = st := by
  unfold Coupling.inState
  split
  · assumption
  · rfl

@[simp] theorem Coupling.inState_frame (st : CouplingState) (c : Coupling) :
    (c.inState st).tension = c.tension ∧ (c.inState st).flags = c.flags ∧ (c.inState st).command = c.command ∧
      (c.inState st).declared = c.declared := by
  unfold Coupling.inState
  split <;> exact ⟨rfl, rfl, rfl, rfl⟩

@[simp] theorem setCouplingState_same (n : Nat) (st : CouplingState) (s : State) :
    (setCouplingState n st s).coupling? n = (s.coupling? n).map (Coupling.inState st) := by
  rw [setCouplingState_coupling?]
  congr 1
  funext c
  by_cases hc : c.state = st <;> simp [Coupling.inState, hc]

theorem setCouplingState_other {n m : Nat} (st : CouplingState) (s : State) (h : m ≠ n) :
    (setCouplingState n st s).coupling? m = s.coupling? m := by
  simp [setCouplingState_coupling?, h]

/-- R13: a coupling with its channel's report. -/
def Coupling.reported (r : ChannelReport) (sent : WinchCmd) (c : Coupling) : Coupling :=
  { c with
    tension := r.tension, flags := some r.flags,
    command := if c.command = .stop ∧ sent = .stop then .none else c.command }

/-- R13: a coupling that no live order names takes its report and is classified. -/
theorem couplingReply_free {n : Nat} {c : Coupling} (r : ChannelReport) (sent : WinchCmd) (hc : s.coupling? n = some c)
    (ho : s.orderOn n = none) : couplingReply n r sent s =
      setCouplingState n (classify (s.settings.coupling.thresholds c.cls) r.tension r.flags c.state)
        (s.onCoupling n (Coupling.reported r sent)) := by
  have ho' : (s.onCoupling n (Coupling.reported r sent)).orderOn n = none := ho
  have hc' : (s.onCoupling n (Coupling.reported r sent)).coupling? n = some (c.reported r sent) := by
    rw [coupling?_onCoupling s n n (Coupling.reported r sent) fun _ => rfl, hc]
    simp
  have hreply : couplingReply n r sent s = classifyCoupling n (s.settings.coupling.thresholds c.cls) r.tension r.flags
      (orderReply n (s.settings.coupling.thresholds c.cls) r.tension r.flags (sent == .stop)
        (s.onCoupling n (Coupling.reported r sent))) := by
    simp only [couplingReply, hc]
    rfl
  rw [hreply, orderReply, ho']
  simp [classifyCoupling, ho', hc', Coupling.reported]

/-- R13: the record of a coupling after its report, where no live order names it. -/
theorem couplingReply_coupling? {n : Nat} {c : Coupling} (r : ChannelReport) (sent : WinchCmd)
    (hc : s.coupling? n = some c) (ho : s.orderOn n = none) :
    ∃ c', (couplingReply n r sent s).coupling? n = some c' ∧ c'.tension = r.tension ∧ c'.flags = some r.flags ∧
      c'.state = classify (s.settings.coupling.thresholds c.cls) r.tension r.flags c.state := by
  rw [couplingReply_free r sent hc ho, setCouplingState_same,
    coupling?_onCoupling s n n (Coupling.reported r sent) fun _ => rfl, hc]
  exact ⟨_, rfl, by simp [Coupling.reported]⟩

theorem classifyFresh_cases (h : Thresholds) (x : Int) (f : WinchFlags) :
    (f.confirm = true ∧ x < h.slack ∧ classifyFresh h x f = .released) ∨
      (¬(f.confirm = true ∧ x < h.slack) ∧ h.overload < x ∧ classifyFresh h x f = .overload) ∨
      (¬(f.confirm = true ∧ x < h.slack) ∧ x ≤ h.overload ∧ h.slack + h.hysteresis ≤ x ∧ classifyFresh h x f = .fast) ∨
      (¬(f.confirm = true ∧ x < h.slack) ∧ x ≤ h.overload ∧ x < h.slack + h.hysteresis ∧ classifyFresh h x f = .slack) := by
  by_cases hc : f.confirm = true ∧ x < h.slack
  · exact .inl ⟨hc.1, hc.2, by simp [classifyFresh, hc]⟩
  · have hc' : ¬(f.confirm && decide (x < h.slack)) = true := by simpa using hc
    refine .inr ?_
    rcases lt_or_ge h.overload x with hov | hov
    · exact .inl ⟨hc, hov, by rw [classifyFresh, if_neg hc', if_pos hov]⟩
    · rcases lt_or_ge x (h.slack + h.hysteresis) with hx | hx
      · exact .inr (.inr ⟨hc, hov, hx,
          by rw [classifyFresh, if_neg hc', if_neg (not_lt.2 hov), if_neg (not_le.2 hx)]⟩)
      · exact .inr (.inl ⟨hc, hov, hx, by rw [classifyFresh, if_neg hc', if_neg (not_lt.2 hov), if_pos hx]⟩)

theorem classify_slack {h : Thresholds} (x : Int) (f : WinchFlags) (h1 : h.slack + h.hysteresis ≤ h.fast)
    (h2 : h.fast < h.overload - h.hysteresis) (h0 : 0 ≤ h.hysteresis) :
    (h.overload < x → classify h x f .slack = .overload) ∧
      (h.slack + h.hysteresis ≤ x ∧ x ≤ h.overload → classify h x f .slack = .fast) ∧
      (x < h.slack + h.hysteresis → classify h x f .slack = .slack) := by
  refine ⟨fun hx => ?_, fun hx => ?_, fun hx => ?_⟩ <;> simp only [classify, classifySlack] <;> split_ifs <;>
    first | rfl | omega

theorem classify_fast {h : Thresholds} (x : Int) (f : WinchFlags) (h1 : h.slack + h.hysteresis ≤ h.fast)
    (h2 : h.fast < h.overload - h.hysteresis) (h0 : 0 ≤ h.hysteresis) :
    (h.overload < x → classify h x f .fast = .overload) ∧
      (h.slack ≤ x ∧ x ≤ h.overload → classify h x f .fast = .fast) ∧
      (x < h.slack → classify h x f .fast = .slack) := by
  refine ⟨fun hx => ?_, fun hx => ?_, fun hx => ?_⟩ <;> simp only [classify, classifyFast] <;> split_ifs <;>
    first | rfl | omega

theorem classify_overload {h : Thresholds} (x : Int) (f : WinchFlags) (h1 : h.slack + h.hysteresis ≤ h.fast)
    (h2 : h.fast < h.overload - h.hysteresis) (h0 : 0 ≤ h.hysteresis) :
    (h.overload < x → classify h x f .overload = .overload) ∧
      (h.overload - h.hysteresis < x ∧ x ≤ h.overload → classify h x f .overload = .overload) ∧
      (h.slack ≤ x ∧ x ≤ h.overload - h.hysteresis → classify h x f .overload = .fast) ∧
      (x < h.slack → classify h x f .overload = .slack) := by
  refine ⟨fun hx => ?_, fun hx => ?_, fun hx => ?_, fun hx => ?_⟩ <;> simp only [classify, classifyOverload] <;>
    split_ifs <;> first | rfl | omega

/-- Settles O28: the record after the report, classified by its state. -/
theorem couplingsAreClassifiedByTheirReports : Obligations.CouplingsAreClassifiedByTheirReports := by
  unfold Obligations.CouplingsAreClassifiedByTheirReports
  refine ⟨fun s n c r sent hc ho => ?_, fun s n c r sent hc ho => ?_⟩
  · intro h x h0 h1 h2
    obtain ⟨c', hc', htension, hflags, hstate⟩ := couplingReply_coupling? r sent hc ho
    refine ⟨c', hc', htension, hflags, fun hst => ?_, fun hst => ?_, fun hst => ?_⟩ <;> rw [hst] at hstate <;> rw [hstate]
    · exact classify_slack x r.flags h1 h2 h0
    · exact classify_fast x r.flags h1 h2 h0
    · exact classify_overload x r.flags h1 h2 h0
  · obtain ⟨c', hc', -, -, hstate⟩ := couplingReply_coupling? r sent hc ho
    have hfresh := classifyFresh_cases (s.settings.coupling.thresholds c.cls) r.tension r.flags
    refine ⟨c', hc', fun hst => ?_, fun hst => ⟨fun hl => ?_, fun hl => ?_⟩, fun hst => ⟨fun hl => ?_, fun hl => ?_⟩⟩
    · rcases hst with hst | hst <;> rw [hst] at hstate <;> rw [hstate] <;> exact hfresh
    · have hm : madeUp (s.settings.coupling.thresholds c.cls) r.tension r.flags = true := by simpa [madeUp] using hl
      rw [hst, classify, if_pos hm] at hstate
      rwa [hstate]
    · have hm : ¬madeUp (s.settings.coupling.thresholds c.cls) r.tension r.flags = true := by simpa [madeUp] using hl
      rw [hst, classify, if_neg hm] at hstate
      exact hstate
    · have hm : (r.flags.confirm || madeUp (s.settings.coupling.thresholds c.cls) r.tension r.flags) = true := by
        simpa [madeUp] using hl
      rw [hst, classify, if_pos hm] at hstate
      rwa [hstate]
    · have hm : ¬(r.flags.confirm || madeUp (s.settings.coupling.thresholds c.cls) r.tension r.flags) = true := by
        simpa [madeUp] using hl
      rw [hst, classify, if_neg hm] at hstate
      exact hstate

end Sys2Proof.Machine
end

section
/-! ### The frame of the machine: each figure has its writers -/

namespace Sys2Proof.Machine

variable {s t u : State}

/-- The figures and tables of the state, each of which its own commands write. -/
inductive Figure where
  | working | unsaved | image | clock | checkpoint | inHand | buffer | cause | lever | helm | mode | sync | source | tanks | meters
  | barges | couplings | nodes | orders

/-- The figure is the same in two states. For the Order Table: no slot takes a new order. -/
def Figure.same (g : Figure) (s t : State) : Prop :=
  match g with
  | .working => t.store.working = s.store.working
  | .unsaved => t.store.unsaved = s.store.unsaved
  | .image => t.store.image = s.store.image
  | .clock => t.clock = s.clock
  | .checkpoint => t.ckpt.record = s.ckpt.record ∧ t.ckpt.good = s.ckpt.good
  | .inHand => t.port.inHand = s.port.inHand
  | .buffer => t.port.buffer = s.port.buffer
  | .cause => t.ctl.cause = s.ctl.cause
  | .lever => t.prop.lever = s.prop.lever
  | .helm => t.steer.helm = s.steer.helm
  | .mode => t.steer.mode = s.steer.mode
  | .sync => t.prop.sync = s.prop.sync
  | .source => t.prop.source = s.prop.source
  | .tanks => (∀ k : Fin 8, t.fuel.tanks[k] = s.fuel.tanks[k]) ∧ t.fuel.consumption = s.fuel.consumption ∧
      t.fuel.bunkered = s.fuel.bunkered ∧ t.fuel.adjustments = s.fuel.adjustments
  | .meters => t.fuel.meters = s.fuel.meters
  | .barges => t.sup.barges.map Barge.declared = s.sup.barges.map Barge.declared
  | .couplings => t.sup.couplings.map Coupling.declared = s.sup.couplings.map Coupling.declared
  | .nodes => t.line.nodes.map Node.key = s.line.nodes.map Node.key
  | .orders => OrdersKept s.orders t.orders

/-- The commands that write a figure, each by the rule that names it. -/
def Figure.writtenBy : Figure → Instr → Bool
  | working, .writeSetting _ _ _ _ => true
  | unsaved, .writeSetting _ _ _ _ | unsaved, .saveComplete _ => true
  | image, .saveComplete _ => true
  | clock, .setVoyageClock _ | clock, .voyageClockTick => true
  | checkpoint, .checkpointWriteComplete => true
  | inHand, .restart => true
  | lever, .setLever _ | lever, .controlPeriodExpiry _ _ _ | lever, .silenceLimitExpiry | lever, .holdTimeExpiry => true
  | helm, .setHelm _ | helm, .controlPeriodExpiry _ _ _ | helm, .silenceLimitExpiry | helm, .holdTimeExpiry => true
  | mode, .setSteerMode _ => true
  | sync, .setSync _ => true
  | source, .controlPeriodExpiry _ _ _ => true
  | tanks, .setSounding _ _ | tanks, .accountingIntervalExpiry _ | tanks, .writeSetting _ _ _ _ => true
  | meters, .accountingIntervalExpiry _ | meters, .meterPulse _ => true
  | barges, .declareBarge _ _ _ _ _ | barges, .removeBarge _ => true
  | couplings, .declareCoupling _ _ _ _ _ _ _ | couplings, .withdrawCoupling _ | couplings, .removeBarge _ => true
  | nodes, .forgetNode _ | nodes, .masterFrameSent | nodes, .echoFailure | nodes, .bargeFrameReceived _ _
  | nodes, .bargeFrameSilence | nodes, .replyWindowExpiry => true
  | orders, .postOrder _ _ => true
  | _, _ => false

theorem Figure.same_refl (g : Figure) (s : State) : g.same s s := by
  cases g <;> simp [Figure.same]

theorem Figure.same.trans {g : Figure} (h : g.same s t) (h' : g.same t u) : g.same s u := by
  cases g
  case tanks =>
    obtain ⟨hk, hc, hb, ha⟩ := h
    obtain ⟨hk', hc', hb', ha'⟩ := h'
    exact ⟨fun k => (hk' k).trans (hk k), hc'.trans hc, hb'.trans hb, ha'.trans ha⟩
  case checkpoint => exact ⟨h'.1.trans h.1, h'.2.trans h.2⟩
  case orders => exact OrdersKept.trans h h'
  all_goals exact Eq.trans h' h

/-- The shared operations leave every figure but those of the tanks, the meters and the nodes, of which they keep nothing. -/
theorem Kept.figure (h : Kept s t) {g : Figure} (hf : g = .tanks ∨ g = .meters → t.fuel = s.fuel)
    (hn : g = .nodes → t.line.nodes.map Node.key = s.line.nodes.map Node.key) : g.same s t := by
  obtain ⟨hstore, hctl, hclock, -⟩ := h.stores
  cases g
  case working => exact congrArg Store.working hstore
  case unsaved => exact congrArg Store.unsaved hstore
  case image => exact congrArg Store.image hstore
  case clock => exact hclock
  case checkpoint => exact ⟨h.record, h.good⟩
  case inHand => exact h.inHand
  case buffer => exact h.buffer
  case cause => exact by simp [Figure.same, hctl]
  case lever => exact h.lever
  case helm => exact h.helm
  case mode => exact h.mode
  case sync => exact h.sync
  case source => exact h.source
  case tanks => simp [Figure.same, hf (.inl rfl)]
  case meters => exact congrArg Fuel.meters (hf (.inr rfl))
  case barges => exact h.declaredBarges
  case couplings => exact h.couplings
  case nodes => exact hn rfl
  case orders => exact h.orders

/-- The shared operations that act neither on the Fuel Account nor on the master leave every figure. -/
theorem Kept.figures (h : Kept s t) (hf : t.fuel = s.fuel) (hl : t.line = s.line) (g : Figure) : g.same s t :=
  h.figure (fun _ => hf) (fun _ => by rw [hl])

theorem same_finish (g : Figure) (s : State) : g.same s (finish s) :=
  (kept_finish (.refl s)).figures (by simp) (by simp) g

theorem same_settle (g : Figure) (s : State) : g.same s (settle s) :=
  (kept_settle (.refl s)).figures (by simp) (by simp) g

/-! #### The parts of the state, each with the figures it holds -/

theorem same_onPort {g : Figure} {f : Port → Port} (s : State) (hi : g = .inHand → (f s.port).inHand = s.port.inHand)
    (hb : g = .buffer → (f s.port).buffer = s.port.buffer) : g.same s (s.onPort f) := by
  cases g
  case inHand => exact hi rfl
  case buffer => exact hb rfl
  all_goals simp [Figure.same]

theorem same_onProp {g : Figure} {f : Propulsion → Propulsion} (s : State)
    (hl : g = .lever → (f s.prop).lever = s.prop.lever) (hy : g = .sync → (f s.prop).sync = s.prop.sync)
    (hs : g = .source → (f s.prop).source = s.prop.source) : g.same s (s.onProp f) := by
  cases g
  case lever => exact hl rfl
  case sync => exact hy rfl
  case source => exact hs rfl
  all_goals simp [Figure.same]

theorem same_onSteer {g : Figure} {f : Steering → Steering} (s : State) (hh : g = .helm → (f s.steer).helm = s.steer.helm)
    (hm : g = .mode → (f s.steer).mode = s.steer.mode) : g.same s (s.onSteer f) := by
  cases g
  case helm => exact hh rfl
  case mode => exact hm rfl
  all_goals simp [Figure.same]

theorem same_onSup {g : Figure} {f : Supervisor → Supervisor} (s : State)
    (hb : g = .barges → (f s.sup).barges.map Barge.declared = s.sup.barges.map Barge.declared)
    (hc : g = .couplings → (f s.sup).couplings.map Coupling.declared = s.sup.couplings.map Coupling.declared) :
    g.same s (s.onSup f) := by
  cases g
  case barges => exact hb rfl
  case couplings => exact hc rfl
  all_goals simp [Figure.same]

theorem same_onStore {g : Figure} {f : Store → Store} (s : State) (hw : g = .working → (f s.store).working = s.store.working)
    (hu : g = .unsaved → (f s.store).unsaved = s.store.unsaved) (hi : g = .image → (f s.store).image = s.store.image) :
    g.same s (s.onStore f) := by
  cases g
  case working => exact hw rfl
  case unsaved => exact hu rfl
  case image => exact hi rfl
  all_goals simp [Figure.same]

theorem same_withClock {g : Figure} (hg : g ≠ .clock) (s : State) (x : Stamp) : g.same s { s with clock := x } := by
  cases g
  case clock => exact absurd rfl hg
  all_goals simp [Figure.same]

theorem same_onCtl (g : Figure) {f : StartControl → StartControl} (s : State) (hf : (f s.ctl).cause = s.ctl.cause) :
    g.same s (s.onCtl f) := by
  cases g
  case cause => exact hf
  all_goals simp [Figure.same]

theorem same_setSlot {g : Figure} (hg : g ≠ .orders) (s : State) (i : Fin 16) (o : Option Order) : g.same s (s.setSlot i o) := by
  cases g
  case orders => exact absurd rfl hg
  all_goals simp [Figure.same]

/-! #### Lever, helm and source -/

theorem same_takeLever {g : Figure} (hg : g ≠ .lever) (v : Int) (s : State) : g.same s (takeLever v s) :=
  Figure.same.trans (same_onProp s (f := fun p => { p with lever := clamp (-1000) 1000 v }) (fun he => absurd he hg)
    (fun _ => rfl) (fun _ => rfl))
    ((kept_recomputeLe (kept_endSilence (kept_restartSilence (kept_clearLatch (.refl _))))).figures (by simp) (by simp) g)

theorem same_setHelmTo {g : Figure} (hg : g ≠ .helm) (h : Int) (s : State) : g.same s (setHelmTo h s) := by
  unfold setHelmTo
  split
  · exact g.same_refl s
  · exact Figure.same.trans (same_onSteer s (fun he => absurd he hg) fun _ => rfl)
      ((kept_steeringRecompute (.refl _)).figures (by simp) (by simp) g)

theorem same_zeroCommand {g : Figure} (hl : g ≠ .lever) (hh : g ≠ .helm) (s : State) : g.same s (zeroCommand s) :=
  Figure.same.trans (same_onProp s (fun he => absurd he hl) (fun _ => rfl) (fun _ => rfl))
    (Figure.same.trans (same_setHelmTo hh 0 _)
      ((kept_sourceReport (kept_recomputeLe (.refl _))).figures (by simp) (by simp) g))

theorem same_followTakeover {g : Figure} (hg : g ≠ .source) (b : Bool) (s : State) : g.same s (followTakeover b s) := by
  have hs (f : Propulsion → Propulsion) (hl : ∀ p, (f p).lever = p.lever) (hy : ∀ p, (f p).sync = p.sync) :
      g.same s (s.onProp f) := same_onProp s (fun _ => hl _) (fun _ => hy _) (fun he => absurd he hg)
  unfold followTakeover
  split
  · refine Figure.same.trans (hs _ ?_ ?_) ((kept_sourceReport (.refl _)).figures (by simp) (by simp) g) <;> exact fun _ => rfl
  · refine Figure.same.trans (hs _ ?_ ?_)
      ((kept_sourceReport (kept_restartSilence (.refl _))).figures (by simp) (by simp) g) <;> exact fun _ => rfl
  · exact g.same_refl s
  · exact g.same_refl s

theorem same_deliverBackup {g : Figure} (hl : g ≠ .lever) (hh : g ≠ .helm) (x y : Nat) (s : State) :
    g.same s (deliverBackup x y s) := by
  unfold deliverBackup
  dsimp only
  split
  · exact Figure.same.trans (same_onProp s (fun he => absurd he hl) (fun _ => rfl) (fun _ => rfl))
      (Figure.same.trans ((kept_recomputeLe (kept_clearLatch (.refl _))).figures (by simp) (by simp) g) (same_setHelmTo hh _ _))
  · exact g.same_refl s

theorem kept_engineControl {e : Fin 4} (h : Kept s t) : Kept s (engineControl e t) := by
  unfold engineControl
  split
  · refine kept_disengageTest ?_
    unfold rampDemand setTarget
    exact kept_onChan (kept_onChan h)
  · exact h

/-- R58: only a control period writes the command source. -/
theorem same_controlPeriodExpiry {g : Figure} (hl : g ≠ .lever) (hh : g ≠ .helm) (hs : g ≠ .source) (b : Bool) (x y : Nat)
    (s : State) : g.same s (controlPeriodExpiry b x y s) :=
  Figure.same.trans (same_followTakeover hs b s) (Figure.same.trans (same_deliverBackup hl hh x y _)
    (Figure.same.trans (same_settle g _) (Figure.same.trans
      ((kept_forAll (fun _ _ _ hu => kept_engineControl hu) (.refl _)).figures (by simp) (by simp) g) (same_finish g _))))

/-- R62: the command held at the silence limit. -/
theorem kept_heldCommand {x : Timer} {d : List Byte} (h : Kept s t) : Kept s (sourceReport (report .bridgeSilent .nothing d
    (t.onProp fun p => { p with phase := .hold, silenceTimer := none, holdTimer := x }))) :=
  kept_sourceReport (kept_report (kept_onProp (fun _ => rfl) (fun _ => rfl) (fun _ => rfl) h))

theorem same_silenceLimitExpiry {g : Figure} (hl : g ≠ .lever) (hh : g ≠ .helm) (s : State) :
    g.same s (silenceLimitExpiry s) := by
  have held {x : Timer} {d : List Byte} : g.same s (sourceReport (report .bridgeSilent .nothing d
      (s.onProp fun p => { p with phase := .hold, silenceTimer := none, holdTimer := x }))) :=
    (kept_heldCommand (.refl s)).figures (by simp) (by simp) g
  unfold silenceLimitExpiry
  dsimp only
  repeat' split
  · exact held.trans (same_zeroCommand hl hh _)
  · exact held
  · exact g.same_refl s

theorem same_holdTimeExpiry {g : Figure} (hl : g ≠ .lever) (hh : g ≠ .helm) (s : State) : g.same s (holdTimeExpiry s) := by
  unfold holdTimeExpiry
  split
  · exact same_zeroCommand hl hh s
  · exact g.same_refl s

/-! #### Notices and the Barge Line -/

/-- The operations of a notice leave every figure. -/
theorem same_notice (g : Figure) (s : State) : NoticeKeeps (g.same s) where
  report _ _ _ h := h.trans ((kept_report (.refl _)).figures (by simp) (by simp) g)
  node n _ hf h := h.trans ((kept_onLine (.refl _)).figure (fun _ => rfl) (fun _ => onNode_keys n hf _))
  bow _ _ h := h.trans ((kept_onBow (.refl _)).figures (by simp) (by simp) g)
  freed _ h := h.trans ((kept_freeSlot (.refl _)).figures (by simp) (by simp) g)
  requeued i o st ho hw h := h.trans (((kept_notice _).requeued i o st ho hw (.refl _)).figures (by simp) (by simp) g)
  started i o ho hw h := h.trans (((kept_notice _).started i o ho hw (.refl _)).figures (by simp) (by simp) g)
  command _ _ _ h := h.trans ((kept_setCommand (.refl _)).figures (by simp) (by simp) g)
  coupling _ _ _ _ h := h.trans ((kept_setCouplingState (.refl _)).figures (by simp) (by simp) g)

/-- The operations of the Barge Line leave every figure but the Node Table. -/
theorem same_line {g : Figure} (hg : g ≠ .nodes) (s : State) : LineKeeps (g.same s) where
  toNoticeKeeps := same_notice g s
  line _ _ h := h.trans ((kept_onLine (.refl _)).figure (fun _ => rfl) (fun he => absurd he hg))
  struck _ h := h.trans ((kept_onLine (.refl _)).figure (fun _ => rfl) (fun he => absurd he hg))
  joined _ _ _ h := h.trans ((kept_onLine (.refl _)).figure (fun _ => rfl) (fun he => absurd he hg))
  classified _ _ h := h.trans ((kept_setCouplingState (.refl _)).figures (by simp) (by simp) g)
  tension n x f c h := h.trans (((kept_line _).tension n x f c (.refl _)).figures (by simp) (by simp) g)
  cast ps h := h.trans (((kept_line _).cast ps (.refl _)).figures (by simp) (by simp) g)

theorem same_startNext (g : Figure) (s : State) : g.same s (startNext s) :=
  (kept_startNext (.refl s)).figure (fun _ => by simp) (fun _ => by rw [startNext_nodes])

theorem same_replyWindowExpiry {g : Figure} (hg : g ≠ .nodes) (s : State) : g.same s (replyWindowExpiry s) := by
  have k := same_line hg s
  unfold replyWindowExpiry
  split
  · exact Figure.same.trans (k.exchangeMiss _ (k.turnaround (g.same_refl s)))
      (Figure.same.trans (same_finish g _) (same_startNext g _))
  all_goals exact g.same_refl s

/-- R38: a rejoin timer leaves the records at their addresses. -/
theorem same_rejoinTimerExpiry (g : Figure) (n : Nat) (s : State) : g.same s (rejoinTimerExpiry n s) := by
  unfold rejoinTimerExpiry
  split
  · exact g.same_refl s
  · exact keeps_ite (P := fun t => g.same s t)
      ((same_notice g s).loseNode n ((kept_onLine (.refl s)).figure (fun _ => rfl) (fun _ => rfl))) (g.same_refl s)

/-! #### Declared and withdrawn records -/

theorem same_bargesPut {g : Figure} (hg : g ≠ .barges) (f : List Barge → List Barge) (s : State) :
    g.same s (s.onSup fun u => { u with barges := f u.barges }) :=
  same_onSup s (fun he => absurd he hg) (fun _ => rfl)

theorem same_couplingsPut {g : Figure} (hg : g ≠ .couplings) (f : List Coupling → List Coupling) (s : State) :
    g.same s (s.onSup fun u => { u with couplings := f u.couplings }) :=
  same_onSup s (fun _ => rfl) (fun he => absurd he hg)

theorem same_onLine (g : Figure) {f : Line → Line} (s : State) (hf : ∀ l, (f l).nodes = l.nodes) : g.same s (s.onLine f) :=
  (kept_onLine (.refl s)).figure (fun _ => rfl) (fun _ => by simp [hf])

theorem same_onSettling (g : Figure) (f : Settling → Settling) (s : State) : g.same s (s.onSettling f) :=
  (kept_onSettling (.refl s)).figures rfl rfl g

theorem same_addBarge {g : Figure} (hg : g ≠ .barges) (p : Pos) (hull light cargo : Nat) (bow : Option Nat) (s : State) :
    g.same s (addBarge p hull light cargo bow s) := by
  have claimed (u : State) : g.same u (claimBow p bow u) := by
    unfold claimBow
    split
    · exact (same_notice g u).newClaim _ ((kept_addBow (.refl u)).figures (by simp) (by simp) g)
    · exact g.same_refl u
  exact (same_bargesPut hg (insertBarge ⟨p, hull, light, cargo, bow, .expected, true, false⟩) s).trans
    (((kept_askCheckpoint (kept_bargeReport (.refl _))).figures (by simp) (by simp) g).trans
      ((claimed _).trans (same_onSettling g _ _)))

theorem same_addCoupling {g : Figure} (hg : g ≠ .couplings) (n : Nat) (a : CouplingEnd) (b : Pos)
    (serial channel winchEnd cls : Nat) (s : State) : g.same s (addCoupling n a b serial channel winchEnd cls s) := by
  have hr (u : State) : g.same u (dueAnalysis (newClaim serial (askCheckpoint (couplingReport n u)))) :=
    ((same_notice g u).newClaim serial
      ((kept_askCheckpoint (kept_couplingReport (.refl u))).figures (by simp) (by simp) g)).trans (same_onSettling g _ _)
  have hl := same_onLine g (f := fun l => { l with stops := l.stops.filter (· != (serial, channel)) }) s fun _ => rfl
  unfold addCoupling
  exact (hl.trans (same_couplingsPut hg (insertCoupling _) _)).trans (hr _)

theorem same_dropCoupling {g : Figure} (hg : g ≠ .couplings) (c : Coupling) (s : State) : g.same s (dropCoupling c s) := by
  have hs := same_couplingsPut hg (fun l => l.filter fun x => x.number != c.number) s
  have hr (u : State) : g.same u (askCheckpoint (couplingReport c.number u)) :=
    (kept_askCheckpoint (kept_couplingReport (.refl u))).figures (by simp) (by simp) g
  unfold dropCoupling
  dsimp only
  split
  · exact hs.trans (hr _)
  · exact hs.trans ((same_onLine g _ (fun _ => rfl)).trans (hr _))

theorem same_removeRecord {g : Figure} (hc : g ≠ .couplings) (hb : g ≠ .barges) (p : Pos) (cs : List Coupling) (s : State) :
    g.same s (removeRecord p cs s) := by
  have hd : g.same s (forAll cs dropCoupling s) :=
    forAll_induct cs dropCoupling s (fun c _ _ hu => hu.trans (same_dropCoupling hc c _)) (g.same_refl s)
  have hr (u : State) : g.same u (dueAnalysis (askCheckpoint (bargeReport p (dropBow p u)))) :=
    (kept_onSettling (kept_askCheckpoint (kept_bargeReport (kept_dropBow (.refl u))))).figures (by simp) (by simp) g
  unfold removeRecord
  exact (same_notice g s).giveDepartures _
    ((hd.trans (same_bargesPut hb (fun l => l.filter fun b => b.pos != p) _)).trans (hr _))

theorem same_breakaway {g : Figure} (hc : g ≠ .couplings) (hb : g ≠ .barges) (p : Pos) (s : State) :
    g.same s (breakaway p s) := by
  have ho : g.same s (forAll (s.liveOrders.filter fun x => s.orderEndsAt p x.2)
      (fun x => completeOrder x.1 (.ofWire .cancelled none)) s) :=
    forAll_induct _ _ s (fun _ _ _ hu => (same_notice g s).completeOrder _ _ hu) (g.same_refl s)
  exact (ho.trans (same_removeRecord hc hb p (s.couplingsAt p) _)).trans (same_onSettling g _ _)

/-! #### Settings and soundings -/

theorem kept_engineTaken {e : Fin 4} (h : Kept s t) : Kept s (engineTaken e t) := by
  simp only [engineTaken]
  split
  · exact kept_engagementTest (kept_engineReport (kept_onChan h))
  · exact kept_engineReport (kept_onChan h)

theorem kept_rudderTaken {was : Settings} {r : Fin 8} (h : Kept s t) : Kept s (rudderTaken was r t) := by
  unfold rudderTaken
  split
  · exact h
  · exact kept_onRudder h

theorem kept_tankTaken {k : Fin 8} (h : Kept s t) : Kept s (tankTaken k t) := by
  simp only [tankTaken]
  split
  · exact kept_tankReport (kept_onTank h)
  · exact kept_tankReport (kept_onTank (kept_soundTo h))

/-- R185: what the owner of a setting does is among the shared operations. -/
theorem kept_ownerActs {c : Sec} {num idx : Nat} {old v : Int} {was : Settings} (h : Kept s t) :
    Kept s (ownerActs c num idx old v was t) := by
  cases c
  case engine =>
    simp only [ownerActs, ownerEngine]
    repeat' split
    · exact h
    · exact kept_engineTaken h
    · exact kept_onChan h
    · exact kept_recomputeLe h
    · exact h
  case steering =>
    simp only [ownerActs, ownerSteering]
    repeat' split
    · exact kept_steeringRecompute (kept_degradedTest (kept_forAll (fun _ _ _ hu => kept_rudderTaken hu) h))
    · exact kept_steeringRecompute h
    · exact h
  case coupling =>
    simp only [ownerActs, ownerCoupling]
    repeat' split
    · exact kept_onSup (fun _ => rfl) (fun _ => rfl) h
    · exact kept_ccapRecompute h
    · exact kept_onSettling h
    · exact h
  case fuel =>
    simp only [ownerActs, ownerFuel]
    repeat' split
    · exact kept_fcapRecompute h
    · exact kept_fcapRecompute (kept_tankTaken h)
    · exact kept_tankTests h
    · exact kept_tankTests h
    · exact kept_fcapRecompute h
    · exact kept_fcapRecompute h
    · exact h
  case backup => exact h

theorem tankTests_meters (k : Fin 8) (s : State) : (tankTests k s).fuel.meters = s.fuel.meters := by
  simp only [tankTests, overfullTest, lowTest]
  repeat' split
  all_goals simp [State.onTank, State.onFuel]

theorem fcapRecompute_meters (s : State) : (fcapRecompute s).fuel.meters = s.fuel.meters := by
  simp only [fcapRecompute, reserveTest]
  repeat' split
  all_goals simp

theorem soundTo_meters (k : Fin 8) (b : Int) (s : State) : (soundTo k b s).fuel.meters = s.fuel.meters := by
  simp [soundTo, addAdjustment, State.onTank, State.onFuel]

theorem ownerActs_meters (c : Sec) (num idx : Nat) (old v : Int) (was : Settings) (s : State) :
    (ownerActs c num idx old v was s).fuel.meters = s.fuel.meters := by
  cases c
  case fuel =>
    simp only [ownerActs, ownerFuel, tankTaken]
    repeat' split
    all_goals simp [fcapRecompute_meters, tankTests_meters, soundTo_meters, State.onTank, State.onFuel]
  all_goals simp [ownerActs]

end Sys2Proof.Machine
end

section
/-! ### Every command leaves the figures it does not write -/

namespace Sys2Proof.Machine

variable {s t u : State}

theorem same_setSounding {g : Figure} (hg : g ≠ .tanks) (n q : Nat) (s : State) : g.same s (setSounding n q s).1 := by
  by_cases hm : g = .meters
  · subst hm
    unfold setSounding
    repeat' split
    all_goals simp [Figure.same, fcapRecompute_meters, tankTests_meters, soundTo_meters]
  · exact (kept_setSounding (.refl s)).figure (fun he => absurd he (by simp [hg, hm]))
      (fun _ => by rw [owner_line (c := .setSounding n q) rfl rfl])

theorem same_writeSetting {g : Figure} (hw : g ≠ .working) (hu : g ≠ .unsaved) (ht : g ≠ .tanks) (a b c : Nat) (v : Int)
    (s : State) : g.same s (writeSetting a b c v s).1 := by
  have acts (x : Sec) (old : Int) (s : State) : g.same s (ownerActs x b c old v s.settings (storeValue x b c v s)) := by
    refine Figure.same.trans (t := storeValue x b c v s)
      (same_onStore s (fun he => absurd he hw) (fun he => absurd he hu) fun _ => rfl) ?_
    by_cases hm : g = .meters
    · subst hm
      exact ownerActs_meters x b c old v _ _
    · exact (kept_ownerActs (.refl _)).figure (fun he => absurd he (by simp [ht, hm])) fun _ => by simp
  unfold writeSetting
  repeat' split
  · exact g.same_refl s
  · exact g.same_refl s
  · dsimp only
    exact (acts _ _ s).trans (same_finish g _)

theorem same_postOrder {g : Figure} (hg : g ≠ .orders) (n : Nat) (x : OrderSpec) (s : State) : g.same s (postOrder n x s).1 := by
  unfold postOrder
  split
  · exact g.same_refl s
  · exact g.same_refl s
  · dsimp only
    exact Figure.same.trans ((same_notice g s).placeOrder _ _ _ _ fun o => same_setSlot hg s _ (some o)) (same_finish g _)

theorem same_setSteerMode {g : Figure} (hg : g ≠ .mode) (m : Nat) (s : State) : g.same s (setSteerMode m s).1 := by
  unfold setSteerMode
  split
  · exact g.same_refl s
  · dsimp only
    exact (same_onSteer s (fun _ => rfl) fun he => absurd he hg).trans
      ((kept_steeringRecompute (kept_degradedTest (kept_forAll (fun _ _ _ hu => kept_rudderReturns hu) (.refl _)))).figures
        (by simp) (by simp) g)

theorem same_setSync {g : Figure} (hg : g ≠ .sync) (v : Nat) (s : State) : g.same s (setSync v s).1 := by
  have hp (b : Bool) : g.same s (s.onProp fun p => { p with sync := b }) :=
    same_onProp s (fun _ => rfl) (fun he => absurd he hg) fun _ => rfl
  unfold setSync
  repeat' split
  · exact (hp false).trans ((kept_clearTrims (.refl _)).figures (by simp [clearTrims]) (by simp [clearTrims]) g)
  · exact g.same_refl s
  · exact hp true
  · exact g.same_refl s

theorem same_readBarge (g : Figure) (p : Pos) (s : State) : g.same s (readBarge p s).1 := by
  have ht := tablesKept_readBarge p s
  by_cases hb : g = .barges
  · exact hb ▸ ht.barges
  · unfold readBarge
    repeat' split
    · exact g.same_refl s
    · exact g.same_refl s
    · exact same_bargesPut hb _ s

/-- R4, R5, R8, R9: a declaration or removal writes its own tables alone. -/
theorem same_declareBarge {g : Figure} (hg : g ≠ .barges) (p : Pos) (hull light cargo : Nat) (bow : Option Nat) (s : State) :
    g.same s (declareBarge p hull light cargo bow s).1 := by
  unfold declareBarge
  split
  · exact g.same_refl s
  · dsimp only
    exact (same_addBarge hg p hull light cargo bow s).trans (same_finish g _)

theorem same_removeBarge {g : Figure} (hc : g ≠ .couplings) (hb : g ≠ .barges) (p : Pos) (s : State) :
    g.same s (removeBarge p s).1 := by
  unfold removeBarge
  repeat' split
  · exact g.same_refl s
  · exact g.same_refl s
  · exact g.same_refl s
  · dsimp only
    exact (same_breakaway hc hb p s).trans (same_finish g _)
  · exact g.same_refl s
  · dsimp only
    exact (same_removeRecord hc hb p _ s).trans (same_finish g _)

theorem same_declareCoupling {g : Figure} (hg : g ≠ .couplings) (n : Nat) (a b : CouplingEnd)
    (serial channel winchEnd cls : Nat) (s : State) : g.same s (declareCoupling n a b serial channel winchEnd cls s).1 := by
  unfold declareCoupling
  repeat' split
  · exact g.same_refl s
  · exact g.same_refl s
  · exact g.same_refl s
  · dsimp only
    exact (same_addCoupling hg n a _ serial channel winchEnd cls s).trans (same_finish g _)

theorem same_withdrawCoupling {g : Figure} (hg : g ≠ .couplings) (n : Nat) (s : State) : g.same s (withdrawCoupling n s).1 := by
  unfold withdrawCoupling
  repeat' split
  · exact g.same_refl s
  · exact g.same_refl s
  · exact g.same_refl s
  · dsimp only
    exact ((same_notice g s).giveDepartures _
      ((same_dropCoupling hg _ s).trans (same_onSettling g _ _))).trans (same_finish g _)

theorem same_restart (g : Figure) (s : State) : g.same s (restart s).1 := by
  have hw : g.same s (startWrite s) := (kept_startWrite (.refl s)).figures (by simp) (by simp) g
  unfold restart
  repeat' split
  · exact g.same_refl s
  · exact hw.trans (same_onCtl g _ rfl)
  · exact same_onCtl g s rfl

theorem abortOrder_fuel (n : Nat) (s : State) : (abortOrder n s).1.fuel = s.fuel := by
  unfold abortOrder
  repeat' split
  all_goals simp

theorem closeLegRequest_fuel (n : Nat) (s : State) : (closeLegRequest n s).1.fuel = s.fuel := by
  unfold closeLegRequest
  repeat' split
  all_goals simp

theorem releaseLeg_fuel (n : Nat) (s : State) : (releaseLeg n s).1.fuel = s.fuel := by
  unfold releaseLeg
  split
  · rfl
  · dsimp only
    repeat' split
    all_goals simp

/-- A request leaves every figure it does not write. -/
theorem owner_figure {c : Instr} {o : State → State × Answer} (h : ownerOf c = some o) {g : Figure}
    (hw : g.writtenBy c = false) (s : State) : g.same s (o s).1 := by
  have other {f : Figure} {c : Instr} (hf : f.writtenBy c = true) (hg : g.writtenBy c = false) : g ≠ f := by
    rintro rfl
    exact absurd hf (by simp [hg])
  cases c <;> cases h
  case setLever.refl v =>
    unfold setLever
    split
    · exact g.same_refl s
    · dsimp only
      exact (same_takeLever (other rfl hw) v s).trans (same_finish g _)
  case setHelm.refl v =>
    unfold setHelm
    split
    · exact g.same_refl s
    · exact (same_setHelmTo (other rfl hw) _ s).trans
        ((kept_endSilence (kept_restartSilence (.refl _))).figures (by simp) (by simp) g)
  case setSteerMode.refl m => exact same_setSteerMode (other rfl hw) m s
  case setSync.refl v => exact same_setSync (other rfl hw) v s
  case declareBarge.refl p hull light cargo bow => exact same_declareBarge (other rfl hw) p hull light cargo bow s
  case removeBarge.refl p => exact same_removeBarge (other (c := .removeBarge p) rfl hw) (other (c := .removeBarge p) rfl hw) p s
  case declareCoupling.refl n a b serial channel w cls => exact same_declareCoupling (other rfl hw) n a b serial channel w cls s
  case withdrawCoupling.refl n => exact same_withdrawCoupling (other rfl hw) n s
  case readBarge.refl p => exact same_readBarge g p s
  case readCoupling.refl n =>
    unfold readCoupling
    split
    · exact g.same_refl s
    · exact (kept_onCoupling (f := Coupling.read) (fun _ => rfl) (.refl s)).figures rfl rfl g
  case readNode.refl n =>
    unfold readNode
    split
    · exact g.same_refl s
    · exact (same_notice g s).node n Node.read (fun _ => rfl) (g.same_refl s)
  case forgetNode.refl n =>
    unfold forgetNode
    repeat' split
    · exact g.same_refl s
    · dsimp only
      exact ((same_line (other rfl hw) s).removeNode n (g.same_refl s)).trans (same_finish g _)
    · exact g.same_refl s
  case postOrder.refl n x => exact same_postOrder (other rfl hw) n x s
  case abortOrder.refl n => exact (kept_abortOrder (.refl s)).figures (abortOrder_fuel n s) (owner_line (c := .abortOrder n) rfl rfl s) g
  case setSounding.refl n q => exact same_setSounding (other rfl hw) n q s
  case closeLeg.refl n =>
    exact (kept_closeLegRequest (.refl s)).figures (closeLegRequest_fuel n s) (owner_line (c := .closeLeg n) rfl rfl s) g
  case releaseLeg.refl n => exact (kept_releaseLeg (.refl s)).figures (releaseLeg_fuel n s) (owner_line (c := .releaseLeg n) rfl rfl s) g
  case setVoyageClock.refl v => exact same_withClock (other rfl hw) s _
  case writeSetting.refl a b c v =>
    exact same_writeSetting (other (c := .writeSetting a b c v) rfl hw) (other (c := .writeSetting a b c v) rfl hw)
      (other (c := .writeSetting a b c v) rfl hw) a b c v s
  case restart.refl => exact same_restart g s
  case setEngineModes.refl k a b c d =>
    unfold setEngineModes
    split
    · exact g.same_refl s
    · exact (kept_applyMode (kept_applyMode (kept_applyMode (kept_applyMode (.refl s))))).figures (by simp) (by simp) g
  case saveSettings.refl c =>
    unfold saveSettings
    repeat' split
    · exact g.same_refl s
    · exact g.same_refl s
    · exact (kept_report (.refl s)).figures (by simp) (by simp) g
    · exact same_onStore s (fun _ => rfl) (fun _ => rfl) fun _ => rfl
  case readStatus.refl n =>
    have hc : g.same s (clearFlags s) := same_onPort s (fun _ => rfl) fun _ => rfl
    unfold readStatus
    repeat' split
    · exact g.same_refl s
    · exact hc
    · exact hc
    · exact g.same_refl s
  case fetchReports.refl n =>
    unfold fetchReports
    split
    · exact same_onPort s (fun _ => rfl) fun _ => rfl
    · exact g.same_refl s
  all_goals
    simp only [echo, readPropulsion, readEngine, readSteering, listMakeup, listNodes, listOrders, readTank, readMeters, readLeg,
      readSetting]
    repeat' split
  all_goals exact Kept.figures {} rfl rfl g

/-! #### Events -/

theorem same_dropReceiving (g : Figure) (s : State) : g.same s (dropReceiving s) := by
  unfold dropReceiving
  split
  · exact g.same_refl s
  · exact same_onPort s (fun _ => rfl) fun _ => rfl

theorem same_saveComplete {g : Figure} (hu : g ≠ .unsaved) (hi : g ≠ .image) (x : PerSection Bool) (s : State) :
    g.same s (saveComplete x s) := by
  unfold saveComplete
  split
  · exact g.same_refl s
  · next j _ =>
    have hs : g.same s (forAll Sec.all (saveSection j x) s) := forAll_induct _ _ s
      (fun c _ u hu' => hu'.trans (same_onStore u (fun _ => rfl) (fun he => absurd he hu) fun he => absurd he hi))
      (g.same_refl s)
    exact (hs.trans (same_onStore _ (fun _ => rfl) (fun _ => rfl) fun _ => rfl)).trans
      ((kept_report (.refl _)).figures (by simp) (by simp) g)

/-- R190: a completed write writes the checkpoint alone. -/
theorem same_checkpointWriteComplete {g : Figure} (hg : g ≠ .checkpoint) (s : State) : g.same s (checkpointWriteComplete s) := by
  have hw (u : State) : g.same u (startWrite u) := (kept_startWrite (.refl u)).figures (by simp) (by simp) g
  have hd (u : State) (f : Checkpoint → Checkpoint) : g.same u (u.onCkpt f) := by
    cases g
    case checkpoint => exact absurd rfl hg
    all_goals simp [Figure.same]
  unfold checkpointWriteComplete
  split
  · exact g.same_refl s
  · dsimp only
    split
    · exact (hd s _).trans ((hd _ _).trans ((hw _).trans (same_onCtl g _ rfl)))
    · exact (hd s _).trans (same_onCtl g _ rfl)
    · unfold startDue
      split
      · exact (hd s _).trans ((hd _ _).trans (hw _))
      · exact hd s _
    · exact hd s _

theorem same_meterPulse {g : Figure} (hg : g ≠ .meters) (m : Fin 10) (s : State) : g.same s (meterPulse m s) := by
  cases g
  case meters => exact absurd rfl hg
  all_goals simp [Figure.same, meterPulse, State.onMeter, State.onFuel]

theorem same_bargeReplyStart (g : Figure) (s : State) : g.same s (bargeReplyStart s) := by
  unfold bargeReplyStart
  split
  · exact same_onLine g s fun _ => rfl
  all_goals exact g.same_refl s

/-- An event leaves every figure it does not write. -/
theorem event_figure {c : Instr} {f : State → State} (h : eventOf c = some f) {g : Figure} (hw : g.writtenBy c = false)
    (s : State) : g.same s (f s) := by
  have other {f : Figure} {c : Instr} (hf : f.writtenBy c = true) (hg : g.writtenBy c = false) : g ≠ f := by
    rintro rfl
    exact absurd hf (by simp [hg])
  have ended {u : State} (hu : g.same s u) : g.same s (finish u) := hu.trans (same_finish g u)
  cases c <;> simp only [eventOf, reduceCtorEq, Option.some.injEq] at h <;> subst h
  case bridgeByteGap => exact same_dropReceiving g s
  case bridgeByteFault => exact same_dropReceiving g s
  case saveComplete x => exact same_saveComplete (other (c := .saveComplete x) rfl hw) (other (c := .saveComplete x) rfl hw) x s
  case checkpointPeriodExpiry => exact (kept_checkpointPeriodExpiry (.refl s)).figures (by simp) (by simp) g
  case checkpointWriteComplete => exact same_checkpointWriteComplete (other rfl hw) s
  case controlPeriodExpiry b x y =>
    exact same_controlPeriodExpiry (other (c := .controlPeriodExpiry b x y) rfl hw)
      (other (c := .controlPeriodExpiry b x y) rfl hw) (other (c := .controlPeriodExpiry b x y) rfl hw) b x y s
  case silenceLimitExpiry =>
    exact ended (same_silenceLimitExpiry (other (c := .silenceLimitExpiry) rfl hw) (other (c := .silenceLimitExpiry) rfl hw) s)
  case holdTimeExpiry =>
    exact ended (same_holdTimeExpiry (other (c := .holdTimeExpiry) rfl hw) (other (c := .holdTimeExpiry) rfl hw) s)
  case syncPeriodExpiry => exact (kept_syncPeriodExpiry (.refl s)).figures (by simp) (by simp) g
  case governorPeriodEnd e => exact (kept_governorPeriodEnd (.refl s)).figures (by simp) (by simp) g
  case shaftPulse e b => exact (kept_shaftPulse (.refl s)).figures (by simp) (by simp) g
  case shaftWindowExpiry e => exact (kept_shaftWindow (.refl s)).figures (by simp) (by simp) g
  case inputFilterExpiry e i => exact (kept_inputFilterExpiry (.refl s)).figures (by simp) (by simp) g
  case engageConfirmExpiry e => exact (kept_engageConfirmExpiry (.refl s)).figures (by simp) (by simp) g
  case neutralDwellExpiry e => exact (kept_neutralDwellExpiry (.refl s)).figures (by simp) (by simp) g
  case dwellTimeoutExpiry e => exact (kept_dwellTimeoutExpiry (.refl s)).figures (by simp) (by simp) g
  case wrongWayExpiry e => exact (kept_wrongWayExpiry (.refl s)).figures (by simp) (by simp) g
  case followExpiry e => exact (kept_followExpiry (.refl s)).figures (by simp) (by simp) g
  case steeringControlPeriod v => exact (kept_steeringControlPeriod (.refl s)).figures (by simp) (by simp) g
  case turnaroundExpiry => exact keeps_ite (P := g.same s) (same_startNext g s) (g.same_refl s)
  case masterFrameSent => exact ended ((same_line (other rfl hw) s).masterFrameSent (g.same_refl s))
  case echoFailure => exact ended ((same_line (other rfl hw) s).echoFailure (g.same_refl s))
  case faultRecoveryExpiry => exact keeps_ite (P := g.same s) (same_onLine g s fun _ => rfl) (g.same_refl s)
  case downRetryExpiry => exact keeps_ite (P := g.same s) (same_onLine g s fun _ => rfl) (g.same_refl s)
  case rejoinTimerExpiry n => exact ended (same_rejoinTimerExpiry g n s)
  case replyWindowExpiry => exact same_replyWindowExpiry (other rfl hw) s
  case bargeFrameReceived l b => exact ended ((same_line (other rfl hw) s).bargeFrameReceived l b (g.same_refl s))
  case bargeFrameSilence => exact ended ((same_line (other rfl hw) s).bargeFrameSilence (g.same_refl s))
  case haulTimerExpiry n => exact ended ((kept_haulTimerExpiry (.refl s)).figures (by simp) (by simp) g)
  case releaseTimerExpiry n => exact ended ((kept_releaseTimerExpiry (.refl s)).figures (by simp) (by simp) g)
  case releaseWaitExpiry n => exact ended ((kept_releaseWaitExpiry (.refl s)).figures (by simp) (by simp) g)
  case meterPulse m => exact same_meterPulse (other rfl hw) m s
  case accountingIntervalExpiry v =>
    have ht : g ≠ .tanks := other (c := .accountingIntervalExpiry v) rfl hw
    have hm : g ≠ .meters := other (c := .accountingIntervalExpiry v) rfl hw
    exact (kept_accountingInterval (.refl s)).figure (fun he => absurd he (by simp [ht, hm])) fun _ => by simp
  case logPulse => exact (kept_logPulse (.refl s)).figures rfl rfl g
  case bargeReplyStart => exact same_bargeReplyStart g s

/-! #### Commands -/

/-- The commands that may run any request, and those that set every figure. -/
def runsAny : Instr → Bool
  | .bridgeFrameReceived _ | .replySent | .start _ => true
  | _ => false

theorem same_restartRequest {g : Figure} (hg : g ≠ .inHand) (s : State) : g.same s (restartRequest s).1 := by
  unfold restartRequest
  dsimp only
  split
  · exact (same_restart g s).trans (same_onPort _ (fun he => absurd he hg) fun _ => rfl)
  · exact same_restart g s

/-- A command leaves every figure it does not write. -/
theorem exec_figure {c : Instr} {g : Figure} (ht : exec c s = .next t) (hr : runsAny c = false)
    (hw : g.writtenBy c = false) : g.same s t := by
  have up {f : State → State} (hf : ∀ u, g.same u (f u)) (he : whenUp s f = .next t) : g.same s t :=
    Host.Outcome.next.inj he ▸ keeps_ite (P := g.same s) (hf s) (g.same_refl s)
  have answered {o : State → State × Answer} (ho : ∀ u, g.same u (o u).1) (he : answerRequest s o = .next t) : g.same s t :=
    up (fun u => (ho u).trans (same_onPort _ (fun _ => rfl) fun _ => rfl)) he
  cases ho : ownerOf c with
  | some o =>
    by_cases hc : c = .restart
    · subst hc
      exact answered (same_restartRequest (by rintro rfl; cases hw)) ht
    · exact answered (owner_figure ho hw) (exec_of_owner ho hc s ▸ ht)
  | none =>
    cases he : eventOf c with
    | some f => exact up (event_figure he hw) (exec_of_event he s ▸ ht)
    | none =>
      cases c <;> first | cases ho; done | cases he; done | cases hr; done | skip
      case voyageClockTick => exact Host.Outcome.next.inj ht ▸ same_withClock (by rintro rfl; cases hw) s _
      case engineInputChange e i b =>
        exact Host.Outcome.next.inj ht ▸ (kept_engineInputChange (.refl s)).figures (by simp) (by simp) g
      case resetLineAsserted => exact Host.Outcome.next.inj ht ▸ (same_onCtl g s rfl).trans (same_onCtl g _ rfl)
      case resetLineReleased => exact Host.Outcome.next.inj ht ▸ same_onCtl g s rfl
      case powerOn => exact Host.Outcome.next.inj ht ▸ same_onCtl g s rfl
      case supplyDip => exact Host.Outcome.next.inj ht ▸ same_onCtl g s rfl

end Sys2Proof.Machine
end

section
/-! ### Commands that leave the tables, the orders and the legs as they stand -/

namespace Sys2Proof.Machine

variable {s t u : State}

/-- The two tables of the tow, the Node Table, the legs and the Order Table are as they were. -/
structure Still (s t : State) : Prop where
  barges : t.sup.barges = s.sup.barges := by simp
  couplings : t.sup.couplings = s.sup.couplings := by simp
  nodes : t.line.nodes = s.line.nodes := by simp
  legs : t.legs = s.legs := by simp
  orders : t.orders = s.orders := by simp

theorem Still.refl (s : State) : Still s s where

theorem Still.trans (h : Still s t) (h' : Still t u) : Still s u where
  barges := h'.barges.trans h.barges
  couplings := h'.couplings.trans h.couplings
  nodes := h'.nodes.trans h.nodes
  legs := h'.legs.trans h.legs
  orders := h'.orders.trans h.orders

theorem still_writeAsked (s : State) : Still s (writeAsked s) where

/-- Log entry 8: with no analysis and no re-test due, the end of a command can only start a checkpoint write. -/
theorem finish_eq_writeAsked (ha : s.settling.analysis = false) (hr : s.settling.retest = false) : finish s = writeAsked s := by
  simp [finish, settle_quiet s ha hr]

theorem still_finish (ha : s.settling.analysis = false) (hr : s.settling.retest = false) : Still s (finish s) :=
  finish_eq_writeAsked ha hr ▸ still_writeAsked s

/-- The commands that name a table, an order or a leg, and those that end in the holding analysis or the re-test. -/
def movesTables : Instr → Bool
  | .setLever _ | .controlPeriodExpiry _ _ _ | .silenceLimitExpiry | .holdTimeExpiry | .setSounding _ _ | .writeSetting _ _ _ _
  | .accountingIntervalExpiry _ | .postOrder _ _ | .abortOrder _ | .haulTimerExpiry _ | .releaseTimerExpiry _
  | .releaseWaitExpiry _ | .declareBarge _ _ _ _ _ | .removeBarge _ | .declareCoupling _ _ _ _ _ _ _ | .withdrawCoupling _
  | .masterFrameSent | .echoFailure | .rejoinTimerExpiry _ | .replyWindowExpiry | .bargeFrameReceived _ _ | .bargeFrameSilence
  | .readBarge _ | .readCoupling _ | .readNode _ | .forgetNode _ | .closeLeg _ | .releaseLeg _ | .logPulse => true
  | _ => false

theorem owner_still {c : Instr} {o : State → State × Answer} (h : ownerOf c = some o) (hc : movesTables c = false) (s : State) :
    Still s (o s).1 := by
  cases c <;> cases h <;> first | cases hc; done | skip
  all_goals
    simp only [echo, readStatus, fetchReports, restart, setHelm, setSteerMode, setEngineModes, setSync, readPropulsion,
      readEngine, readSteering, listMakeup, listNodes, listOrders, readTank, readMeters, readLeg, setVoyageClock, readSetting,
      saveSettings]
    repeat' split
  all_goals
    constructor <;> simp [clearTrims]

theorem event_still {c : Instr} {f : State → State} (h : eventOf c = some f) (hc : movesTables c = false) (hq : s.quiet) :
    Still s (f s) := by
  cases c <;> simp only [eventOf, reduceCtorEq, Option.some.injEq] at h <;> subst h <;> first | cases hc; done | skip
  case checkpointPeriodExpiry =>
    unfold checkpointPeriodExpiry
    exact Still.trans {} (still_finish (s := askCheckpoint s) (congrArg Settling.analysis hq) (congrArg Settling.retest hq))
  case turnaroundExpiry =>
    exact keeps_ite (P := Still s) { nodes := startNext_nodes s } (.refl s)
  case faultRecoveryExpiry => exact keeps_ite (P := Still s) { nodes := rfl } (.refl s)
  case downRetryExpiry => exact keeps_ite (P := Still s) { nodes := rfl } (.refl s)
  case bargeReplyStart =>
    unfold bargeReplyStart
    split
    · exact {}
    all_goals exact .refl s
  all_goals constructor <;> simp

/-- The state an owner's handling ends in, in which only the answer is still to be put. -/
theorem exec_owner_cases {c : Instr} {o : State → State × Answer} (ho : ownerOf c = some o) (hc : c ≠ .restart)
    (ht : exec c s = .next t) : t = s ∨ ∃ a, t = (o s).1.answered a := by
  rw [exec_of_owner ho hc] at ht
  obtain rfl := Host.Outcome.next.inj ht
  split
  · exact .inr ⟨_, rfl⟩
  · exact .inl rfl

/-- What holds of a state, of what the owner makes of it, and does not turn on the answer, holds at the end. -/
theorem exec_owner_keeps {P : State → Prop} {c : Instr} {o : State → State × Answer} (ho : ownerOf c = some o)
    (hc : c ≠ .restart) (ha : ∀ u a, P u → P (u.answered a)) (hs : P s) (hp : P (o s).1) (ht : exec c s = .next t) : P t := by
  rcases exec_owner_cases ho hc ht with rfl | ⟨a, rfl⟩
  · exact hs
  · exact ha _ a hp

theorem exec_event_keeps {P : State → Prop} {c : Instr} {f : State → State} (hf : eventOf c = some f) (hs : P s) (hp : P (f s))
    (ht : exec c s = .next t) : P t := by
  rw [exec_of_event hf] at ht
  obtain rfl := Host.Outcome.next.inj ht
  exact keeps_ite hp hs

theorem still_answered (s : State) (a : Answer) : Still s (s.answered a) := ⟨rfl, rfl, rfl, rfl, rfl⟩

theorem still_restartRequest (s : State) : Still s (restartRequest s).1 := by
  have hr : Still s (restart s).1 := owner_still (c := .restart) rfl rfl s
  unfold restartRequest
  dsimp only
  split
  · exact hr.trans {}
  · exact hr

/-- A command that names no table, order or leg leaves them, with nothing left to settle. -/
theorem exec_still {c : Instr} (ht : exec c s = .next t) (hr : runsAny c = false) (hm : movesTables c = false) (hq : s.quiet) :
    Still s t := by
  cases ho : ownerOf c with
  | some o =>
    by_cases hc : c = .restart
    · subst hc
      obtain rfl := Host.Outcome.next.inj ht
      exact keeps_ite (P := Still s) ((still_restartRequest s).trans {}) (.refl s)
    · exact exec_owner_keeps ho hc (fun u a h => h.trans (still_answered u a)) (.refl s) (owner_still ho hm s) ht
  | none =>
    cases he : eventOf c with
    | some f => exact exec_event_keeps he (.refl s) (event_still he hm hq) ht
    | none =>
      cases c <;> first | cases ho; done | cases he; done | cases hr; done | skip
      all_goals
        obtain rfl := Host.Outcome.next.inj ht
        constructor <;> rfl

/-- R61, R185, R157 and their kind: a command that does not act on the master leaves it. -/
theorem exec_line {c : Instr} (ht : exec c s = .next t) (hr : runsAny c = false) (hl : actsOnLine c = false) :
    t.line = s.line := by
  cases ho : ownerOf c with
  | some o =>
    by_cases hc : c = .restart
    · subst hc
      obtain rfl := Host.Outcome.next.inj ht
      refine keeps_ite (P := fun u => u.line = s.line) ?_ rfl
      have hres : (restart s).1.line = s.line := owner_line (c := .restart) rfl rfl s
      unfold restartRequest
      dsimp only
      split <;> exact hres
    · exact exec_owner_keeps (P := fun u => u.line = s.line) ho hc (fun _ _ h => h) rfl (owner_line ho hl s) ht
  | none =>
    cases he : eventOf c with
    | some f => exact exec_event_keeps (P := fun u => u.line = s.line) he rfl (event_line he hl s) ht
    | none =>
      cases c <;> first | cases ho; done | cases he; done | cases hr; done | skip
      all_goals exact Host.Outcome.next.inj ht ▸ (by simp)

/-! #### The reads that touch a mark, and the commands that name a leg -/

/-- R10: READ_BARGE touches the Makeup Table alone. -/
theorem exec_readBarge_still {p : Pos} (ht : exec (.readBarge p) s = .next t) :
    t.sup.couplings = s.sup.couplings ∧ t.line.nodes = s.line.nodes ∧ t.legs = s.legs ∧ t.orders = s.orders := by
  refine exec_owner_keeps (P := fun u => u.sup.couplings = s.sup.couplings ∧ u.line.nodes = s.line.nodes ∧ u.legs = s.legs ∧
    u.orders = s.orders) (c := .readBarge p) rfl (by simp) (fun _ _ h => h) ⟨rfl, rfl, rfl, rfl⟩ ?_ ht
  unfold readBarge
  repeat' split
  all_goals exact ⟨rfl, rfl, rfl, rfl⟩

theorem exec_readCoupling_still {n : Nat} (ht : exec (.readCoupling n) s = .next t) :
    t.sup.barges = s.sup.barges ∧ t.line.nodes = s.line.nodes ∧ t.legs = s.legs ∧ t.orders = s.orders := by
  refine exec_owner_keeps (P := fun u => u.sup.barges = s.sup.barges ∧ u.line.nodes = s.line.nodes ∧ u.legs = s.legs ∧
    u.orders = s.orders) (c := .readCoupling n) rfl (by simp) (fun _ _ h => h) ⟨rfl, rfl, rfl, rfl⟩ ?_ ht
  unfold readCoupling
  split
  all_goals exact ⟨rfl, rfl, rfl, rfl⟩

/-- R53: READ_NODE touches the Node Table alone. -/
theorem exec_readNode_still {n : Nat} (ht : exec (.readNode n) s = .next t) :
    t.sup = s.sup ∧ t.legs = s.legs ∧ t.orders = s.orders := by
  refine exec_owner_keeps (P := fun u => u.sup = s.sup ∧ u.legs = s.legs ∧ u.orders = s.orders) (c := .readNode n) rfl (by simp)
    (fun _ _ h => h) ⟨rfl, rfl, rfl⟩ ?_ ht
  unfold readNode
  split
  all_goals exact ⟨rfl, rfl, rfl⟩

theorem removeNode_still (n : Nat) (s : State) : (removeNode n s).sup = s.sup ∧ (removeNode n s).legs = s.legs ∧
    (removeNode n s).orders = s.orders ∧ (removeNode n s).settling = s.settling := by
  unfold removeNode nodeNotices supervisorNotice
  split <;> simp

theorem exec_forgetNode_still {n : Nat} (hq : s.quiet) (ht : exec (.forgetNode n) s = .next t) :
    t.sup = s.sup ∧ t.legs = s.legs ∧ t.orders = s.orders := by
  refine exec_owner_keeps (P := fun u => u.sup = s.sup ∧ u.legs = s.legs ∧ u.orders = s.orders) (c := .forgetNode n) rfl (by simp)
    (fun _ _ h => h) ⟨rfl, rfl, rfl⟩ ?_ ht
  obtain ⟨hsup, hlegs, horders, hset⟩ := removeNode_still n s
  have hr : (removeNode n s).quiet := hset.trans hq
  unfold forgetNode
  repeat' split
  · exact ⟨rfl, rfl, rfl⟩
  · rw [finish_eq_writeAsked (congrArg Settling.analysis hr) (congrArg Settling.retest hr)]
    simp [hsup, horders]
  · exact ⟨rfl, rfl, rfl⟩

/-- R151: CLOSE_LEG touches the legs alone. -/
theorem exec_closeLeg_still {n : Nat} (ht : exec (.closeLeg n) s = .next t) :
    t.sup = s.sup ∧ t.line.nodes = s.line.nodes ∧ t.orders = s.orders := by
  refine exec_owner_keeps (P := fun u => u.sup = s.sup ∧ u.line.nodes = s.line.nodes ∧ u.orders = s.orders) (c := .closeLeg n) rfl
    (by simp) (fun _ _ h => h) ⟨rfl, rfl, rfl⟩ ?_ ht
  unfold closeLegRequest
  repeat' split
  all_goals simp

theorem exec_releaseLeg_still {n : Nat} (ht : exec (.releaseLeg n) s = .next t) :
    t.sup = s.sup ∧ t.line.nodes = s.line.nodes ∧ t.orders = s.orders := by
  refine exec_owner_keeps (P := fun u => u.sup = s.sup ∧ u.line.nodes = s.line.nodes ∧ u.orders = s.orders) (c := .releaseLeg n)
    rfl (by simp) (fun _ _ h => h) ⟨rfl, rfl, rfl⟩ ?_ ht
  unfold releaseLeg
  split
  · exact ⟨rfl, rfl, rfl⟩
  · dsimp only
    repeat' split
    all_goals simp

/-- R147: a log pulse touches the open leg alone. -/
theorem exec_logPulse_still (ht : exec .logPulse s = .next t) :
    t.sup = s.sup ∧ t.line.nodes = s.line.nodes ∧ t.legs.log = s.legs.log ∧ t.orders = s.orders :=
  exec_event_keeps (P := fun u => u.sup = s.sup ∧ u.line.nodes = s.line.nodes ∧ u.legs.log = s.legs.log ∧ u.orders = s.orders)
    (c := .logPulse) rfl ⟨rfl, rfl, rfl, rfl⟩ ⟨rfl, rfl, rfl, rfl⟩ ht

/-- Settles O17: the first part figure by figure from `exec_figure`; the second from `exec_still`, but for the few commands that
touch one of the parts. -/
theorem eachFigureHasItsWriters : Obligations.EachFigureHasItsWriters := by
  unfold Obligations.EachFigureHasItsWriters
  refine ⟨fun c s t ht => ?_, fun c s t hq ht => ?_⟩
  · have f (g : Figure) (hw : g.writtenBy c = false) (hr : runsAny c = false) : g.same s t := exec_figure ht hr hw
    have tags (hw : Figure.orders.writtenBy c = false) (hr : runsAny c = false) :
        ∀ x ∈ t.liveOrders, ∃ y ∈ s.liveOrders, y.1 = x.1 ∧ y.2.tag = x.2.tag := fun x hx => by
      obtain ⟨o, ho, htag, -⟩ := f .orders hw hr x.1 x.2 (mem_liveOrders.1 hx)
      exact ⟨(x.1, o), mem_liveOrders.2 ho, rfl, htag.symm⟩
    cases c
    case bridgeFrameReceived => trivial
    case replySent => trivial
    case start => trivial
    all_goals
      exact ⟨by first | exact f .working rfl rfl | trivial,
        by first | exact f .unsaved rfl rfl | trivial,
        by first | exact f .image rfl rfl | trivial,
        by first | exact f .clock rfl rfl | trivial,
        by first | exact f .checkpoint rfl rfl | trivial,
        by first | exact f .inHand rfl rfl | trivial,
        f .buffer rfl rfl,
        f .cause rfl rfl,
        by first | exact f .lever rfl rfl | trivial,
        by first | exact f .helm rfl rfl | trivial,
        by first | exact f .mode rfl rfl | trivial,
        by first | exact f .sync rfl rfl | trivial,
        by first | exact f .source rfl rfl | trivial,
        by first | exact f .tanks rfl rfl | trivial,
        by first | exact f .meters rfl rfl | trivial,
        by first | exact f .barges rfl rfl | trivial,
        by first | exact f .couplings rfl rfl | trivial,
        by first | exact f .nodes rfl rfl | trivial,
        by first | exact tags rfl rfl | trivial⟩
  · have nodes (hr : runsAny c = false) (hl : actsOnLine c = false) : t.line.nodes = s.line.nodes :=
      congrArg Line.nodes (exec_line ht hr hl)
    have still (hr : runsAny c = false) (hm : movesTables c = false) :
        t.sup.barges = s.sup.barges ∧ t.sup.couplings = s.sup.couplings ∧ t.line.nodes = s.line.nodes ∧
          (t.legs.log = s.legs.log ∧ t.legs.current = s.legs.current) ∧ t.orders = s.orders := by
      have h := exec_still ht hr hm hq
      exact ⟨h.barges, h.couplings, h.nodes, ⟨by rw [h.legs], by rw [h.legs]⟩, h.orders⟩
    cases c
    case readBarge p =>
      obtain ⟨hc, hn, hl, ho⟩ := exec_readBarge_still ht
      exact ⟨trivial, hc, hn, ⟨by rw [hl], by rw [hl]⟩, ho⟩
    case readCoupling n =>
      obtain ⟨hb, hn, hl, ho⟩ := exec_readCoupling_still ht
      exact ⟨hb, trivial, hn, ⟨by rw [hl], by rw [hl]⟩, ho⟩
    case readNode n =>
      obtain ⟨hs, hl, ho⟩ := exec_readNode_still ht
      exact ⟨by rw [hs], by rw [hs], trivial, ⟨by rw [hl], by rw [hl]⟩, ho⟩
    case forgetNode n =>
      obtain ⟨hs, hl, ho⟩ := exec_forgetNode_still hq ht
      exact ⟨by rw [hs], by rw [hs], trivial, ⟨by rw [hl], by rw [hl]⟩, ho⟩
    case closeLeg n =>
      obtain ⟨hs, hn, ho⟩ := exec_closeLeg_still ht
      exact ⟨by rw [hs], by rw [hs], hn, trivial, ho⟩
    case releaseLeg n =>
      obtain ⟨hs, hn, ho⟩ := exec_releaseLeg_still ht
      exact ⟨by rw [hs], by rw [hs], hn, trivial, ho⟩
    case logPulse =>
      obtain ⟨hs, hn, hl, ho⟩ := exec_logPulse_still ht
      exact ⟨by rw [hs], by rw [hs], hn, ⟨hl, trivial⟩, ho⟩
    all_goals first | exact still rfl rfl | exact nodes rfl rfl | trivial

end Sys2Proof.Machine
end

section
/-! ### The end of a command, and the barges it leaves alone -/

namespace Sys2Proof.Machine

variable {s t u : State} {N : Nat → Prop} {P : State → Prop}

/-- What settling must keep: the starts of a re-test, and a run of the holding analysis. -/
structure SettleKeeps (N : Nat → Prop) (P : State → Prop) : Prop extends StartKeeps N P where
  due : ∀ {s} f, P s → P (s.onSettling f)
  analysed : ∀ {s}, P s → P (holdingAnalysis s)

namespace SettleKeeps

theorem settleOnce (k : SettleKeeps N P) (h : P s) : P (settleOnce s) := by
  unfold Machine.settleOnce
  repeat' split
  · exact k.analysed h
  · exact k.retestOrders (k.due _ h)
  · exact h

theorem settleFor (k : SettleKeeps N P) (n : Nat) (h : P s) : P (settleFor n s) := by
  induction n generalizing s with
  | zero => exact h
  | succ n ih => exact ih (k.settleOnce h)

theorem settle (k : SettleKeeps N P) (h : P s) : P (settle s) := k.settleFor 40 h

end SettleKeeps

theorem makeupChange_tables (s : State) : (makeupChange s).sup.barges = s.sup.barges ∧
    (makeupChange s).sup.couplings = s.sup.couplings := by
  simp [makeupChange, takeTonnage]

/-- R20: the makeup change leaves the tables as the barges that join left them. -/
theorem holdingAnalysis_barges (s : State) : (holdingAnalysis s).sup.barges = (joinedState s).sup.barges := by
  rw [(holdingAnalysis_sup s).1, changedState]
  split
  · exact (makeupChange_tables _).1
  · rfl

@[simp] theorem holdingAnalysis_couplings (s : State) : (holdingAnalysis s).sup.couplings = s.sup.couplings := by
  have hj : (joinedState s).sup.couplings = s.sup.couplings :=
    forAll_induct (P := fun u => u.sup.couplings = s.sup.couplings) _ _ _
      (fun p u _ hu => by simpa [setBargeState, State.onBarge] using hu) rfl
  rw [(holdingAnalysis_sup s).2.1, changedState]
  split
  · rw [(makeupChange_tables _).2, hj]
  · exact hj

/-! #### Chains -/

theorem mem_reachOne {l : List Pos} {c : Coupling} {p : Pos} (h : p ∈ reachOne l c) : p ∈ l ∨ c.endsAt p = true := by
  unfold reachOne at h
  split at h
  · rcases List.mem_insert_iff.1 h with rfl | h
    · exact .inr (by simp [Coupling.endsAt])
    · exact .inl h
  · next q hq =>
    repeat' split at h
    · rcases List.mem_insert_iff.1 h with rfl | h
      · exact .inr (by simp [Coupling.endsAt])
      · exact .inl h
    · rcases List.mem_insert_iff.1 h with rfl | h
      · exact .inr (by simp [Coupling.endsAt, hq])
      · exact .inl h
    · exact .inl h

/-- R19: a position that a chain reaches has a coupling of the chain at it. -/
theorem mem_reach {cs : List Coupling} {n : Nat} {p : Pos} (h : p ∈ reach cs n) : ∃ c ∈ cs, c.endsAt p = true := by
  have fold (l : List Coupling) (hl : ∀ c ∈ l, c ∈ cs) : ∀ r : List Pos, (∀ q ∈ r, q = p → ∃ c ∈ cs, c.endsAt p = true) →
      p ∈ l.foldl reachOne r → ∃ c ∈ cs, c.endsAt p = true := by
    induction l with
    | nil => exact fun r hr hp => hr p hp rfl
    | cons c l ih =>
      refine fun r hr hp => ih (fun d hd => hl d (List.mem_cons_of_mem _ hd)) _ ?_ hp
      rintro q hq rfl
      rcases mem_reachOne hq with hq | hc
      · exact hr q hq rfl
      · exact ⟨c, hl c List.mem_cons_self, hc⟩
  induction n with
  | zero => exact absurd h List.not_mem_nil
  | succ n ih => exact fold cs (fun _ hc => hc) (reach cs n) (fun q hq he => ih (he ▸ hq)) h

theorem mem_toPromote {p : Pos} (h : p ∈ s.toPromote) : ∃ c ∈ s.sup.couplings, c.endsAt p = true := by
  unfold State.toPromote at h
  obtain ⟨b, hb, rfl⟩ := List.mem_map.1 h
  have hc := (List.mem_filter.1 hb).2
  simp only [Bool.and_eq_true, List.contains_iff_mem] at hc
  obtain ⟨c, hm, he⟩ := mem_reach hc.2
  exact ⟨c, List.mem_of_mem_filter hm, he⟩

/-! #### A barge that nothing is coupled to -/

/-- Corresponding couplings end at the same positions. -/
theorem Kept.endsAt (h : Kept s t) {p : Pos} {c : Coupling} (hc : c ∈ t.sup.couplings) :
    ∃ d ∈ s.sup.couplings, d.declared = c.declared ∧ d.endsAt p = c.endsAt p := by
  have hm : c.declared ∈ s.sup.couplings.map Coupling.declared := h.couplings ▸ List.mem_map_of_mem hc
  obtain ⟨d, hd, he⟩ := List.mem_map.1 hm
  refine ⟨d, hd, he, ?_⟩
  simp only [Coupling.declared, Prod.mk.injEq] at he
  obtain ⟨-, ha, hb, -⟩ := he
  simp [Coupling.endsAt, ha, hb]

/-- The barges at a position are in a state. -/
def State.bargesIn (t : State) (p : Pos) (st : BargeState) : Prop := ∀ b ∈ t.sup.barges, b.pos = p → b.state = st

section
variable {p : Pos} {st : BargeState}

theorem bargesIn_of_barges (hb : t.sup.barges = s.sup.barges) (h : s.bargesIn p st) : t.bargesIn p st := by
  unfold State.bargesIn
  rwa [hb]

theorem bargesIn_onBarge {q : Pos} {f : Barge → Barge} (hq : q ≠ p) (hf : ∀ b, (f b).pos = b.pos) (h : s.bargesIn p st) :
    (s.onBarge q f).bargesIn p st := by
  intro b hb hp
  simp only [State.onBarge, onSup_sup, List.mem_map] at hb
  obtain ⟨d, hd, rfl⟩ := hb
  split at hp
  · next hdq => exact absurd ((hdq.symm.trans (hf d).symm).trans hp) hq
  · next hdq =>
    rw [if_neg hdq]
    exact h d hd hp

theorem bargesIn_setBargeState {q : Pos} (x : BargeState) (hq : q ≠ p) (h : s.bargesIn p st) :
    (setBargeState q x s).bargesIn p st :=
  bargesIn_of_barges (s := s.onBarge q fun b => { b with state := x, changed := true }) (by simp [setBargeState])
    (bargesIn_onBarge hq (fun _ => rfl) h)

/-- R20: the analysis changes the state of no barge but those it promotes. -/
theorem holdingAnalysis_bargesIn (hp : p ∉ s.toPromote) (h : s.bargesIn p st) : (holdingAnalysis s).bargesIn p st := by
  refine bargesIn_of_barges (holdingAnalysis_barges s) (forAll_induct (P := fun u => u.bargesIn p st) _ _ _ (fun q hq u hu => ?_) ?_)
  · exact bargesIn_setBargeState _ (fun he => hp (he ▸ hq)) hu
  · intro b hb hpos
    obtain ⟨d, hd, rfl⟩ := List.mem_map.1 (hb : b ∈ s.sup.barges.map _)
    exact h d hd hpos

/-- R20: only EXPECTED barges are promoted. -/
theorem not_toPromote_of_bargesIn (hst : st ≠ .expected) (h : s.bargesIn p st) : p ∉ s.toPromote := fun hp => by
  obtain ⟨b, hb, hpos⟩ := List.mem_map.1 hp
  obtain ⟨hm, hb⟩ := List.mem_filter.1 hb
  simp only [Bool.and_eq_true, beq_iff_eq] at hb
  exact hst ((h b hm hpos).symm.trans hb.1)

/-- R20: no barge is promoted that no coupling ends at. -/
theorem not_toPromote_of_uncoupled (hc : ∀ c ∈ s.sup.couplings, c.endsAt p = false) (h : Kept s t) : p ∉ t.toPromote := fun hp => by
  obtain ⟨c, hm, he⟩ := mem_toPromote hp
  obtain ⟨d, hd, -, hde⟩ := h.endsAt (p := p) hm
  simp [← hde, hc d hd] at he

/-- A state of the same records, in which the barges at a position are in a state. -/
def keptBarges (p : Pos) (st : BargeState) (s t : State) : Prop := Kept s t ∧ t.bargesIn p st

theorem keptBarges.after (h : keptBarges p st s t) (hu : Kept s u) (hb : u.sup.barges = t.sup.barges) : keptBarges p st s u :=
  ⟨hu, bargesIn_of_barges hb h.2⟩

theorem notice_keptBarges (p : Pos) (st : BargeState) (s : State) : NoticeKeeps (keptBarges p st s) where
  report _ _ _ h := h.after (kept_report h.1) (by simp)
  node _ _ _ h := h.after (kept_onLine h.1) rfl
  bow _ _ h := h.after (kept_onBow h.1) rfl
  freed _ h := h.after (kept_freeSlot h.1) rfl
  requeued i o st ho hw h := h.after ((kept_notice s).requeued i o st ho hw h.1) rfl
  started i o ho hw h := h.after ((kept_notice s).started i o ho hw h.1) rfl
  command _ _ _ h := h.after (kept_setCommand h.1) rfl
  coupling _ _ _ _ h := h.after (kept_setCouplingState h.1) (setCouplingState_tonnage _ _ _).1

/-- Where they are not promoted, settling leaves the barges at a position in their state. -/
theorem settle_keptBarges (hp : ∀ u, keptBarges p st s u → p ∉ u.toPromote) : SettleKeeps (fun _ => True) (keptBarges p st s) where
  toStartKeeps := (notice_keptBarges p st s).toStartKeeps
  due _ h := h.after (kept_onSettling h.1) rfl
  analysed h := ⟨kept_holdingAnalysis h.1, holdingAnalysis_bargesIn (hp _ h) h.2⟩

theorem finish_keptBarges (hp : ∀ u, keptBarges p st s u → p ∉ u.toPromote) (h : keptBarges p st s t) :
    keptBarges p st s (finish t) := by
  have hs := (settle_keptBarges hp).settle h
  exact hs.after (kept_writeAsked hs.1) (by simp [finish])

end

/-! ### R4: DECLARE_BARGE -/

theorem bargeMisplaced_iff (p : Pos) (light cargo : Nat) : (!Pos.inGrid p) = true ∨ 2000 < light ∨ 6000 < cargo ↔
    p.col < 1 ∨ 5 < p.col ∨ p.row < 1 ∨ 6 < p.row ∨ 2000 < light ∨ 6000 < cargo := by
  rw [Bool.not_eq_true', ← Bool.not_eq_true, inGrid_iff]
  omega

theorem barge?_isSome {p : Pos} : (s.barge? p).isSome = true ↔ ∃ x ∈ s.sup.barges, x.pos = p := by
  simp [State.barge?]

theorem bargeDuplicate_iff {hull : Nat} {bow : Option Nat} :
    (s.sup.barges.any (·.hull == hull) || bow.any s.serialTaken) = true ↔ (∃ x ∈ s.sup.barges, x.hull = hull) ∨
      ∃ n, bow = some n ∧ ((∃ x ∈ s.sup.barges, x.bow = some n) ∨ ∃ c ∈ s.sup.couplings, c.serial = n) := by
  cases bow <;> simp [State.serialTaken]

/-- R4: the record that an accepted declaration makes. -/
def newBarge (p : Pos) (hull light cargo : Nat) (bow : Option Nat) : Barge := ⟨p, hull, light, cargo, bow, .expected, true, false⟩

/-- R4: the state with the record in its place. -/
def State.withBarge (s : State) (b : Barge) : State := s.onSup fun u => { u with barges := insertBarge b u.barges }

/-- R4: what the steps after the record's own make of it. -/
theorem addBarge_keeps {p : Pos} {hull light cargo : Nat} {bow : Option Nat} (k : NoticeKeeps P)
    (hbow : ∀ {u} v, P u → P (addBow v u)) (hdue : ∀ {u} f, P u → P (u.onSettling f))
    (h : P (s.withBarge (newBarge p hull light cargo bow))) : P (addBarge p hull light cargo bow s) := by
  have hr : P (askCheckpoint (bargeReport p (s.withBarge (newBarge p hull light cargo bow)))) := hdue _ (k.report _ _ _ h)
  have hd : P (dueAnalysis (claimBow p bow (askCheckpoint (bargeReport p (s.withBarge (newBarge p hull light cargo bow)))))) →
      P (addBarge p hull light cargo bow s) := id
  refine hd (hdue _ ?_)
  unfold claimBow
  split
  · exact k.newClaim _ (hbow _ hr)
  · exact hr

theorem forall₂_mem {α : Type} {R : α → α → Prop} {l m : List α} (h : List.Forall₂ R l m) {a : α} (ha : a ∈ l) :
    ∃ b ∈ m, R a b := by
  induction h with
  | nil => exact absurd ha List.not_mem_nil
  | cons hab _ ih =>
    rcases List.mem_cons.1 ha with rfl | ha
    · exact ⟨_, List.mem_cons_self, hab⟩
    · obtain ⟨b, hb, hr⟩ := ih ha
      exact ⟨b, List.mem_cons_of_mem _ hb, hr⟩

/-- R4: an accepted declaration, at the end of its command. -/
theorem declared_keptBarges {p : Pos} {hull light cargo : Nat} {bow : Option Nat} (hp : ∀ x ∈ s.sup.barges, x.pos ≠ p)
    (hc : ∀ c ∈ s.sup.couplings, c.endsAt p = false) :
    keptBarges p .expected (s.withBarge (newBarge p hull light cargo bow)) (finish (addBarge p hull light cargo bow s)) := by
  refine finish_keptBarges (fun u hu => not_toPromote_of_uncoupled (s := s.withBarge _) hc hu.1)
    (addBarge_keeps (notice_keptBarges p _ _) (fun v h => ⟨kept_addBow h.1, h.2⟩)
    (fun f h => ⟨kept_onSettling h.1, h.2⟩) ⟨.refl _, fun b hb hbp => ?_⟩)
  rcases List.mem_cons.1 ((insertBarge_perm _ _).mem_iff.1 hb) with rfl | hb
  · rfl
  · exact absurd hbp (hp b hb)

theorem declared_kept (p : Pos) (hull light cargo : Nat) (bow : Option Nat) (s : State) :
    Kept (s.withBarge (newBarge p hull light cargo bow)) (finish (addBarge p hull light cargo bow s)) :=
  kept_finish (addBarge_keeps (kept_notice _) (fun _ => kept_addBow) (fun _ => kept_onSettling) (.refl _))

/-- Settles O25: the checks one after another; the record that was put in is the one found at the end of the command. -/
theorem declareBargeIsCheckedInOrder : Obligations.DeclareBargeIsCheckedInOrder := by
  unfold Obligations.DeclareBargeIsCheckedInOrder
  intro s p hull light cargo bow hup
  dsimp only
  have refused {why : Status} (h : s.bargeRefusal p hull light cargo bow = some why) :
      exec (.declareBarge p hull light cargo bow) s = .next (s.answered ⟨why, []⟩) :=
    exec_of_refusal hup (o := declareBarge p hull light cargo bow) rfl (by simp [declareBarge, h])
  simp only [State.bargeRefusal, bargeMisplaced_iff, barge?_isSome, bargeDuplicate_iff] at refused
  refine ⟨fun hb => refused (if_pos hb), fun ⟨hb, ht⟩ => refused (by rw [if_neg hb, if_pos ht]),
    fun ⟨hb, ht, hd⟩ => refused (by rw [if_neg hb, if_neg ht, if_pos hd]), fun ⟨hb, ht, hd, hf⟩ => refused ?_,
    fun ⟨hb, ht, hd, hf⟩ => ?_⟩
  · rw [if_neg hb, if_neg ht, if_neg hd]
    rcases hf with hf | ⟨hbow, hf⟩
    · rw [if_pos (by simpa [Config.maxBarges] using hf)]
    · have : bow.isSome = true := Option.isSome_iff_ne_none.2 hbow
      simp [this, Config.maxBowUnits, hf]
  · have hn : s.bargeRefusal p hull light cargo bow = none := by
      simp only [State.bargeRefusal, bargeMisplaced_iff, barge?_isSome, bargeDuplicate_iff]
      rw [if_neg hb, if_neg ht, if_neg hd]
      rw [if_neg fun h => hf (.inl (by simpa [Config.maxBarges] using h)), if_neg fun h => hf (.inr ?_)]
      simp only [Bool.and_eq_true, Config.maxBowUnits] at h
      exact ⟨Option.isSome_iff_ne_none.1 h.1, of_decide_eq_true h.2⟩
    have ho : declareBarge p hull light cargo bow s = (finish (addBarge p hull light cargo bow s), accept []) := by
      simp only [declareBarge, hn]
    have hk := declared_kept p hull light cargo bow s
    have hx := declared_keptBarges (s := s) (hull := hull) (light := light) (cargo := cargo) (bow := bow)
      fun x hx hxp => ht ⟨x, hx, hxp⟩
    generalize finish (addBarge p hull light cargo bow s) = t at ho hk hx
    obtain ⟨b, hm, hdecl, hch⟩ := forall₂_mem hk.barges ((insertBarge_perm _ _).mem_iff.2 List.mem_cons_self)
    simp only [Barge.declared, Prod.mk.injEq] at hdecl
    obtain ⟨hpos, hhull, hlight, hcargo, hbow⟩ := hdecl
    exact ⟨t.answered (accept []), exec_of_accept hup (o := declareBarge p hull light cargo bow) rfl ho, hk.stores, rfl,
      map_of_declared (fun d => d.1) hk.declaredBarges, b, hm, hpos, hhull, hlight, hcargo, hbow, hch rfl,
      fun hc => (hx hc).2 b hm hpos⟩

end Sys2Proof.Machine
end

section
/-! ### R5, R9: removed barges and withdrawn couplings -/

namespace Sys2Proof.Machine

variable {s t u : State}

/-- R9: the couplings that stay are those of the other numbers. -/
theorem mem_forAll_dropCoupling (cs : List Coupling) (s : State) {c : Coupling}
    (hc : c ∈ (forAll cs dropCoupling s).sup.couplings) : c ∈ s.sup.couplings ∧ ∀ d ∈ cs, c.number ≠ d.number := by
  induction cs generalizing s with
  | nil => exact ⟨hc, fun d hd => absurd hd List.not_mem_nil⟩
  | cons d cs ih =>
    obtain ⟨hm, hn⟩ := ih (dropCoupling d s) hc
    rw [dropCoupling_sup] at hm
    obtain ⟨hm, hd⟩ := List.mem_filter.1 hm
    exact ⟨hm, List.forall_mem_cons.2 ⟨by simpa using hd, hn⟩⟩

/-- R5: the tables without a barge and the couplings that end at it. -/
def State.withoutBarge (s : State) (p : Pos) (cs : List Coupling) : State :=
  (forAll cs dropCoupling s).onSup fun u => { u with barges := u.barges.filter fun b => b.pos != p }

theorem withoutBarge_barges (s : State) (p : Pos) (cs : List Coupling) :
    (s.withoutBarge p cs).sup.barges = s.sup.barges.filter fun b => b.pos != p := by
  simp [State.withoutBarge, forAll_dropCoupling_barges]

/-- R5, R30: after the records are gone, a removal only reports and gives notices. -/
theorem removeRecord_kept (p : Pos) (cs : List Coupling) (s : State) : Kept (s.withoutBarge p cs) (removeRecord p cs s) := by
  have hm : Kept (s.withoutBarge p cs) (dueAnalysis (askCheckpoint (bargeReport p (dropBow p (s.withoutBarge p cs))))) :=
    kept_onSettling (kept_askCheckpoint (kept_bargeReport (kept_dropBow (.refl _))))
  exact kept_giveDepartures hm

/-- R168: the table after the orders at a barge are cancelled. -/
def State.cancelledAt (s : State) (p : Pos) : State :=
  forAll (s.liveOrders.filter fun x => s.orderEndsAt p x.2) (fun x => completeOrder x.1 (.ofWire .cancelled none)) s

theorem cancelledAt_kept (s : State) (p : Pos) : Kept s (s.cancelledAt p) :=
  kept_forAll (fun _ _ _ hu => kept_completeOrder hu) (.refl s)

theorem breakaway_eq (p : Pos) (s : State) : breakaway p s =
    (removeRecord p (s.couplingsAt p) (s.cancelledAt p)).onSettling fun x => { x with makeup := true } := rfl

/-- R5: the record is gone, with every coupling that ends at it. -/
theorem withoutBarge_removed {p : Pos} (hk : Kept s u) (ht : Kept (u.withoutBarge p (s.couplingsAt p)) t) :
    t.sup.barges.map (·.pos) = (s.sup.barges.map (·.pos)).filter (· != p) ∧ ∀ c ∈ t.sup.couplings, c.endsAt p = false := by
  constructor
  · have hpos : u.sup.barges.map (·.pos) = s.sup.barges.map (·.pos) := map_of_declared (fun d => d.1) hk.declaredBarges
    have hpos' : t.sup.barges.map (·.pos) = (u.withoutBarge p (s.couplingsAt p)).sup.barges.map (·.pos) :=
      map_of_declared (fun d => d.1) ht.declaredBarges
    rw [hpos', withoutBarge_barges, ← hpos, List.filter_map]
    rfl
  · intro c hc
    obtain ⟨d, hd, -, he⟩ := ht.endsAt (p := p) hc
    rw [← he, ← Bool.not_eq_true]
    intro hend
    obtain ⟨hm, hn⟩ := mem_forAll_dropCoupling _ _ hd
    obtain ⟨e, hem, hdecl, hee⟩ := hk.endsAt (p := p) hm
    exact hn e (List.mem_filter.2 ⟨hem, hee.trans hend⟩) (congrArg Prod.fst hdecl).symm

/-- Settles O26: the refusals of the request, then the tables without the record, which the rest of the command keeps. -/
theorem removeBargeStrikesTheRecord : Obligations.RemoveBargeStrikesTheRecord := by
  unfold Obligations.RemoveBargeStrikesTheRecord
  intro s p hup
  dsimp only
  have refused {why : Status} (h : removeBarge p s = refuse s why) : exec (.removeBarge p) s = .next (s.answered ⟨why, []⟩) :=
    exec_of_refusal hup (o := removeBarge p) rfl h
  refine ⟨fun hg => refused ?_, fun hg => ⟨fun hb => refused ?_, fun b hb => ⟨fun ⟨hst, hh⟩ => refused ?_,
    fun ⟨hst, c, hc, hkeep⟩ => refused ?_, fun hfree => ?_⟩⟩⟩
  · have hgrid : (!Pos.inGrid p) = true := by rwa [Bool.not_eq_true', ← Bool.not_eq_true, inGrid_iff]
    simp only [removeBarge, hgrid, if_true]
  · have hn : s.barge? p = none := List.find?_eq_none.2 fun x hx => by simpa using hb x hx
    simp [removeBarge, (inGrid_iff p).2 hg, hn]
  · simp [removeBarge, (inGrid_iff p).2 hg, hb, hst, hh]
  · have hany : (s.couplingsAt p).any (s.keepsBarge p) = true := List.any_eq_true.2 ⟨c, hc, hkeep⟩
    simp [removeBarge, (inGrid_iff p).2 hg, hb, hst, hany]
  · have done {v : State} (ho : removeBarge p s = (v, accept [])) (hs : SameStores s v)
        (hv : ∃ w, Kept s w ∧ Kept (w.withoutBarge p (s.couplingsAt p)) v) :
        ∃ t, exec (.removeBarge p) s = .next t ∧ SameStores s t ∧ t.port.answer = some ⟨.accepted, []⟩ ∧
          t.sup.barges.map (·.pos) = (s.sup.barges.map (·.pos)).filter (· != p) ∧ ∀ c ∈ t.sup.couplings, c.endsAt p = false := by
      obtain ⟨w, hw, hwv⟩ := hv
      obtain ⟨hpos, hends⟩ := withoutBarge_removed hw hwv
      exact ⟨v.answered (accept []), exec_of_accept hup (o := removeBarge p) rfl ho, hs, rfl, hpos, hends⟩
    rcases hfree with ⟨hst, hh⟩ | ⟨hst, hnone⟩
    · refine done (v := finish (breakaway p s)) (by simp [removeBarge, (inGrid_iff p).2 hg, hb, hst, hh]) (by simp [SameStores])
        ⟨_, cancelledAt_kept s p, ?_⟩
      rw [breakaway_eq]
      exact kept_finish (kept_onSettling (removeRecord_kept _ _ _))
    · have hany : (s.couplingsAt p).any (s.keepsBarge p) = false := by simpa using hnone
      exact done (v := finish (removeRecord p (s.couplingsAt p) s))
        (by simp [removeBarge, (inGrid_iff p).2 hg, hb, hst, hany]) (by simp [SameStores])
        ⟨s, .refl s, kept_finish (removeRecord_kept _ _ _)⟩

end Sys2Proof.Machine
end

section
/-! ### R8, R9, R23: declared and withdrawn couplings -/

namespace Sys2Proof.Machine

variable {s t u : State} {N : Nat → Prop} {P : State → Prop}

/-! #### A new claim -/

namespace EndKeeps

/-- R17: a node that becomes ACTIVE or SILENT fails the orders it cannot work. -/
theorem wakes (k : EndKeeps N P) (n : Nat) {st : NodeState} (hst : st = .active ∨ st = .silent)
    (hx : ∀ x ∈ s.liveOrders, ∀ n, x.2.work.coupling? = some n → N n) (h : P s) : P (setNodeState n st s) := by
  have noticed (d : Node) {v : State} (hv : v.liveOrders = s.liveOrders) (h : P v) : P (nodeNotices d (some st) v) := by
    refine k.report _ _ _ (k.bowNotice _ _ _ ?_)
    rcases hst with rfl | rfl
    · exact k.winchActive d (hv ▸ hx) h
    · exact h
  unfold setNodeState
  repeat' split
  · exact h
  · exact h
  · exact noticed _ rfl (k.node _ _ (fun _ => rfl) h)

theorem newClaim (k : EndKeeps N P) (n : Nat) (hx : ∀ x ∈ s.liveOrders, ∀ n, x.2.work.coupling? = some n → N n) (h : P s) :
    P (newClaim n s) := by
  unfold Machine.newClaim
  split
  · exact h
  · dsimp only
    repeat' split
    · exact k.wakes n (.inl rfl) hx (k.node n (fun d => { d with departMark := false }) (fun _ => rfl) h)
    · exact k.wakes n (.inr rfl) hx (k.node n (fun d => { d with departMark := false }) (fun _ => rfl) h)
    · exact k.node n (fun d => { d with departMark := false }) (fun _ => rfl) h
    · exact h

end EndKeeps

/-! #### A coupling that no order names -/

/-- No live order names a coupling. -/
def State.unnamed (s : State) (n : Nat) : Prop := ∀ (i : Fin 16) (o : Order), s.orders.slots[i] = some o → o.work.coupling? ≠ some n

theorem unnamed_iff {n : Nat} : s.unnamed n ↔ ∀ x ∈ s.liveOrders, x.2.work.coupling? ≠ some n :=
  ⟨fun h x hx => h x.1 x.2 (mem_liveOrders.1 hx), fun h i o ho => h (i, o) (mem_liveOrders.2 ho)⟩

theorem Kept.unnamed (h : Kept s t) {n : Nat} (hs : s.unnamed n) : t.unnamed n := fun i p hp he => by
  obtain ⟨o, ho, -, -, hw⟩ := h.orders i p hp
  rcases hw with hw | ⟨hw, -⟩
  · exact hs i o ho (hw ▸ he)
  · simp [hw] at he

/-- The records are the same, and the coupling of a number is untouched. -/
def keptCoupling (n : Nat) (s t : State) : Prop := Kept s t ∧ t.coupling? n = s.coupling? n

theorem coupling?_of_couplings {n : Nat} (h : t.sup.couplings = s.sup.couplings) : t.coupling? n = s.coupling? n := by
  simp [State.coupling?, h]

theorem keptCoupling.after {n : Nat} (h : keptCoupling n s t) (hu : Kept s u) (hc : u.sup.couplings = t.sup.couplings) :
    keptCoupling n s u := ⟨hu, (coupling?_of_couplings hc).trans h.2⟩

theorem setCommand_other {n m : Nat} (c : WinchCmd) (s : State) (h : n ≠ m) : (setCommand m c s).coupling? n = s.coupling? n := by
  unfold setCommand
  rw [coupling?_onCoupling s m n (fun x => { x with command := c }) fun _ => rfl]
  simp [h]

/-- What the ends of orders do leaves a coupling that no live order names. -/
theorem ends_keptCoupling {n : Nat} (hn : s.unnamed n) : EndKeeps (· ≠ n) (keptCoupling n s) where
  report _ _ _ h := h.after (kept_report h.1) (by simp)
  node _ _ _ h := h.after (kept_onLine h.1) rfl
  bow _ _ h := h.after (kept_onBow h.1) rfl
  freed _ h := h.after (kept_freeSlot h.1) rfl
  requeued i o st ho hw h := h.after ((kept_notice s).requeued i o st ho hw h.1) rfl
  started i o ho hw h := h.after ((kept_notice s).started i o ho hw h.1) rfl
  command m c hm h := ⟨kept_setCommand h.1, (setCommand_other c _ (Ne.symm hm)).trans h.2⟩
  coupling m st hm _ h := ⟨kept_setCouplingState h.1, (setCouplingState_other st _ (Ne.symm hm)).trans h.2⟩
  names i o h ho _ m hm := fun he => h.1.unnamed hn i o ho (he ▸ hm)

theorem settle_keptCoupling {n : Nat} (hn : s.unnamed n) : SettleKeeps (· ≠ n) (keptCoupling n s) where
  toStartKeeps := (ends_keptCoupling hn).toStartKeeps
  due _ h := h.after (kept_onSettling h.1) rfl
  analysed h := h.after (kept_holdingAnalysis h.1) (by simp)

theorem finish_keptCoupling {n : Nat} (hn : s.unnamed n) (h : keptCoupling n s t) : keptCoupling n s (finish t) := by
  have hs := (settle_keptCoupling hn).settle h
  exact hs.after (kept_writeAsked hs.1) (by simp [finish])

/-! #### R8: DECLARE_COUPLING -/

/-- R8, R23: the record that an accepted declaration makes. -/
def State.newCoupling (s : State) (n : Nat) (a : CouplingEnd) (b : Pos) (serial channel winchEnd cls : Nat) : Coupling :=
  ⟨n, a, b, serial, channel, winchEnd == 1, cls, .unconfirmed, 0, none,
    if s.line.stops.contains (serial, channel) then .stop else .none, true⟩

/-- R8, R46: the state with the record in its place and its one-shot STOP taken over. -/
def State.withCoupling (s : State) (c : Coupling) : State :=
  (s.onLine fun l => { l with stops := l.stops.filter (· != (c.serial, c.channel)) }).onSup fun u =>
    { u with couplings := insertCoupling c u.couplings }

theorem addCoupling_eq (n : Nat) (a : CouplingEnd) (b : Pos) (serial channel winchEnd cls : Nat) (s : State) :
    addCoupling n a b serial channel winchEnd cls s = dueAnalysis (newClaim serial (askCheckpoint (couplingReport n
      (s.withCoupling (s.newCoupling n a b serial channel winchEnd cls))))) := rfl

theorem insertCoupling_find {c : Coupling} {l : List Coupling} (hl : ∀ x ∈ l, x.number ≠ c.number) :
    (insertCoupling c l).find? (·.number == c.number) = some c := by
  induction l with
  | nil => simp [insertCoupling]
  | cons x l ih =>
    unfold insertCoupling
    split
    · rw [List.find?_cons_of_neg (by simpa using hl x List.mem_cons_self)]
      exact ih fun y hy => hl y (List.mem_cons_of_mem _ hy)
    · simp

/-- R8: the record stands at the end of the command as it was put in. -/
theorem declared_keptCoupling {n : Nat} (hn : s.unnamed n) (a : CouplingEnd) (b : Pos) (serial channel winchEnd cls : Nat) :
    keptCoupling n (s.withCoupling (s.newCoupling n a b serial channel winchEnd cls))
      (finish (addCoupling n a b serial channel winchEnd cls s)) := by
  rw [addCoupling_eq]
  have hv : (s.withCoupling (s.newCoupling n a b serial channel winchEnd cls)).unnamed n := hn
  generalize s.withCoupling (s.newCoupling n a b serial channel winchEnd cls) = v at hv
  have hr : keptCoupling n v (askCheckpoint (couplingReport n v)) :=
    keptCoupling.after ⟨.refl v, rfl⟩ (kept_askCheckpoint (kept_couplingReport (.refl v))) (by simp)
  have hlive : ∀ x ∈ (askCheckpoint (couplingReport n v)).liveOrders, ∀ m, x.2.work.coupling? = some m → m ≠ n :=
    fun x hx m hm he => unnamed_iff.1 (hr.1.unnamed hv) x hx (he ▸ hm)
  have hclaim := (ends_keptCoupling hv).newClaim serial hlive hr
  exact finish_keptCoupling hv (hclaim.after (kept_onSettling hclaim.1) rfl)

/-- R8: an end is the pushboat or the position of a barge record. -/
theorem endDeclared_iff (e : CouplingEnd) : s.endDeclared e = true ↔ e = .pushboat ∨ ∃ x ∈ s.sup.barges, e = .barge x.pos := by
  cases e with
  | pushboat => simp [State.endDeclared]
  | barge p => simp [State.endDeclared, barge?_isSome, @eq_comm _ p]

theorem adjacent_iff (e : CouplingEnd) (q : Pos) : adjacent e q = true ↔ (e = .pushboat ∧ q.row = 1) ∨
    ∃ p, e = .barge p ∧ p ≠ q ∧ p.col ≤ q.col + 1 ∧ q.col ≤ p.col + 1 ∧ p.row ≤ q.row + 1 ∧ q.row ≤ p.row + 1 := by
  cases e with
  | pushboat => simp [adjacent]
  | barge p => simp [adjacent, and_assoc]

theorem couplingDuplicate_iff {n serial channel : Nat} : s.couplingDuplicate n serial channel = true ↔
    (∃ c ∈ s.sup.couplings, c.number = n ∨ (c.serial = serial ∧ c.channel = channel)) ∨
      ∃ x ∈ s.sup.barges, x.bow = some serial := by
  unfold State.couplingDuplicate
  rw [Bool.or_eq_true, Bool.or_eq_true]
  refine or_congr ⟨?_, ?_⟩ (by simp)
  · rintro (h | h)
    · obtain ⟨c, hc, he⟩ := List.find?_isSome.1 h
      exact ⟨c, hc, .inl (by simpa using he)⟩
    · obtain ⟨c, hc, he⟩ := List.any_eq_true.1 h
      exact ⟨c, hc, .inr (by simpa using he)⟩
  · rintro ⟨c, hc, he | he⟩
    · exact .inl (List.find?_isSome.2 ⟨c, hc, by simpa using he⟩)
    · exact .inr (List.any_eq_true.2 ⟨c, hc, by simpa using he⟩)

/-- R9: withdrawing a coupling, at the end of its command. -/
theorem withdrawn_kept (c : Coupling) (s : State) :
    Kept (dropCoupling c s) (finish (giveDepartures (leftWinches [c]) (dueAnalysis (dropCoupling c s)))) :=
  kept_finish (kept_giveDepartures (kept_onSettling (.refl _)))

theorem withdrawn_sameStores (c : Coupling) (s : State) :
    SameStores s (finish (giveDepartures (leftWinches [c]) (dueAnalysis (dropCoupling c s)))) := by
  simp [SameStores, dueAnalysis]

/-- R9: what keeps a coupling from being withdrawn. -/
theorem withdrawCoupling_busy {n : Nat} {c : Coupling} (hc : s.coupling? n = some c)
    (hb : (∃ x ∈ s.liveOrders, x.2.work.coupling? = some n) ∨ (c.state ≠ .released ∧ s.touchesTow c = true)) :
    withdrawCoupling n s = refuse s .notNow := by
  simp only [withdrawCoupling, hc]
  split
  · rfl
  · next ho =>
    obtain ⟨hst, ht⟩ := hb.resolve_left fun h => ho (orderOn_isSome.2 h)
    rw [if_pos (by simp [CouplingState.holding, hst, ht])]

theorem withdrawCoupling_free {n : Nat} {c : Coupling} (hc : s.coupling? n = some c)
    (ho : ∀ x ∈ s.liveOrders, x.2.work.coupling? ≠ some n) (hb : c.state = .released ∨ s.touchesTow c = false) :
    withdrawCoupling n s =
      (finish (giveDepartures (leftWinches [c]) (dueAnalysis (dropCoupling c s))), accept []) := by
  have hnone : s.orderOn n = none := orderOn_none.2 ho
  have hfree : (c.state.holding && s.touchesTow c) = false := by
    rcases hb with hb | hb <;> simp [CouplingState.holding, hb]
  simp [withdrawCoupling, hc, hnone, hfree]

theorem goodCoupling_iff (n : Nat) (a : CouplingEnd) (q : Pos) (channel winchEnd cls : Nat) :
    s.goodCoupling n a q channel winchEnd cls = true ↔ 1 ≤ n ∧ n ≤ 32 ∧ 1 ≤ channel ∧ channel ≤ 2 ∧ 1 ≤ cls ∧ cls ≤ 4 ∧
      winchEnd ≤ 1 ∧ s.endDeclared a = true ∧ s.endDeclared (.barge q) = true ∧ adjacent a q = true := by
  simp [State.goodCoupling, and_assoc]

/-- Settles O27: the checks of each request; a declared coupling is found at the end of its command as it was put in, a withdrawn one
was taken out, and the rest of the command keeps the tables. -/
theorem couplingsAreDeclaredAndWithdrawn : Obligations.CouplingsAreDeclaredAndWithdrawn := by
  unfold Obligations.CouplingsAreDeclaredAndWithdrawn
  refine ⟨fun s n a b serial channel winchEnd cls hup hord => ?_, fun s n hup => ?_⟩
  · dsimp only
    have refused {why : Status} (h : declareCoupling n a b serial channel winchEnd cls s = refuse s why) :
        exec (.declareCoupling n a b serial channel winchEnd cls) s = .next (s.answered ⟨why, []⟩) :=
      exec_of_refusal hup (o := declareCoupling n a b serial channel winchEnd cls) rfl h
    simp only [← endDeclared_iff, ← couplingDuplicate_iff]
    cases b with
    | pushboat =>
      simp only [reduceCtorEq, false_and, exists_false, and_false, false_implies, and_self, and_true]
      exact fun _ => refused rfl
    | barge q =>
      simp only [CouplingEnd.barge.injEq, exists_eq_left', ← adjacent_iff, ← goodCoupling_iff]
      refine ⟨fun hg => refused ?_, fun ⟨hg, hd⟩ => refused ?_, fun ⟨hg, hd⟩ => ?_⟩
      · simp [declareCoupling, hg]
      · simp [declareCoupling, hg, hd]
      · have ho : declareCoupling n a (.barge q) serial channel winchEnd cls s =
            (finish (addCoupling n a q serial channel winchEnd cls s), accept []) := by
          simp [declareCoupling, hg, hd]
        have hfree : ∀ c ∈ s.sup.couplings, c.number ≠ n := fun c hc he =>
          hd (couplingDuplicate_iff.2 (.inl ⟨c, hc, .inl he⟩))
        have hnone : s.coupling? n = none := List.find?_eq_none.2 fun c hc => by simpa using hfree c hc
        have hun : s.unnamed n := fun i o hi hw => by
          obtain ⟨_, hnames, _⟩ := hord
          simpa [hnone] using hnames i o n hi hw
        obtain ⟨hk, hc⟩ := declared_keptCoupling hun a q serial channel winchEnd cls
        have hfound : (s.withCoupling (s.newCoupling n a q serial channel winchEnd cls)).coupling? n =
            some (s.newCoupling n a q serial channel winchEnd cls) :=
          insertCoupling_find (c := s.newCoupling n a q serial channel winchEnd cls) hfree
        have hst : SameStores s (s.withCoupling (s.newCoupling n a q serial channel winchEnd cls)) := ⟨rfl, rfl, rfl, rfl⟩
        generalize finish (addCoupling n a q serial channel winchEnd cls s) = t at ho hk hc
        exact ⟨t.answered (accept []), s.newCoupling n a q serial channel winchEnd cls,
          exec_of_accept hup (o := declareCoupling n a (.barge q) serial channel winchEnd cls) rfl ho, hk.stores, rfl,
          hc.trans hfound, rfl, rfl, rfl, rfl, rfl, rfl, rfl, rfl, rfl, rfl, rfl⟩
  · dsimp only
    have refused {why : Status} (h : withdrawCoupling n s = refuse s why) :
        exec (.withdrawCoupling n) s = .next (s.answered ⟨why, []⟩) :=
      exec_of_refusal hup (o := withdrawCoupling n) rfl h
    refine ⟨fun hc => refused (by simp only [withdrawCoupling, hc]), fun c hc =>
      ⟨fun hb => refused (withdrawCoupling_busy hc hb), fun hb => ?_⟩⟩
    obtain ⟨hord, hheld⟩ := not_or.1 hb
    have ho := withdrawCoupling_free hc (fun x hx he => hord ⟨x, hx, he⟩)
      (by rw [← Bool.not_eq_true, or_iff_not_imp_left]; exact fun h h' => hheld ⟨h, h'⟩)
    have hk := withdrawn_kept c s
    have hs := withdrawn_sameStores c s
    have hnum : c.number = n := by simpa using List.find?_some hc
    have hsup := dropCoupling_sup c s
    generalize finish (giveDepartures (leftWinches [c]) (dueAnalysis (dropCoupling c s))) = t at ho hk hs
    refine ⟨t.answered (accept []), exec_of_accept hup (o := withdrawCoupling n) rfl ho, hs, rfl, ?_, ?_⟩
    · refine hk.numbers.trans ?_
      rw [hsup, hnum, List.filter_map]
      rfl
    · exact (map_of_declared (fun d => d.1) hk.declaredBarges).trans (by rw [hsup])

end Sys2Proof.Machine
end

section
/-! ### R167, R168: completed orders and their reports -/

namespace Sys2Proof.Machine

variable {s t u : State}

/-- R167, R200: the body of an ORDER_DONE report. -/
def Work.doneBody (w : Work) (c : Completion) : List Byte :=
  unsigned 1 w.code ++ unsigned 1 c.result.code ++ w.target ++ optional 2 (unsigned 2) c.tension ++ unsigned 1 c.castOff ++
    signed 8 c.volume

/-- R167: the state with a completed order out of its slot and its report queued, from which the arbiter's scan goes on. -/
def State.orderDone (s : State) (i : Fin 16) (o : Order) (c : Completion) : State :=
  report .orderDone (.tag o.tag) (o.work.doneBody c) (s.setSlot i none)

theorem completeOrder_after {i : Fin 16} {o : Order} {c : Completion} (h : s.orders.slots[i] = some o) :
    Kept (s.orderDone i o c) (completeOrder i c s) := by
  have tanks (l : List Nat) (v : State) (hv : Kept (s.orderDone i o c) v) :
      Kept (s.orderDone i o c) (l.foldl (fun s n => tankReportOf n s) v) :=
    forAll_induct l (fun n s => tankReportOf n s) v (fun _ _ _ hu => kept_tankReportOf hu) hv
  simp only [completeOrder, h]
  refine tanks _ _ ?_
  split
  · exact kept_ite ((kept_notice _).grantScan _ (.refl _)) (.refl _)
  · exact .refl _

theorem Kept.slot_none (h : Kept s t) {i : Fin 16} (hs : s.orders.slots[i] = none) : t.orders.slots[i] = none := by
  cases ht : t.orders.slots[i] with
  | none => rfl
  | some p =>
    obtain ⟨o, ho, _⟩ := h.orders i p ht
    simp [hs] at ho

/-- R167: the slot of a completed order is free. -/
theorem completeOrder_slot {i : Fin 16} {o : Order} {c : Completion} (h : s.orders.slots[i] = some o) :
    (completeOrder i c s).orders.slots[i] = none :=
  (completeOrder_after h).slot_none (setSlot_same s i none)

/-- R167, R176: the report of a completed order stands, unless a report was lost. -/
theorem completeOrder_stands {i : Fin 16} {o : Order} {c : Completion} (h : s.orders.slots[i] = some o) :
    (completeOrder i c s).stands ⟨.orderDone, .tag o.tag, s.clock, o.work.doneBody c⟩ :=
  (completeOrder_after h).stands _ (by simp) (report_stands _ _ _ (s.setSlot i none) (by simp))

/-- R157: a slot holds an order. -/
def State.taken (s : State) (i : Fin 16) : Prop := s.orders.slots[i].isSome = true

theorem taken_of_orders {i : Fin 16} (he : t.orders = s.orders) (h : s.taken i) : t.taken i := by
  unfold State.taken at *
  rwa [he]

theorem grantScan_taken {r : Resource} {i : Fin 16} (h : s.taken i) : (grantScan r s).taken i := by
  unfold grantScan
  repeat' split
  · exact h
  · next j _ =>
    by_cases hj : i = j
    · subst hj
      obtain ⟨o, ho⟩ := Option.isSome_iff_exists.1 h
      rw [State.taken, startOrder_same ho]
      rfl
    · rwa [State.taken, startOrder_other hj]
  · exact h

/-- R167: a completion frees no slot but its own. -/
theorem completeOrder_taken {i j : Fin 16} {c : Completion} (hij : i ≠ j) (h : s.taken i) : (completeOrder j c s).taken i := by
  have tanks (l : List Nat) (v : State) (hv : v.taken i) : (l.foldl (fun s n => tankReportOf n s) v).taken i :=
    forAll_induct (P := fun u => u.taken i) l (fun n s => tankReportOf n s) v (fun n _ u hu => taken_of_orders (by simp) hu) hv
  simp only [completeOrder]
  split
  · exact h
  · next o _ =>
    have hd : (orderDoneReport o c (s.setSlot j none)).taken i := by
      refine taken_of_orders (s := s.setSlot j none) (by simp) ?_
      rwa [State.taken, setSlot_other s none hij]
    refine tanks _ _ ?_
    split
    · exact keeps_ite (P := fun u => u.taken i) (grantScan_taken hd) hd
    · exact hd

/-- R168: each order of a list of slots completes, with its report. -/
theorem forAll_completeOrder {l : List (Fin 16 × Order)} {c : Completion} {i : Fin 16} {o : Order}
    (hl : ∀ x ∈ l, s.orders.slots[x.1] = some x.2) (hm : (i, o) ∈ l) (hw : o.work.coupling?.isSome = true) :
    (forAll l (fun x => completeOrder x.1 c) s).orders.slots[i] = none ∧
      (forAll l (fun x => completeOrder x.1 c) s).stands ⟨.orderDone, .tag o.tag, s.clock, o.work.doneBody c⟩ := by
  obtain ⟨as, bs, rfl, hnot⟩ := List.eq_append_cons_of_mem hm
  have hi : s.orders.slots[i] = some o := hl _ hm
  have hbefore : Kept s (forAll as (fun x => completeOrder x.1 c) s) ∧
      (forAll as (fun x => completeOrder x.1 c) s).taken i :=
    forAll_induct (P := fun u => Kept s u ∧ u.taken i) as _ s (fun x hx u ⟨hk, hs⟩ => by
      refine ⟨kept_completeOrder hk, completeOrder_taken (fun he => hnot ?_) hs⟩
      have hx' := hl x (List.mem_append_left _ hx)
      have : x = (i, o) := Prod.ext he.symm (Option.some.inj (hx'.symm.trans (he ▸ hi)))
      exact this ▸ hx) ⟨.refl s, by simp [State.taken, hi]⟩
  obtain ⟨hk, hsome⟩ := hbefore
  have happ : forAll (as ++ (i, o) :: bs) (fun x => completeOrder x.1 c) s =
      forAll bs (fun x => completeOrder x.1 c) (completeOrder i c (forAll as (fun x => completeOrder x.1 c) s)) := by
    simp [forAll, List.foldl_append]
  rw [happ]
  generalize forAll as (fun x => completeOrder x.1 c) s = v at hk hsome
  obtain ⟨p, hp⟩ := Option.isSome_iff_exists.1 hsome
  obtain ⟨o', ho', htag, -, hwork⟩ := hk.orders i p hp
  obtain rfl : o = o' := Option.some.inj (hi.symm.trans ho')
  have hwork' : p.work = o.work := hwork.resolve_right fun h => by simp [h.2] at hw
  have hafter : Kept (completeOrder i c v) (forAll bs (fun x => completeOrder x.1 c) (completeOrder i c v)) :=
    kept_forAll (fun _ _ _ hu => kept_completeOrder hu) (.refl _)
  obtain ⟨-, -, hclock, -⟩ := hk.stores
  refine ⟨hafter.slot_none (completeOrder_slot hp), hafter.stands _ (by simp) ?_⟩
  rw [← htag, ← hwork', ← hclock]
  exact completeOrder_stands hp

end Sys2Proof.Machine
end

section
/-! ### R30, R51: which nodes are needed, and departing notices -/

namespace Sys2Proof.Machine

variable {s t u : State}

/-! #### R7: the nodes of a barge -/

theorem nodesOf_eq (s : State) (p : Pos) : s.nodesOf p =
    ((s.sup.couplings.map Coupling.declared).filter fun d => if d.2.2.2.2.2.1 then d.2.2.1 == p else d.2.1 == .barge p).map
        (fun d => d.2.2.2.1) ++
      (((s.sup.barges.map Barge.declared).find? fun d => d.1 == p).bind fun d => d.2.2.2.2).toList := by
  simp only [State.nodesOf, State.barge?, List.filter_map, List.find?_map, List.map_map, Option.bind_map]
  rfl

theorem nodesOf_congr (hb : t.sup.barges.map Barge.declared = s.sup.barges.map Barge.declared)
    (hc : t.sup.couplings.map Coupling.declared = s.sup.couplings.map Coupling.declared) (p : Pos) : t.nodesOf p = s.nodesOf p := by
  rw [nodesOf_eq, nodesOf_eq, hb, hc]

theorem Kept.nodesOf (h : Kept s t) (p : Pos) : t.nodesOf p = s.nodesOf p := nodesOf_congr h.declaredBarges h.couplings p

/-- R30: an EXPECTED or IN_TOW barge lies at a position. -/
def State.neededAt (s : State) (q : Pos) : Prop := ∃ b ∈ s.sup.barges, b.pos = q ∧ b.state ≠ .castOff

theorem nodeNeeded_iff {n : Nat} : s.nodeNeeded n = true ↔ ∃ q, s.neededAt q ∧ n ∈ s.nodesOf q := by
  simp only [State.nodeNeeded, List.any_eq_true, Bool.and_eq_true, bne_iff_ne, ne_eq, List.contains_iff_mem]
  constructor
  · rintro ⟨b, hb, hst, hn⟩
    exact ⟨b.pos, ⟨b, hb, rfl, hst⟩, hn⟩
  · rintro ⟨q, ⟨b, hb, rfl, hst⟩, hn⟩
    exact ⟨b, hb, hst, hn⟩

/-- The records are the same, and the same positions are needed. -/
def keptNeeds (s t : State) : Prop := Kept s t ∧ ∀ q, t.neededAt q ↔ s.neededAt q

theorem keptNeeds.refl (s : State) : keptNeeds s s := ⟨.refl s, fun _ => .rfl⟩

theorem keptNeeds.nodeNeeded (h : keptNeeds s t) (n : Nat) : t.nodeNeeded n = s.nodeNeeded n := by
  rw [Bool.eq_iff_iff, nodeNeeded_iff, nodeNeeded_iff]
  simp only [h.1.nodesOf, h.2]

theorem neededAt_of_barges (hb : t.sup.barges = s.sup.barges) (q : Pos) : t.neededAt q ↔ s.neededAt q := by
  unfold State.neededAt
  rw [hb]

theorem keptNeeds.after (h : keptNeeds s t) (hu : Kept s u) (hb : u.sup.barges = t.sup.barges) : keptNeeds s u :=
  ⟨hu, fun q => (neededAt_of_barges hb q).trans (h.2 q)⟩

theorem notice_keptNeeds (s : State) : NoticeKeeps (keptNeeds s) where
  report _ _ _ h := h.after (kept_report h.1) (by simp)
  node _ _ _ h := h.after (kept_onLine h.1) rfl
  bow _ _ h := h.after (kept_onBow h.1) rfl
  freed _ h := h.after (kept_freeSlot h.1) rfl
  requeued i o st ho hw h := h.after ((kept_notice s).requeued i o st ho hw h.1) rfl
  started i o ho hw h := h.after ((kept_notice s).started i o ho hw h.1) rfl
  command _ _ _ h := h.after (kept_setCommand h.1) rfl
  coupling n st _ _ h := h.after (kept_setCouplingState h.1) (setCouplingState_tonnage n st _).1

/-- R20: only an EXPECTED barge is promoted. -/
theorem neededAt_of_toPromote {p : Pos} (h : p ∈ s.toPromote) : s.neededAt p := by
  obtain ⟨b, hb, rfl⟩ := List.mem_map.1 h
  obtain ⟨hm, hst⟩ := List.mem_filter.1 hb
  simp only [Bool.and_eq_true, beq_iff_eq] at hst
  exact ⟨b, hm, rfl, by simp [hst.1]⟩

theorem neededAt_joins {p : Pos} (hp : s.neededAt p) (q : Pos) :
    (setBargeState p .inTow s).neededAt q ↔ s.neededAt q := by
  rw [neededAt_of_barges (s := s.onBarge p fun b => { b with state := .inTow, changed := true }) (by simp [setBargeState])]
  simp only [State.neededAt, State.onBarge, onSup_sup, List.mem_map, exists_exists_and_eq_and] at hp ⊢
  constructor
  · rintro ⟨b, hb, hpos, hst⟩
    split at hpos
    · next hbp => exact (show p = q from hbp.symm.trans hpos) ▸ hp
    · next hbp => exact ⟨b, hb, hpos, by simpa [hbp] using hst⟩
  · rintro ⟨b, hb, hpos, hst⟩
    refine ⟨b, hb, ?_, ?_⟩ <;> split
    · exact hpos
    · exact hpos
    · simp
    · exact hst

/-- R20: the analysis casts off no barge, and takes none back. -/
theorem holdingAnalysis_neededAt (s : State) (q : Pos) : (holdingAnalysis s).neededAt q ↔ s.neededAt q := by
  rw [neededAt_of_barges (holdingAnalysis_barges s)]
  refine forAll_induct (P := fun u => ∀ q, u.neededAt q ↔ s.neededAt q) _ _ _ (fun p hp u hu q => ?_) (fun q => ?_) q
  · exact (neededAt_joins ((hu p).2 (neededAt_of_toPromote hp)) q).trans (hu q)
  · simp [State.neededAt, keepHeld]

theorem settle_keptNeeds (s : State) : SettleKeeps (fun _ => True) (keptNeeds s) where
  toStartKeeps := (notice_keptNeeds s).toStartKeeps
  due _ h := h.after (kept_onSettling h.1) rfl
  analysed h := ⟨kept_holdingAnalysis h.1, fun q => (holdingAnalysis_neededAt _ q).trans (h.2 q)⟩

theorem finish_keptNeeds (h : keptNeeds s t) : keptNeeds s (finish t) := by
  have hs := (settle_keptNeeds s).settle h
  exact hs.after (kept_writeAsked hs.1) (by simp [finish])

/-! #### R51: departing notices -/

/-- R52: the record of a serial after a record took a state. -/
theorem setNodeState_node? (n m : Nat) (st : NodeState) (s : State) : (setNodeState n st s).node? m =
    (s.node? m).map fun d => if m = n ∧ d.state ≠ st then d.enter st else d := by
  unfold setNodeState
  split
  next hn =>
    by_cases hm : m = n
    · simp [hm, hn]
    · simp [hm]
  next d hd =>
    split
    next hst =>
      by_cases hm : m = n
      · simp [hm, hd, hst]
      · simp [hm]
    next hst =>
      have hline : (nodeNotices (d.enter st) (some st) (s.onNode n fun d => d.enter st)).node? m =
          (s.onNode n fun d => d.enter st).node? m := by simp [State.node?]
      rw [hline, node?_onNode s n m (fun d => d.enter st) fun _ => rfl]
      by_cases hm : m = n
      · simp [hm, hd, hst]
      · simp [hm]

/-- R51: a record after its departing notice. -/
def Node.noticed (d : Node) : Node :=
  match d.state with
  | .active => { d with departMark := true }.enter .departing
  | .silent => { d with departMark := true }.enter .departing
  | .lost => { d with departMark := true }.enter .departed
  | _ => { d with departMark := true }

theorem departingNotice_node? (n m : Nat) (s : State) :
    (departingNotice n s).node? m = (s.node? m).map fun d => if m = n then d.noticed else d := by
  unfold departingNotice
  split
  next hn =>
    by_cases hm : m = n
    · simp [hm, hn]
    · simp [hm]
  next d hd =>
    have hmark := node?_onNode s n m (fun d => { d with departMark := true }) fun _ => rfl
    have hset (st : NodeState) := setNodeState_node? n m st (s.onNode n fun d => { d with departMark := true })
    by_cases hm : m = n
    · subst hm
      simp only [hd, Option.map_some, if_true] at hmark
      cases hst : d.state <;> simp [hd, hst, hset, hmark, Node.noticed]
    · simp only [hm, if_false] at hmark
      cases hst : d.state <;> simp [hm, hset, hmark]

theorem forAll_departingNotice_node? {l : List Nat} (hl : l.Nodup) (m : Nat) (s : State) :
    (forAll l departingNotice s).node? m = (s.node? m).map fun d => if m ∈ l then d.noticed else d := by
  induction l generalizing s with
  | nil => simp [forAll]
  | cons n l ih =>
    obtain ⟨hn, hl⟩ := List.nodup_cons.1 hl
    have hstep : forAll (n :: l) departingNotice s = forAll l departingNotice (departingNotice n s) := rfl
    rw [hstep, ih hl, departingNotice_node?, Option.map_map]
    congr 1
    funext d
    by_cases hm : m = n
    · subst hm
      simp [hn]
    · simp [hm]

/-- R30, R51: the records after departing notices for a list of serials. -/
theorem giveDepartures_node? (l : List Nat) (m : Nat) (s : State) : (giveDepartures l s).node? m =
    (s.node? m).map fun d => if m ∈ l ∧ s.nodeNeeded m = false then d.noticed else d := by
  unfold giveDepartures
  rw [forAll_departingNotice_node? ((List.nodup_dedup l).filter _)]
  simp

end Sys2Proof.Machine
end

section
/-! ### R5, R9, R30, R168: what a removal brings with it -/

namespace Sys2Proof.Machine

variable {s t u : State}

/-! #### R46: one-shot STOPs -/

theorem dropCoupling_line (c : Coupling) (s : State) : (dropCoupling c s).line = { s.line with
    stops := if c.command = .none then s.line.stops else s.line.stops.insert (c.serial, c.channel) } := by
  simp only [dropCoupling]
  split <;> simp [oneShotStop]

theorem forAll_dropCoupling_node? (cs : List Coupling) (m : Nat) (s : State) :
    (forAll cs dropCoupling s).node? m = s.node? m :=
  forAll_induct (P := fun u => u.node? m = s.node? m) cs dropCoupling s
    (fun c _ u hu => by simpa [State.node?, dropCoupling_line] using hu) rfl

theorem mem_forAll_dropCoupling_stops (cs : List Coupling) (x : Nat × Nat) (s : State) :
    x ∈ (forAll cs dropCoupling s).line.stops ↔
      x ∈ s.line.stops ∨ ∃ c ∈ cs, c.command ≠ .none ∧ x = (c.serial, c.channel) := by
  induction cs generalizing s with
  | nil => simp [forAll]
  | cons c cs ih =>
    have hstep : forAll (c :: cs) dropCoupling s = forAll cs dropCoupling (dropCoupling c s) := rfl
    rw [hstep, ih, dropCoupling_line]
    by_cases hc : c.command = .none
    · simp [hc]
    · simp [hc, or_assoc, or_left_comm]

/-! #### R176: reports stand, and slots stay free -/

theorem dropCoupling_stands (c : Coupling) {r : Report} (hr : r.kind ≠ .change) (h : s.stands r) : (dropCoupling c s).stands r := by
  have hk (u : State) : Kept u (askCheckpoint (couplingReport c.number u)) := kept_askCheckpoint (kept_couplingReport (.refl u))
  unfold dropCoupling
  dsimp only
  split <;> exact (hk _).stands r hr h

theorem withoutBarge_stands (p : Pos) (cs : List Coupling) {r : Report} (hr : r.kind ≠ .change) (h : s.stands r) :
    (s.withoutBarge p cs).stands r :=
  forAll_induct (P := fun u => u.stands r) cs dropCoupling s (fun c _ _ hu => dropCoupling_stands c hr hu) h

theorem withoutBarge_orders (p : Pos) (cs : List Coupling) (s : State) : (s.withoutBarge p cs).orders = s.orders := by
  simp [State.withoutBarge]

/-! #### R30: the notices of a removed barge -/

/-- R5: the state of a removal before its notices. -/
def State.struck (s : State) (p : Pos) (cs : List Coupling) : State :=
  dueAnalysis (askCheckpoint (bargeReport p (dropBow p (s.withoutBarge p cs))))

theorem struck_line (p : Pos) (cs : List Coupling) (s : State) : (s.struck p cs).line = (forAll cs dropCoupling s).line := by
  simp [State.struck, dueAnalysis, State.withoutBarge]

theorem giveDepartures_stops (l : List Nat) (s : State) : (giveDepartures l s).line.stops = s.line.stops := by
  rw [((lineKept_notice s).giveDepartures l (.refl s)).line]

theorem giveDepartures_keptNeeds (l : List Nat) (s : State) : keptNeeds s (giveDepartures l s) :=
  (notice_keptNeeds s).giveDepartures l (.refl s)

theorem cancelledAt_line (s : State) (p : Pos) : (s.cancelledAt p).line = s.line := by simp [State.cancelledAt]

/-- R5: a breakaway at the end of its command, from the state before its notices. -/
theorem finish_breakaway (p : Pos) (s : State) : finish (breakaway p s) = finish
    ((giveDepartures ((s.cancelledAt p).nodesOf p ++ leftWinches (s.couplingsAt p))
      ((s.cancelledAt p).struck p (s.couplingsAt p))).onSettling fun x => { x with makeup := true }) := rfl

theorem breakaway_keptNeeds (p : Pos) (s : State) :
    keptNeeds ((s.cancelledAt p).struck p (s.couplingsAt p)) (finish (breakaway p s)) := by
  rw [finish_breakaway]
  have h := giveDepartures_keptNeeds ((s.cancelledAt p).nodesOf p ++ leftWinches (s.couplingsAt p))
    ((s.cancelledAt p).struck p (s.couplingsAt p))
  exact finish_keptNeeds (h.after (kept_onSettling h.1) rfl)

/-- R46, R5: the one-shot STOPs after a breakaway. -/
theorem breakaway_stops (p : Pos) (s : State) (x : Nat × Nat) : x ∈ (finish (breakaway p s)).line.stops ↔
    x ∈ s.line.stops ∨ ∃ c ∈ s.sup.couplings, c.endsAt p = true ∧ c.command ≠ .none ∧ x = (c.serial, c.channel) := by
  have he : (finish (breakaway p s)).line.stops =
      (forAll (s.couplingsAt p) dropCoupling (s.cancelledAt p)).line.stops := by
    rw [finish_breakaway, (finish_frame _).1, ← struck_line p]
    exact giveDepartures_stops _ _
  rw [he, mem_forAll_dropCoupling_stops, cancelledAt_line]
  simp [State.couplingsAt, and_assoc]

/-- R30, R51: the records after a breakaway. -/
theorem breakaway_node? (p : Pos) (s : State) (m : Nat) : (finish (breakaway p s)).node? m = (s.node? m).map fun d =>
    if m ∈ s.nodesOf p ++ leftWinches (s.couplingsAt p) ∧ (finish (breakaway p s)).nodeNeeded m = false then d.noticed else d := by
  have hn := (breakaway_keptNeeds p s).nodeNeeded m
  have hline : (finish (breakaway p s)).node? m = (giveDepartures ((s.cancelledAt p).nodesOf p ++ leftWinches (s.couplingsAt p))
      ((s.cancelledAt p).struck p (s.couplingsAt p))).node? m := by
    rw [finish_breakaway]
    simp [State.node?]
  have hs : ((s.cancelledAt p).struck p (s.couplingsAt p)).node? m = s.node? m := by
    have := forAll_dropCoupling_node? (s.couplingsAt p) m (s.cancelledAt p)
    simpa [State.node?, struck_line, cancelledAt_line] using this
  rw [hline, giveDepartures_node?, hs, (cancelledAt_kept s p).nodesOf, ← hn]

/-- R168: the orders at the barge have ended, with their reports. -/
theorem breakaway_orders {p : Pos} {i : Fin 16} {o : Order} {n : Nat} {c : Coupling} (ho : s.orders.slots[i] = some o)
    (hw : o.work.coupling? = some n) (hc : s.coupling? n = some c) (hp : c.endsAt p = true) :
    (finish (breakaway p s)).orders.slots[i] = none ∧ (finish (breakaway p s)).stands
      ⟨.orderDone, .tag o.tag, s.clock, o.work.doneBody (.ofWire .cancelled none)⟩ := by
  have hm : (i, o) ∈ s.liveOrders.filter fun x => s.orderEndsAt p x.2 :=
    List.mem_filter.2 ⟨mem_liveOrders.2 ho, by simp [State.orderEndsAt, hw, hc, hp]⟩
  obtain ⟨hslot, hstands⟩ := forAll_completeOrder (c := .ofWire .cancelled none)
    (fun x hx => mem_liveOrders.1 (List.mem_of_mem_filter hx)) hm (by simp [hw])
  have hafter : Kept ((s.cancelledAt p).withoutBarge p (s.couplingsAt p)) (finish (breakaway p s)) := by
    rw [breakaway_eq]
    exact kept_finish (kept_onSettling (removeRecord_kept _ _ _))
  refine ⟨hafter.slot_none ?_, hafter.stands _ (by simp) (withoutBarge_stands _ _ (by simp) hstands)⟩
  rw [withoutBarge_orders]
  exact hslot

/-- R51: what a notice makes of a record. -/
theorem noticed_spec (d : Node) : d.noticed.departMark = true ∧ d.noticed.address = d.address ∧ d.noticed.state =
    (match d.state with
      | .active | .silent | .departing => .departing
      | .lost | .departed => .departed
      | .joining => .joining
      | .rejected => .rejected) := by
  cases hst : d.state <;> simp [Node.noticed, Node.enter, hst]

/-- R9, R30, R46: the master after a coupling is withdrawn. -/
theorem withdrawn_stops (c : Coupling) (s : State) :
    (finish (giveDepartures (leftWinches [c]) (dueAnalysis (dropCoupling c s)))).line.stops =
      if c.command = .none then s.line.stops else s.line.stops.insert (c.serial, c.channel) := by
  have hd : (dueAnalysis (dropCoupling c s)).line = (dropCoupling c s).line := rfl
  rw [(finish_frame _).1, giveDepartures_stops, hd, dropCoupling_line]

theorem withdrawn_node? (c : Coupling) (s : State) (m : Nat) :
    (finish (giveDepartures (leftWinches [c]) (dueAnalysis (dropCoupling c s)))).node? m = (s.node? m).map fun d =>
      if m ∈ leftWinches [c] ∧
        (finish (giveDepartures (leftWinches [c]) (dueAnalysis (dropCoupling c s)))).nodeNeeded m = false then d.noticed else d := by
  have hn := (finish_keptNeeds (giveDepartures_keptNeeds (leftWinches [c]) (dueAnalysis (dropCoupling c s)))).nodeNeeded m
  have hs : (dueAnalysis (dropCoupling c s)).node? m = s.node? m := forAll_dropCoupling_node? [c] m s
  have hline : (finish (giveDepartures (leftWinches [c]) (dueAnalysis (dropCoupling c s)))).node? m =
      (giveDepartures (leftWinches [c]) (dueAnalysis (dropCoupling c s))).node? m := by
    simp [State.node?]
  rw [hn, hline, giveDepartures_node?, hs]

theorem leftWinches_single (c : Coupling) (n : Nat) : n ∈ leftWinches [c] ↔ c.isFace = false ∧ n = c.serial := by
  cases h : c.isFace <;> simp [leftWinches, h]

/-- Settles O31: the orders, the STOPs and the records at the end of the command, by the laws of a breakaway and of a withdrawal. -/
theorem removalEndsOrdersAndGivesNotices : Obligations.RemovalEndsOrdersAndGivesNotices := by
  unfold Obligations.RemovalEndsOrdersAndGivesNotices
  refine ⟨fun s p b hup _ hgrid hb hst hh => ?_, fun s n c hup _ hc hord hheld => ?_⟩
  · have ho : removeBarge p s = (finish (breakaway p s), accept []) := by
      simp [removeBarge, (inGrid_iff p).2 hgrid, hb, hst, hh]
    have hs : SameStores s (finish (breakaway p s)) := by simp [SameStores]
    have horders (i : Fin 16) (o : Order) (n : Nat) (c : Coupling) := breakaway_orders (s := s) (p := p) (i := i) (o := o) (n := n) (c := c)
    have hstops := breakaway_stops p s
    have hnode := breakaway_node? p s
    generalize finish (breakaway p s) = t at ho hs horders hstops hnode
    refine ⟨t.answered (accept []), exec_of_accept hup (o := removeBarge p) rfl ho, hs, fun i o n c hi hw hc hp =>
      horders i o n c hi hw hc hp, fun c hc hp hcmd => (hstops _).2 (.inr ⟨c, hc, hp, hcmd, rfl⟩), fun x hx => (hstops x).1 hx,
      fun d hd hm hn => ⟨d.noticed, ?_, noticed_spec d⟩⟩
    refine (hnode d.serial).trans ?_
    rw [hd, Option.map_some, if_pos ⟨List.mem_append_left _ hm, hn⟩]
  · have ho := withdrawCoupling_free hc hord hheld
    have hs := withdrawn_sameStores c s
    have hstops := withdrawn_stops c s
    have hnode := withdrawn_node? c s
    generalize finish (giveDepartures (leftWinches [c]) (dueAnalysis (dropCoupling c s))) = t at ho hs hstops hnode
    refine ⟨t.answered (accept []), exec_of_accept hup (o := withdrawCoupling n) rfl ho, hs, rfl, hstops,
      fun d hd => ⟨fun hkeep => ?_, fun hface hser hn => ⟨d.noticed, ?_, noticed_spec d⟩⟩⟩
    · refine (hnode d.serial).trans ?_
      rw [hd, Option.map_some, if_neg]
      rw [leftWinches_single]
      rintro ⟨⟨hface, hser⟩, hn⟩
      rcases hkeep with h | h | h
      · simp [h] at hface
      · exact h hser
      · exact absurd (h.symm.trans hn) (by simp)
    · refine (hnode d.serial).trans ?_
      rw [hd, Option.map_some, if_pos ⟨(leftWinches_single c d.serial).2 ⟨hface, hser⟩, hn⟩]

end Sys2Proof.Machine
end

section
/-! ### R25, R28, R29, R163, R166: aborted orders and orders that run out -/

namespace Sys2Proof.Machine

variable {s t u : State}

/-- R160: an order on a coupling names no tank. -/
theorem Work.tanks_of_coupling {w : Work} {n : Nat} (h : w.coupling? = some n) : w.tanks = [] := by
  cases w <;> first | rfl | cases h

/-- R167: an order on a coupling that holds no place completes with its report alone. -/
theorem completeOrder_quietly {i : Fin 16} {o : Order} {n : Nat} (c : Completion) (ho : s.orders.slots[i] = some o)
    (hn : o.work.coupling? = some n) (hr : o.working = false ∨ o.resource = none) :
    completeOrder i c s = orderDoneReport o c (s.setSlot i none) := by
  simp only [completeOrder, ho, Work.tanks_of_coupling hn]
  rcases hr with hr | hr
  · cases o.resource <;> simp [hr]
  · simp [hr]

theorem signed_zero : signed 8 0 = [0, 0, 0, 0, 0, 0, 0, 0] := by decide

/-- R167, R200: the body of the report of a HAUL or RELEASE that ends with a tension. -/
theorem Work.doneBody_wire {w : Work} {n : Nat} (h : w.coupling? = some n) (r : OrderResult) (x : Nat) :
    w.doneBody (.ofWire r (some x)) = unsigned 1 w.code ++ unsigned 1 r.code ++ unsigned 1 n ++ [0] ++ [1] ++ unsigned 2 x ++ [0] ++
      [0, 0, 0, 0, 0, 0, 0, 0] := by
  have htarget : w.target = unsigned 1 n ++ [0] := by
    cases w <;> cases h <;> rfl
  have htension : optional 2 (unsigned 2) (some x) = [1] ++ unsigned 2 x := rfl
  have hcast : unsigned 1 0 = [0] := rfl
  simp only [Work.doneBody, htarget, Completion.ofWire, htension, hcast, signed_zero, List.append_assoc]

theorem commandLeaves_some {n : Nat} {c : Coupling} (hc : s.coupling? n = some c) :
    commandLeaves n s = setCommand n (s.leaveCommand c) s := by
  simp only [commandLeaves, hc]

theorem commandLeaves_same {n : Nat} {c : Coupling} (hc : s.coupling? n = some c) :
    (commandLeaves n s).coupling? n = some { c with command := s.leaveCommand c } := by
  rw [commandLeaves_some hc]
  refine (coupling?_onCoupling s n n (fun x => { x with command := s.leaveCommand c }) fun _ => rfl).trans ?_
  simp [hc]

/-- R23: how a command leaves depends on the node and the channel alone. -/
theorem leaveCommand_inState {c : Coupling} (st : CouplingState) (hl : t.line = s.line) :
    t.leaveCommand (c.inState st) = s.leaveCommand c := by
  have hdecl := (Coupling.inState_frame st c).2.2.2
  simp only [Coupling.declared, Prod.mk.injEq] at hdecl
  obtain ⟨-, -, -, hserial, hchannel, -⟩ := hdecl
  unfold State.leaveCommand State.node? Node.cannotReach
  rw [hl, hserial, hchannel]

/-- R23: a command that leaves changes the Coupling Table alone. -/
theorem commandLeaves_only (n : Nat) (s : State) : commandLeaves n s = { s with sup := (commandLeaves n s).sup } := by
  unfold commandLeaves
  split <;> rfl

/-- R29: an ACTIVE HAUL or RELEASE that is aborted. -/
theorem windDown_wire (i : Fin 16) {o : Order} {n : Nat} (hn : o.work.coupling? = some n) (s : State) :
    windDown i o s = commandLeaves n (s.setSlot i (some { o with state := .aborting, workTimer := none })) := by
  unfold windDown
  split <;> rename_i hw <;> rw [hw] at hn <;> cases hn <;> rfl

/-- R158: a coupling is named by no other order. -/
theorem unnamed_free {i : Fin 16} {o : Order} {n : Nat} (hd : OrdersDistinct s) (ho : s.orders.slots[i] = some o)
    (hn : o.work.coupling? = some n) : (s.setSlot i none).unnamed n := fun j p hj he => by
  by_cases hji : j = i
  · subst hji
    exact nomatch (setSlot_same s j none).symm.trans hj
  · rw [setSlot_other s none hji] at hj
    exact (hd i j o p ho hj (Ne.symm hji)).2.1 n hn he

/-- R161, R167: the scan after a completion reaches no coupling that no live order names. -/
theorem completeOrder_keptCoupling {i : Fin 16} {o : Order} {c : Completion} {n : Nat} (ho : s.orders.slots[i] = some o)
    (hw : o.work.tanks = []) (hn : (s.orderDone i o c).unnamed n) :
    keptCoupling n (s.orderDone i o c) (completeOrder i c s) := by
  have hd : keptCoupling n (s.orderDone i o c) (s.orderDone i o c) := ⟨.refl _, rfl⟩
  simp only [completeOrder, ho, hw, List.foldl_nil]
  split
  · exact keeps_ite (P := keptCoupling n (s.orderDone i o c)) ((ends_keptCoupling hn).grantScan _ hd) hd
  · exact hd

/-- R167, log entry 8: a HAUL or RELEASE completes, and its command ends: its slot is free, its report stands, and its coupling
is untouched. -/
theorem finish_completeOrder {i : Fin 16} {o : Order} {c : Completion} {n : Nat} (hd : OrdersDistinct s)
    (ho : s.orders.slots[i] = some o) (hn : o.work.coupling? = some n) :
    (finish (completeOrder i c s)).orders.slots[i] = none ∧
      (finish (completeOrder i c s)).stands ⟨.orderDone, .tag o.tag, s.clock, o.work.doneBody c⟩ ∧
      (finish (completeOrder i c s)).coupling? n = s.coupling? n := by
  have hw := Work.tanks_of_coupling hn
  have hun : (s.orderDone i o c).unnamed n := unnamed_free (s := s) hd ho hn
  have hcoupling := (finish_keptCoupling hun (completeOrder_keptCoupling ho hw hun)).2
  have hend : Kept (completeOrder i c s) (finish (completeOrder i c s)) := kept_finish (.refl _)
  refine ⟨hend.slot_none (completeOrder_slot ho), hend.stands _ (by simp) (completeOrder_stands ho), hcoupling.trans ?_⟩
  simp [State.coupling?, State.orderDone]

theorem barge?_state_of_bargesIn {p : Pos} {st : BargeState} (hb : t.bargesIn p st) (h : (t.barge? p).isSome = true) :
    (t.barge? p).map (·.state) = some st := by
  obtain ⟨b, hx⟩ := Option.isSome_iff_exists.1 h
  rw [hx, Option.map_some, hb b (List.mem_of_find?_eq_some hx) (by simpa using List.find?_some hx)]

theorem Kept.barge?_isSome (h : Kept s t) (p : Pos) : (t.barge? p).isSome = (s.barge? p).isSome := by
  have hpos : t.sup.barges.map (·.pos) = s.sup.barges.map (·.pos) := map_of_declared (fun d => d.1) h.declaredBarges
  have key (u : State) : (u.barge? p).isSome = (u.sup.barges.map (·.pos)).contains p := by
    rw [Bool.eq_iff_iff, Machine.barge?_isSome]
    simp
  rw [key, key, hpos]

/-- R20: what the ends of orders do leaves the state of every barge that is not EXPECTED. -/
theorem finish_barge_state {p : Pos} (hk : TablesOk s) (hp : (s.barge? p).map (·.state) ≠ some .expected)
    (h : ∀ st, s.bargesIn p st → keptBarges p st s t) : ((finish t).barge? p).map (·.state) = (s.barge? p).map (·.state) := by
  cases hb : s.barge? p with
  | none =>
    have hnone : s.bargesIn p .castOff := fun b hm hpos => absurd hpos (barge?_none hb b hm)
    have hend : Kept s (finish t) := kept_finish (h _ hnone).1
    have := hend.barge?_isSome p
    rw [hb] at this
    simpa using this
  | some b =>
    rw [hb] at hp
    have hin : s.bargesIn p b.state := fun x hx hpos => by rw [barge?_unique hk hb x hx hpos]
    have hend := finish_keptBarges (fun u hu => not_toPromote_of_bargesIn (by simpa using hp) hu.2) (h _ hin)
    exact barge?_state_of_bargesIn hend.2 (by rw [hend.1.barge?_isSome, hb]; rfl)

/-- R25, R28: an order leaves ACTIVE, its command with it, and the command of the part ends. -/
theorem finish_endActive {i : Fin 16} {o : Order} {n : Nat} {c : Coupling} {r : OrderResult} {x : Option Nat} (hd : OrdersDistinct s)
    (ho : s.orders.slots[i] = some o) (hn : o.work.coupling? = some n) (hc : s.coupling? n = some c) :
    (finish (endActive i n r x s)).orders.slots[i] = none ∧
      (finish (endActive i n r x s)).stands ⟨.orderDone, .tag o.tag, s.clock, o.work.doneBody (.ofWire r x)⟩ ∧
      (finish (endActive i n r x s)).coupling? n = some { c with command := s.leaveCommand c } := by
  have horders : (commandLeaves n s).orders = s.orders := by simp
  have hclock : (commandLeaves n s).clock = s.clock := by simp
  have hd' : OrdersDistinct (commandLeaves n s) := by
    unfold OrdersDistinct at *
    rwa [horders]
  have ho' : (commandLeaves n s).orders.slots[i] = some o := by rwa [horders]
  have h := finish_completeOrder (c := .ofWire r x) hd' ho' hn
  have he : endActive i n r x s = completeOrder i (.ofWire r x) (commandLeaves n s) := rfl
  rwa [hclock, commandLeaves_same hc, ← he] at h

/-- Log entry 8: a command that leaves nothing due ends as it is. -/
theorem finish_of_quiet (h : s.quiet) : finish s = s :=
  finish_quiet s (congrArg Settling.analysis h) (congrArg Settling.retest h) (congrArg Settling.checkpoint h)

/-- R29, R166: ABORT_ORDER of an ACTIVE HAUL or RELEASE. -/
theorem windDown_wire_end {i : Fin 16} {o : Order} {n : Nat} (hn : o.work.coupling? = some n) (s : State) (a : Answer) :
    ((windDown i o s).answered a).orders = (s.setSlot i (some { o with state := .aborting, workTimer := none })).orders ∧
      (∀ c, s.coupling? n = some c → ((windDown i o s).answered a).coupling? n = some { c with command := s.leaveCommand c }) ∧
      ((windDown i o s).answered a).sup.barges = s.sup.barges ∧ ((windDown i o s).answered a).port = (s.answered a).port ∧
      (windDown i o s).answered a = { s with
        orders := ((windDown i o s).answered a).orders, sup := ((windDown i o s).answered a).sup,
        port := ((windDown i o s).answered a).port } := by
  have hwind := windDown_wire i hn s
  refine ⟨by simp [hwind, State.answered], fun c hc => ?_, ?_, by simp [hwind, State.answered], ?_⟩
  · exact (congrArg (·.coupling? n) hwind).trans (commandLeaves_same (s := s.setSlot i _) hc)
  · exact (congrArg (·.sup.barges) hwind).trans (commandLeaves_figures _ _).1
  · rw [hwind, commandLeaves_only]
    rfl

/-- R163: the release-wait timer of an order that holds no place. -/
theorem exec_releaseWaitExpiry {tag : Nat} {i : Fin 16} {o : Order} {n : Nat} {r : OrderResult} (hup : s.up = true) (hq : s.quiet)
    (ho : s.orders.slots[i] = some o) (hn : o.work.coupling? = some n) (hidle : o.working = false)
    (h : releaseWaitExpiry tag s = completeOrder i (.ofWire r none) s) :
    exec (.releaseWaitExpiry tag) s = .next (orderDoneReport o ⟨r, none, 0, 0⟩ (s.setSlot i none)) := by
  rw [exec_of_event (f := fun s => finish (releaseWaitExpiry tag s)) rfl, whenUp_of_up hup, h,
    completeOrder_quietly _ ho hn (.inl hidle), finish_of_quiet (by simpa [State.quiet] using hq)]
  rfl

/-- R25: where no arbiter scans, an order that leaves ACTIVE changes its command and its slot alone. -/
theorem finish_endActive_quietly {i : Fin 16} {o : Order} {n : Nat} {c : Coupling} {r : OrderResult} {x : Option Nat} (hq : s.quiet)
    (ho : s.orders.slots[i] = some o) (hn : o.work.coupling? = some n) (hc : s.coupling? n = some c) (hr : o.resource = none) :
    finish (endActive i n r x s) = orderDoneReport o (.ofWire r x) ((setCommand n (s.leaveCommand c) s).setSlot i none) := by
  have ho' : (setCommand n (s.leaveCommand c) s).orders.slots[i] = some o := ho
  have hq' : (orderDoneReport o (.ofWire r x) ((setCommand n (s.leaveCommand c) s).setSlot i none)).quiet := by
    simpa [State.quiet] using hq
  rw [endActive, commandLeaves_some hc, completeOrder_quietly _ ho' hn (.inr hr), finish_of_quiet hq']

/-- R28: an order that ends as its coupling goes to FAULT. -/
theorem finish_fault {i : Fin 16} {o : Order} {n : Nat} {c : Coupling} {r : OrderResult} {x : Option Nat} (hd : OrdersDistinct s)
    (ho : s.orders.slots[i] = some o) (hn : o.work.coupling? = some n) (hc : s.coupling? n = some c) :
    (finish (endActive i n r x (setCouplingState n .fault s))).orders.slots[i] = none ∧
      (finish (endActive i n r x (setCouplingState n .fault s))).stands
        ⟨.orderDone, .tag o.tag, s.clock, o.work.doneBody (.ofWire r x)⟩ ∧
      (finish (endActive i n r x (setCouplingState n .fault s))).coupling? n =
        some { c.inState .fault with command := s.leaveCommand c } := by
  have hf : (setCouplingState n .fault s).coupling? n = some (c.inState .fault) := by simp [hc]
  have horders : (setCouplingState n .fault s).orders = s.orders := by simp
  have hclock : (setCouplingState n .fault s).clock = s.clock := by simp
  have hd' : OrdersDistinct (setCouplingState n .fault s) := by
    unfold OrdersDistinct at *
    rwa [horders]
  have ho' : (setCouplingState n .fault s).orders.slots[i] = some o := by rwa [horders]
  have h := finish_endActive (r := r) (x := x) hd' ho' hn hf
  rwa [hclock, leaveCommand_inState .fault (by simp : (setCouplingState n .fault s).line = s.line)] at h

/-- R20, R28: no barge but an EXPECTED one changes its state as an order ends so. -/
theorem finish_fault_barge {i : Fin 16} {n : Nat} {r : OrderResult} {x : Option Nat} {p : Pos} (hk : TablesOk s)
    (hp : (s.barge? p).map (·.state) ≠ some .expected) :
    ((finish (endActive i n r x (setCouplingState n .fault s))).barge? p).map (·.state) = (s.barge? p).map (·.state) :=
  finish_barge_state hk hp fun st hst => (notice_keptBarges p st s).endActive i n _ _
    ⟨kept_setCouplingState (.refl s), bargesIn_of_barges (setCouplingState_tonnage n .fault s).1 hst⟩

/-- Settles O34: each completion by its own slot, report and coupling; at the release timer by the state before the analysis too. -/
theorem ordersAreAbortedOrRunOut : Obligations.OrdersAreAbortedOrRunOut := by
  unfold Obligations.OrdersAreAbortedOrRunOut
  refine ⟨fun s tag hup => ⟨fun ht => ?_, fun i o n ht hn => ?_⟩, fun s tag i o n flag set hup hq ht hw htimer => ?_,
    fun s i o n c hup hq hk hord hon hc hst htimer => ?_⟩
  · exact exec_of_refusal hup (o := abortOrder tag) rfl (by simp only [abortOrder, ht])
  · obtain ⟨ho, -⟩ := orderTagged_some ht
    have done {t : State} {a : Answer} (h : abortOrder tag s = (t, a)) : exec (.abortOrder tag) s = .next (t.answered a) :=
      exec_of_accept hup (o := abortOrder tag) rfl h
    refine ⟨fun hst => done ?_, fun hst => ?_, fun hst => done ?_⟩
    · have hidle : o.working = false := by rcases hst with hst | hst <;> simp [Order.working, hst]
      rw [← completeOrder_quietly _ ho hn (.inl hidle)]
      simp only [abortOrder, ht]
      rcases hst with hst | hst <;> simp only [hst] <;> rfl
    · have hab : abortOrder tag s = (windDown i o s, ⟨.accepted, [4]⟩) := by
        simp only [abortOrder, ht, hst]
        rfl
      exact ⟨_, done hab, windDown_wire_end hn s _⟩
    · simp only [abortOrder, ht, hst]
      rfl
  · obtain ⟨ho, -⟩ := orderTagged_some ht
    have hn : o.work.coupling? = some n := by rw [hw]; rfl
    have hrun : o.waitTimer.isNone = false := Bool.eq_false_iff.2 (by simpa using htimer)
    refine ⟨fun hst => exec_releaseWaitExpiry hup hq ho hn (by simp [Order.working, hst]) ?_,
      fun hst => exec_releaseWaitExpiry hup hq ho hn (by simp [Order.working, hst]) ?_⟩ <;>
      simp [releaseWaitExpiry, ht, hrun, hst]
  · obtain ⟨ho, hn⟩ := orderOn_some hon
    obtain ⟨hdist, -⟩ := hord
    have hrun : o.workTimer.isSome = true := Option.isSome_iff_ne_none.2 htimer
    have hlast : s.lastTension n = some c.tension := by simp [State.lastTension, hc]
    refine ⟨fun hw => ?_, fun flag set hw => ?_⟩
    · have hend : haulTimerExpiry n s = endActive i n .timedOut (some c.tension) s := by
        simp [haulTimerExpiry, hon, hrun, hst, hw, Work.isRelease, hlast]
      have hexec : exec (.haulTimerExpiry n) s = .next (finish (endActive i n .timedOut (some c.tension) s)) := by
        rw [exec_of_event (f := fun s => finish (haulTimerExpiry n s)) rfl, whenUp_of_up hup, hend]
      refine ⟨fun hr => hexec.trans (congrArg _ (finish_endActive_quietly hq ho hn hc hr)), ?_⟩
      obtain ⟨hslot, hstands, hcoupling⟩ := finish_endActive (r := .timedOut) (x := some c.tension) hdist ho hn hc
      rw [Work.doneBody_wire hn, hw] at hstands
      have hstores : SameStores s (finish (endActive i n .timedOut (some c.tension) s)) := by simp [SameStores]
      generalize finish (endActive i n .timedOut (some c.tension) s) = t at *
      exact ⟨t, hexec, hstores, hslot, hstands, by rw [hcoupling]; rfl, by rw [hcoupling]; rfl⟩
    · have hend : releaseTimerExpiry n s = endActive i n .notConfirmed (some c.tension) (setCouplingState n .fault s) := by
        simp [releaseTimerExpiry, hon, hrun, hst, hw, Work.isRelease, hlast]
      have hexec : exec (.releaseTimerExpiry n) s =
          .next (finish (endActive i n .notConfirmed (some c.tension) (setCouplingState n .fault s))) := by
        rw [exec_of_event (f := fun s => finish (releaseTimerExpiry n s)) rfl, whenUp_of_up hup, hend]
      obtain ⟨hslot, hstands, hcoupling⟩ := finish_fault (r := .notConfirmed) (x := some c.tension) hdist ho hn hc
      rw [Work.doneBody_wire hn, hw] at hstands
      have hstores : SameStores s (finish (endActive i n .notConfirmed (some c.tension) (setCouplingState n .fault s))) := by
        simp [SameStores]
      have hbarges (p : Pos) := finish_fault_barge (i := i) (n := n) (r := .notConfirmed) (x := some c.tension) (p := p) hk
      generalize finish (endActive i n .notConfirmed (some c.tension) (setCouplingState n .fault s)) = t at *
      exact ⟨t, hexec, hstores, hstands, hslot, by rw [hcoupling]; simp, by rw [hcoupling]; rfl, hbarges⟩

end Sys2Proof.Machine
end

section
/-! ### R17, R27: two statements that fail where two couplings carry one number

Neither statement asks that the Coupling Table hold a number once (R7). A number stands for the first coupling that carries it, but a
winch that is lost takes every coupling of its serial with it, and makes the number LOST where one of these is not RELEASED. -/

namespace Sys2Proof.Machine

variable {s t u : State}

/-- A face coupling of number 1 that is RELEASED. -/
def releasedTwin : Coupling := ⟨1, .pushboat, ⟨1, 1⟩, 7, 1, false, 1, .released, 0, none, .none, false⟩

/-- An order in the first slot, and no other. -/
def oneOrder (o : Order) : Orders := { State.reset.orders with slots := State.reset.orders.slots.set 0 (some o) }

/-- A winch with the one channel it reports. -/
def winchNode (serial : Nat) (st : NodeState) (rejoins : Bool) : Node :=
  ⟨serial, .winch, 1, st, ⟨true, true, true, false, false, false, false⟩, .full, 0, false, false, none, false, rejoins⟩

/-! #### R17: the loss of a winch -/

/-- A HAUL on number 1. -/
def haulOfTwin : Order := ⟨1, .haul 1, .active, none, none, none⟩

/-- The RELEASED coupling and a SLACK one of the same number on the same winch, which is in JOINING. -/
def haulTwins : State := { State.reset with
  sup := { State.reset.sup with couplings := [releasedTwin, { releasedTwin with state := .slack }] }
  line := { State.reset.line with nodes := [winchNode 7 .joining true] }
  orders := oneOrder haulOfTwin }

theorem haulTwins_ordersOk : OrdersOk haulTwins :=
  ordersOk_of_slots haulTwins (by decide) (by decide) (by decide)

/-- Refutes O36: the loss of the winch makes the SLACK coupling LOST, and with it the RELEASED one that carries its number. -/
theorem not_wireRepliesAndMissesEndOrders : ¬ Obligations.WireRepliesAndMissesEndOrders := by
  unfold Obligations.WireRepliesAndMissesEndOrders
  rintro ⟨-, -, h⟩
  have hnodes : NodesOk haulTwins := ⟨by decide, by decide, by decide⟩
  obtain ⟨t, hx, -, -, -, hst⟩ := h haulTwins (winchNode 7 .joining true) 0 haulOfTwin 1 releasedTwin rfl hnodes haulTwins_ordersOk
    rfl rfl rfl rfl rfl rfl rfl (.inl rfl)
  obtain rfl := Host.Outcome.next.inj hx
  exact absurd hst (by decide +kernel)

/-! #### R27: a cast-off that loses a winch

The statement has the couplings untouched between the completion and the end of the cast-off but for what `castOff` does. It leaves out
that the report is then classified (R13): where the cast-off loses the winch of a second coupling of the number, that makes the first
one LOST, and the report that confirmed it makes it RELEASED again, with its changed flag set. -/

/-- The first coupling of a number is RELEASED only with its changed flag as it was: clear. -/
def releasedUnchanged (n : Nat) (s : State) : Prop := ∀ c, s.coupling? n = some c → c.state = .released → c.changed = false

theorem releasedUnchanged_of_couplings {n : Nat} (h : releasedUnchanged n s) (hc : t.sup.couplings = s.sup.couplings) :
    releasedUnchanged n t := by
  unfold releasedUnchanged
  rwa [coupling?_of_couplings hc]

/-- What orders and notices do to a coupling's state never makes it RELEASED. -/
theorem notice_releasedUnchanged (n : Nat) : NoticeKeeps (releasedUnchanged n) where
  report _ _ _ h := releasedUnchanged_of_couplings h (by simp)
  node _ _ _ h := releasedUnchanged_of_couplings h rfl
  bow _ _ h := releasedUnchanged_of_couplings h rfl
  freed _ h := releasedUnchanged_of_couplings h rfl
  requeued _ _ _ _ _ h := releasedUnchanged_of_couplings h rfl
  started _ _ _ _ h := releasedUnchanged_of_couplings h rfl
  command {s} m x _ h c hc hst := by
    have hx := (coupling?_onCoupling s m n (fun c => { c with command := x }) fun _ => rfl).symm.trans hc
    obtain ⟨d, hd, rfl⟩ := Option.map_eq_some_iff.1 hx
    split at hst <;> simpa [*] using h d hd hst
  coupling {s} m st _ hst h c hc hrel := by
    by_cases hm : n = m
    · subst hm
      rw [setCouplingState_same] at hc
      obtain ⟨d, -, rfl⟩ := Option.map_eq_some_iff.1 hc
      rw [Coupling.inState_state] at hrel
      rcases hst with rfl | rfl | rfl <;> cases hrel
    · rw [setCouplingState_other st s hm] at hc
      exact h c hc hrel

theorem castOff_releasedUnchanged {n : Nat} (ps : List Pos) (h : releasedUnchanged n s) : releasedUnchanged n (castOff ps s) := by
  unfold castOff
  split
  · exact h
  · refine (notice_releasedUnchanged n).giveDepartures _ (releasedUnchanged_of_couplings (s := s) h ?_)
    exact forAll_induct (P := fun u => u.sup.couplings = s.sup.couplings) _ _ _
      (fun p _ u hu => by simpa [setBargeState, State.onBarge] using hu) rfl

/-- A RELEASE of number 1 that casts off one barge. -/
def releaseOfTwin : Order := ⟨1, .release 1 true [⟨1, 1⟩], .active, none, none, none⟩

/-- The RELEASED coupling and a SLACK one of the same number, on a LOST winch of the barge that is cast off. -/
def releaseTwins : State := { State.reset with
  sup := { State.reset.sup with
    couplings := [releasedTwin, { releasedTwin with endA := .barge ⟨2, 1⟩, serial := 9, winchAtB := true, state := .slack }]
    barges := [⟨⟨1, 1⟩, 1, 1, 1, none, .inTow, false, false⟩] }
  line := { State.reset.line with nodes := [winchNode 9 .lost false] }
  orders := oneOrder releaseOfTwin }

theorem releaseTwins_ordersOk : OrdersOk releaseTwins :=
  ordersOk_of_slots releaseTwins (by decide) (by decide) (by decide)

/-- The report that confirms the release, with no tension. -/
def confirmed : ChannelReport := ⟨0, ⟨false, true, false⟩⟩

theorem releaseTwins_changed : ((couplingReply 1 confirmed .none releaseTwins).coupling? 1).map (fun c => (c.state, c.changed)) =
    some (.released, true) := by decide +kernel

/-- Refutes O29: the first coupling of the number ends RELEASED with its changed flag set, which no state that the statement allows and
a cast-off from it give. -/
theorem not_confirmedReleaseCastsOffItsSet : ¬ Obligations.ConfirmedReleaseCastsOffItsSet := by
  unfold Obligations.ConfirmedReleaseCastsOffItsSet
  intro h
  obtain ⟨⟨u, -, -, -, -, hu, -, ht⟩, -⟩ := h releaseTwins 1 releasedTwin confirmed .none 0 releaseOfTwin true [⟨1, 1⟩]
    releaseTwins_ordersOk rfl rfl rfl rfl rfl (by decide)
  have hstart : releasedUnchanged 1 u := fun c hc _ => by
    obtain rfl := Option.some.inj (hu.symm.trans hc)
    rfl
  have hreport : releasedUnchanged 1 (couplingReply 1 confirmed .none releaseTwins) := by
    rw [ht]
    refine castOff_releasedUnchanged _ (keeps_ite ?_ ?_)
    · exact (notice_releasedUnchanged 1).grantScan _ ((notice_releasedUnchanged 1).report _ _ _ hstart)
    · exact (notice_releasedUnchanged 1).report _ _ _ hstart
  obtain ⟨c, hc, he⟩ := Option.map_eq_some_iff.1 releaseTwins_changed
  obtain ⟨hst, hch⟩ := Prod.mk.inj he
  exact absurd ((hreport c hc hst).symm.trans hch) (by decide)

end Sys2Proof.Machine
end

section
/-! ### R24, R27, R159, R163, R164: posted HAULs and RELEASEs -/

namespace Sys2Proof.Machine

variable {s t u : State} {i : Fin 16} {n tag : Nat} {w : Work} {r : Option Resource}

/-! #### The checks -/

/-- R158: a HAUL or RELEASE that passes the checks takes its slot. -/
theorem postOrder_wire {spec : OrderSpec} {c : Coupling} (htag : 1 ≤ tag) (hwell : OrderSpec.wellPosed spec = true)
    (hspec : specCoupling spec = some n) (hlive : ∀ x ∈ s.liveOrders, x.2.tag ≠ tag ∧ x.2.work.coupling? ≠ some n)
    (hc : s.coupling? n = some c) (hcap : s.notCapable c = false) (habs : s.nodeAbsent c = false)
    (hdet : s.detachesTow spec = false) (hi : s.freeSlot = some i) :
    postOrder tag spec s = (finish (placeOrder tag i (s.workOf spec) (s.resourceOf spec) s),
      accept (unsigned 2 tag ++ unsigned 1 i.val ++ unsigned 1 (s.firstState (s.workOf spec) (s.resourceOf spec)).code ++
        counted Pos.byte (s.workOf spec).castOffList)) := by
  have htanks : specTanks spec = [] := by
    cases spec <;> first | rfl | cases hspec
  have htagged : s.orderTagged tag = none := orderTagged_none.2 fun x hx => (hlive x hx).1
  have hnamed : s.namedAlready spec = false := by
    unfold State.namedAlready
    rw [hspec, htanks, List.any_eq_false]
    exact fun x hx => by simpa using (hlive x hx).2
  have hok : s.postRefusal tag spec = none := by
    have h0 : tag ≠ 0 := by omega
    simp [State.postRefusal, htagged, hwell, h0, hspec, hc, hcap, habs, hnamed, hdet, hi]
  simp only [postOrder, hok, hi]

theorem placeOrder_idle (h : s.firstState w r ≠ .active) : placeOrder tag i w r s =
    s.setSlot i (some ⟨tag, w, s.firstState w r, r, s.waitTimer w (s.firstState w r), none⟩) := by
  simp only [placeOrder, h, if_false]

theorem placeOrder_active (h : s.firstState w r = .active) : placeOrder tag i w r s =
    startOrder i (s.setSlot i (some ⟨tag, w, .queued, r, s.waitTimer w .active, none⟩)) := by
  simp only [placeOrder, h, if_true]

/-! #### A started order stands to the end of its command -/

/-- The records are the same, the order of a slot stands, and the coupling it names is untouched. -/
def keptOrder (i : Fin 16) (o : Order) (n : Nat) (s t : State) : Prop :=
  Kept s t ∧ t.orders.slots[i] = some o ∧ t.coupling? n = s.coupling? n

theorem keptOrder.after {o : Order} (h : keptOrder i o n s t) (hu : Kept s u) (ho : u.orders = t.orders)
    (hc : u.sup.couplings = t.sup.couplings) : keptOrder i o n s u :=
  ⟨hu, by rw [ho]; exact h.2.1, (coupling?_of_couplings hc).trans h.2.2⟩

theorem setLast_setSlot {j : Fin 16} {o : Option Order} (h : i ≠ j) :
    ((s.setSlot j o).onOrders fun t => t.setLast j r).orders.slots[i] = s.orders.slots[i] := by
  have hlast : ((s.setSlot j o).onOrders fun t => t.setLast j r).orders.slots = (s.setSlot j o).orders.slots := by simp
  simpa only [hlast] using setSlot_other s o h

/-- R164: a start touches no order that holds its place, and no coupling that only such an order names. -/
theorem settle_keptOrder {o : Order} (ho : o.working = true)
    (hown : ∀ (j : Fin 16) (p : Order), s.orders.slots[j] = some p → p.work.coupling? = some n → j = i) :
    SettleKeeps (· ≠ n) (keptOrder i o n s) := by
  have other {u : State} {j : Fin 16} {p : Order} (hu : keptOrder i o n s u) (hj : u.orders.slots[j] = some p)
      (hp : p.working = false) : i ≠ j := fun he => by
    subst he
    obtain rfl := Option.some.inj (hu.2.1.symm.trans hj)
    exact absurd (ho.symm.trans hp) (by decide)
  exact {
    report := fun _ _ _ h => h.after (kept_report h.1) (by simp) (by simp)
    requeued := fun j p st hj hp h => ⟨(kept_notice s).requeued j p st hj hp h.1,
      (setSlot_other _ _ (other h hj hp)).trans h.2.1, h.2.2⟩
    started := fun {u} j p hj hp h => ⟨(kept_notice s).started j p hj hp h.1, by
      rw [setLast_setSlot (other h hj hp)]
      exact h.2.1, h.2.2⟩
    command := fun m c hm h => ⟨kept_setCommand h.1, h.2.1, (setCommand_other c _ (Ne.symm hm)).trans h.2.2⟩
    coupling := fun m st hm _ h => ⟨kept_setCouplingState h.1, by simpa using h.2.1,
      (setCouplingState_other st _ (Ne.symm hm)).trans h.2.2⟩
    names := fun j p h hj hp m hm he => by
      obtain ⟨q, hq, -, -, hw⟩ := h.1.orders j p hj
      rcases hw with hw | ⟨hw, -⟩
      · exact other h hj hp (hown j q hq (hw ▸ he ▸ hm)).symm
      · simp [hw] at hm
    due := fun _ h => h.after (kept_onSettling h.1) rfl rfl
    analysed := fun h => h.after (kept_holdingAnalysis h.1) (by simp) (by simp) }

/-! #### A posted order that starts -/

theorem wireHand_coupling? (st : CouplingState) (cmd : WinchCmd) (s : State) : (setCouplingState n st (setCommand n cmd s)).coupling? n =
    (s.coupling? n).map fun c => Coupling.inState st { c with command := cmd } := by
  have hcmd := coupling?_onCoupling s n n (fun c => { c with command := cmd }) fun _ => rfl
  simp only [setCouplingState_same, setCommand, hcmd, Option.map_map, if_true]
  rfl

theorem workTimer_setSlot (o : Option Order) : (s.setSlot i o).workTimer w = s.workTimer w := by
  cases w <;> rfl

theorem startOrder_eq {o : Order} (ho : s.orders.slots[i] = some o) : startOrder i s = handToBlock o.work
    ((s.setSlot i (some { o with state := .active, waitTimer := none, workTimer := s.workTimer o.work })).onOrders
      fun t => t.setLast i o.resource) := by
  simp only [startOrder, ho]

/-- R24, R27, R164: a HAUL or RELEASE that starts as it is posted, at the end of its command. -/
theorem finish_placeOrder {st : CouplingState} {cmd : WinchCmd} {c : Coupling}
    (hhand : ∀ u, handToBlock w u = setCouplingState n st (setCommand n cmd u)) (hc : s.coupling? n = some c)
    (hn : s.unnamed n) (hfirst : s.firstState w r = .active) :
    (finish (placeOrder tag i w r s)).orders.slots[i] = some ⟨tag, w, .active, r, none, s.workTimer w⟩ ∧
      ((finish (placeOrder tag i w r s)).coupling? n).map (·.state) = some st ∧
      ((finish (placeOrder tag i w r s)).coupling? n).map (·.command) = some cmd := by
  rw [placeOrder_active hfirst]
  have hq := setSlot_same s i (some ⟨tag, w, .queued, r, s.waitTimer w .active, none⟩)
  have hslot := startOrder_same hq
  rw [workTimer_setSlot] at hslot
  have hstart := startOrder_eq hq
  rw [hhand] at hstart
  have hcoupling : (startOrder i (s.setSlot i (some ⟨tag, w, .queued, r, s.waitTimer w .active, none⟩))).coupling? n =
      some (Coupling.inState st { c with command := cmd }) := by
    rw [hstart, wireHand_coupling?]
    exact congrArg (Option.map _) hc
  have hother (j : Fin 16) (p : Order) (hj : (startOrder i (s.setSlot i
      (some ⟨tag, w, .queued, r, s.waitTimer w .active, none⟩))).orders.slots[j] = some p) (hp : p.work.coupling? = some n) : j = i := by
    by_contra hji
    rw [startOrder_other hji, setSlot_other s _ hji] at hj
    exact hn j p hj hp
  generalize startOrder i (s.setSlot i (some ⟨tag, w, .queued, r, s.waitTimer w .active, none⟩)) = v at *
  have hend := (settle_keptOrder (by rfl) hother).settle ⟨.refl v, hslot, rfl⟩
  have hwritten : keptOrder i ⟨tag, w, .active, r, none, s.workTimer w⟩ n v (finish v) :=
    hend.after (kept_writeAsked hend.1) (by simp [finish]) (by simp [finish])
  obtain ⟨-, hs, hcs⟩ := hwritten
  rw [hcoupling] at hcs
  exact ⟨hs, by rw [hcs]; simp, by rw [hcs]; simp⟩

/-! #### O32 -/

theorem thrustOk_iff : s.thrustOk = true ↔ (s.prop.le.natAbs : Int) ≤ s.settings.coupling.releaseLimit := by
  simp [State.thrustOk, State.absLe]

/-- R160: what an order on a coupling needs: a face coupling a place of the face-winch pool. -/
def Coupling.place (c : Coupling) : Option Resource := if c.isFace then some .facePool else none

/-- R159: the first state of a HAUL, and of a RELEASE whose thrust condition holds. -/
theorem firstState_wire (c : Coupling) (hthrust : w.isRelease = true → s.thrustOk = true) :
    s.firstState w c.place = if c.isFace = true ∧ s.freePlaces .facePool = 0 then .queued else .active := by
  have hready : (w.isRelease && !s.thrustOk) = false := by
    cases h : w.isRelease <;> simp_all
  cases h : c.isFace <;> simp [State.firstState, Coupling.place, hready, h, Nat.pos_iff_ne_zero]

/-- R159: a posted order that starts. -/
theorem exec_postOrder_starts {spec : OrderSpec} {body : List Byte} {st : CouplingState} {cmd : WinchCmd} {c : Coupling} (hup : s.up = true)
    (ho : postOrder tag spec s = (finish (placeOrder tag i w r s), accept body))
    (hhand : ∀ u, handToBlock w u = setCouplingState n st (setCommand n cmd u)) (hc : s.coupling? n = some c)
    (hn : s.unnamed n) (hfirst : s.firstState w r = .active) :
    ∃ t, exec (.postOrder tag spec) s = .next t ∧ SameStores s t ∧
      t.orders.slots[i] = some ⟨tag, w, .active, r, none, s.workTimer w⟩ ∧ (t.coupling? n).map (·.state) = some st ∧
      (t.coupling? n).map (·.command) = some cmd ∧ t.port.answer = some ⟨.accepted, body⟩ := by
  have hs : SameStores s (finish (placeOrder tag i w r s)) := by simp [SameStores]
  obtain ⟨hslot, hst, hcmd⟩ := finish_placeOrder (tag := tag) (i := i) hhand hc hn hfirst
  generalize finish (placeOrder tag i w r s) = t at *
  exact ⟨t.answered (accept body), exec_of_accept hup (o := postOrder tag spec) rfl ho, hs, hslot, hst, hcmd, rfl⟩

/-- R159: a posted order that waits changes its slot alone. -/
theorem exec_postOrder_waits {spec : OrderSpec} {body : List Byte} (hup : s.up = true) (hq : s.quiet)
    (ho : postOrder tag spec s = (finish (placeOrder tag i w r s), accept body)) (hfirst : s.firstState w r ≠ .active) :
    exec (.postOrder tag spec) s = .next ((s.setSlot i
      (some ⟨tag, w, s.firstState w r, r, s.waitTimer w (s.firstState w r), none⟩)).answered ⟨.accepted, body⟩) := by
  have hq' : (s.setSlot i (some ⟨tag, w, s.firstState w r, r, s.waitTimer w (s.firstState w r), none⟩)).quiet := hq
  rw [placeOrder_idle hfirst, finish_of_quiet hq'] at ho
  exact exec_of_accept hup (o := postOrder tag spec) rfl ho

theorem postOrder_haul {c : Coupling} (htag : 1 ≤ tag) (hn : 1 ≤ n ∧ n ≤ 32)
    (hlive : ∀ x ∈ s.liveOrders, x.2.tag ≠ tag ∧ x.2.work.coupling? ≠ some n) (hc : s.coupling? n = some c)
    (hcap : s.notCapable c = false) (habs : s.nodeAbsent c = false) (hi : s.freeSlot = some i) :
    postOrder tag (.haul n) s = (finish (placeOrder tag i (.haul n) c.place s),
      accept (unsigned 2 tag ++ unsigned 1 i.val ++ unsigned 1 (s.firstState (.haul n) c.place).code ++ [0])) := by
  have hwell : OrderSpec.wellPosed (.haul n) = true := by simpa [OrderSpec.wellPosed] using hn
  have hres : s.resourceOf (.haul n) = c.place := by simp [State.resourceOf, hc, Coupling.place]
  rw [postOrder_wire htag hwell rfl hlive hc hcap habs rfl hi, hres]
  rfl

theorem postOrder_release {c : Coupling} {flag : Nat} (htag : 1 ≤ tag) (hn : 1 ≤ n ∧ n ≤ 32) (hflag : flag ≤ 1)
    (hlive : ∀ x ∈ s.liveOrders, x.2.tag ≠ tag ∧ x.2.work.coupling? ≠ some n) (hc : s.coupling? n = some c)
    (hcap : s.notCapable c = false) (habs : s.nodeAbsent c = false) (hdet : flag = 1 ∨ s.detached n = [])
    (hi : s.freeSlot = some i) :
    postOrder tag (.release n flag) s = (finish (placeOrder tag i (.release n (flag == 1) (s.detached n)) c.place s),
      accept (unsigned 2 tag ++ unsigned 1 i.val ++
        unsigned 1 (s.firstState (.release n (flag == 1) (s.detached n)) c.place).code ++ counted Pos.byte (s.detached n))) := by
  have hwell : OrderSpec.wellPosed (.release n flag) = true := by simpa [OrderSpec.wellPosed, hflag] using hn
  have hres : s.resourceOf (.release n flag) = c.place := by simp [State.resourceOf, hc, Coupling.place]
  have hheld : s.detachesTow (.release n flag) = false := by
    rcases hdet with rfl | hdet
    · rfl
    · simp [State.detachesTow, hdet]
  rw [postOrder_wire htag hwell rfl hlive hc hcap habs hheld hi, hres]
  rfl

/-- Settles O32: the accepted order's first state, its slot, and for one that starts what the rest of the command leaves alone. -/
theorem postedWireOrdersStartOrWait : Obligations.PostedWireOrdersStartOrWait := by
  unfold Obligations.PostedWireOrdersStartOrWait
  refine ⟨fun s tag n c i hup htag hn hlive hc hcap habs hi hplace => ?_,
    fun s tag n flag c i hup hq htag hn hflag hlive hc hcap habs hdet hi hhigh => ?_,
    fun s tag n flag c i hup hq htag hn hflag hlive hc hcap habs hi => ?_⟩
  · have ho := postOrder_haul htag hn hlive hc hcap habs hi
    have hfirst : s.firstState (.haul n) c.place = .active := by
      rw [firstState_wire c (by simp [Work.isRelease]), if_neg]
      rintro ⟨hface, hnone⟩
      rcases hplace with h | h
      · simp [h] at hface
      · omega
    have hbody : unsigned 2 tag ++ unsigned 1 i.val ++ unsigned 1 (s.firstState (.haul n) c.place).code ++ [0] =
        unsigned 2 tag ++ unsigned 1 i.val ++ [3, 0] := by
      rw [hfirst, List.append_assoc]
      rfl
    rw [hbody] at ho
    exact exec_postOrder_starts hup ho (fun _ => rfl) hc (unnamed_iff.2 fun x hx => (hlive x hx).2) hfirst
  · have ho := postOrder_release htag hn hflag hlive hc hcap habs hdet hi
    have hthrust : s.thrustOk = false := by
      rw [← Bool.not_eq_true, thrustOk_iff]
      omega
    have hfirst : s.firstState (.release n (flag == 1) (s.detached n)) c.place = .waiting := by
      simp [State.firstState, Work.isRelease, hthrust]
    have hx := exec_postOrder_waits hup hq ho (by simp [hfirst])
    rw [hfirst] at hx
    exact hx
  · intro low body queued
    have hthrust (hlow : low) : s.thrustOk = true := thrustOk_iff.2 hlow
    refine ⟨fun hqueued => ?_, fun hqueued hlow hdet => ?_, fun hqueued hlow hdet => ?_⟩
    · have hfirst : s.firstState (.haul n) c.place = .queued := by
        rw [firstState_wire c (by simp [Work.isRelease]), if_pos hqueued]
      have hx := exec_postOrder_waits hup hq (postOrder_haul htag hn hlive hc hcap habs hi) (by simp [hfirst])
      rw [hfirst, Coupling.place, if_pos hqueued.1] at hx
      exact hx
    · have hfirst : s.firstState (.release n (flag == 1) (s.detached n)) c.place = .queued := by
        rw [firstState_wire c (fun _ => hthrust hlow), if_pos hqueued]
      have hx := exec_postOrder_waits hup hq (postOrder_release htag hn hflag hlive hc hcap habs hdet hi) (by simp [hfirst])
      rw [hfirst, Coupling.place, if_pos hqueued.1] at hx
      exact hx
    · have ho := postOrder_release htag hn hflag hlive hc hcap habs hdet hi
      have hfirst : s.firstState (.release n (flag == 1) (s.detached n)) c.place = .active := by
        rw [firstState_wire c (fun _ => hthrust hlow), if_neg hqueued]
      rw [hfirst] at ho
      exact exec_postOrder_starts hup ho (fun _ => rfl) hc (unnamed_iff.2 fun x hx => (hlive x hx).2) hfirst

end Sys2Proof.Machine
end

section
/-! ### R13, R35, R48, R50: polls end in a reply or a miss -/

namespace Sys2Proof.Machine

variable {s t u : State}

/-! #### R50: a miss -/

/-- R52: a record that is put in a state. -/
def Node.put (st : NodeState) (d : Node) : Node := if d.state = st then d else d.enter st

@[simp] theorem Node.put_spec (st : NodeState) (d : Node) : (d.put st).state = st ∧ (d.put st).misses = d.misses ∧
    (d.put st).heldFlag = d.heldFlag ∧ (d.put st).address = d.address ∧ (d.put st).last = d.last ∧
    (d.put st).faultSeen = d.faultSeen := by
  unfold Node.put
  split
  · simp_all
  · simp [Node.enter]

theorem setNodeState_node?_same (n : Nat) (st : NodeState) (s : State) :
    (setNodeState n st s).node? n = (s.node? n).map (Node.put st) := by
  rw [setNodeState_node?]
  congr 1
  funext d
  by_cases hst : d.state = st <;> simp [Node.put, hst]

/-- R50: a record after a miss. -/
def Node.missed (d : Node) : Node :=
  let e := { d with misses := d.misses + 1, heldFlag := false }
  let e := if d.state = .active then e.put .silent else e
  if 4 ≤ d.misses + 1 then if d.state = .departing then e.put .departed else e.put .lost else e

theorem pollMiss_node? {n : Nat} {d : Node} (hd : s.node? n = some d) : (pollMiss n s).node? n = some d.missed := by
  have hmiss : (s.onNode n fun d => { d with misses := d.misses + 1, heldFlag := false }).node? n =
      some { d with misses := d.misses + 1, heldFlag := false } := by
    rw [node?_onNode s n n (fun d => { d with misses := d.misses + 1, heldFlag := false }) fun _ => rfl, hd]
    simp
  have hnotice (m : Nat) (u : State) : (missNotice n m u).node? n = u.node? n := by simp [State.node?]
  have hlost (u : State) : (nodeLost n u).node? n = (setNodeState n .lost u).node? n := by simp [State.node?, nodeLost]
  simp only [pollMiss, hd, Node.missed]
  split_ifs <;>
    simp only [hlost, setNodeState_node?_same, hnotice, hmiss, Option.map_some]

theorem Node.missed_spec (d : Node) : d.missed.misses = d.misses + 1 ∧ d.missed.heldFlag = false ∧ d.missed.address = d.address ∧
    d.missed.last = d.last ∧ d.missed.faultSeen = d.faultSeen ∧
    d.missed.state = (if 4 ≤ d.misses + 1 then (if d.state = .departing then .departed else .lost)
      else if d.state = .active then .silent else d.state) := by
  unfold Node.missed
  split_ifs <;> simp

theorem pollMiss_phase (n : Nat) (s : State) : (pollMiss n s).line.phase = s.line.phase := by
  rw [((lineKept_notice s).pollMiss n (.refl s)).line]

theorem startNext_node? (n : Nat) (s : State) : (startNext s).node? n = s.node? n := by
  simp [State.node?, startNext_nodes]

/-- R35: an exchange is a poll of a record. -/
def TxFrame.polls (tx : TxFrame) (n : Nat) : Prop := (∃ a cs again, tx = .pollWinch a n cs again) ∨ ∃ a v again, tx = .pollBow a n v again

theorem TxFrame.polls.miss {tx : TxFrame} {n : Nat} (h : tx.polls n) (s : State) : exchangeMiss tx s = pollMiss n s := by
  rcases h with ⟨a, cs, again, rfl⟩ | ⟨a, v, again, rfl⟩ <;> rfl

theorem goodFrame_marked {chars : List Byte} {lost : Bool} (h : markOf chars lost ≠ .none) : goodFrame chars lost = none := by
  unfold goodFrame
  split
  · contradiction
  · rfl

theorem turnaround_node? (n : Nat) (s : State) : (turnaround s).node? n = s.node? n := rfl

/-- R35, R50: the state after a missed poll. -/
theorem missed_end {tx : TxFrame} {n : Nat} {d : Node} (htx : tx.polls n) (hd : s.node? n = some d) :
    SameStores s (finish (exchangeMiss tx (turnaround s))) ∧
      (finish (exchangeMiss tx (turnaround s))).node? n = some d.missed ∧
      (finish (exchangeMiss tx (turnaround s))).line.phase = .turnaround := by
  refine ⟨by simp [SameStores], ?_, ?_⟩
  · rw [htx.miss]
    have hline : (finish (pollMiss n (turnaround s))).node? n = (pollMiss n (turnaround s)).node? n := by simp [State.node?]
    rw [hline, pollMiss_node? (turnaround_node? n s ▸ hd)]
  · rw [htx.miss, (finish_frame _).1, pollMiss_phase]
    rfl

/-! #### R48: a good reply -/

/-- R48: a record after a good reply. -/
def Node.replied (last : LastReply) (faulty : Bool) (d : Node) : Node :=
  let e := { d with misses := 0 }
  let e := if d.state = .silent then e.put .active else e
  { e with last := some last, faultSeen := e.faultSeen || faulty }

theorem Node.replied_spec (last : LastReply) (faulty : Bool) (d : Node) : (d.replied last faulty).misses = 0 ∧
    (d.replied last faulty).state = (if d.state = .silent then .active else d.state) ∧ (d.replied last faulty).last = some last ∧
    (d.replied last faulty).faultSeen = (d.faultSeen || faulty) ∧ (d.replied last faulty).heldFlag = d.heldFlag := by
  unfold Node.replied
  split_ifs <;> simp

theorem takeReply_node? {d : Node} (last : LastReply) (faulty : Bool) (hd : s.node? d.serial = some d) :
    (takeReply d last faulty s).node? d.serial = some (d.replied last faulty) := by
  have hzero : (s.onNode d.serial fun d => { d with misses := 0 }).node? d.serial = some { d with misses := 0 } := by
    rw [node?_onNode s d.serial d.serial (fun d => { d with misses := 0 }) fun _ => rfl, hd]
    simp
  have hlast (u : State) : (u.onNode d.serial fun d => { d with last := some last, faultSeen := d.faultSeen || faulty }).node? d.serial =
      (u.node? d.serial).map fun d => { d with last := some last, faultSeen := d.faultSeen || faulty } := by
    rw [node?_onNode u d.serial d.serial (fun d => { d with last := some last, faultSeen := d.faultSeen || faulty }) fun _ => rfl]
    simp
  simp only [takeReply, Node.replied, hlast]
  split_ifs <;> simp only [setNodeState_node?_same, hzero, Option.map_some]

/-- R165: a winch with no order on it is ACTIVE again to no effect. -/
theorem winchActive_idle {d : Node} (h : s.ordersOf d.serial = []) : winchActive d s = s := by
  simp [winchActive, h]

/-- R48: where no live order is on its couplings, a reply makes a winch ACTIVE and touches neither these nor the orders. -/
theorem takeReply_idle {d : Node} (last : LastReply) (faulty : Bool) (h : s.ordersOf d.serial = []) :
    (takeReply d last faulty s).sup = s.sup ∧ (takeReply d last faulty s).orders = s.orders := by
  have hwake : (setNodeState d.serial .active (s.onNode d.serial fun d => { d with misses := 0 })).sup = s.sup ∧
      (setNodeState d.serial .active (s.onNode d.serial fun d => { d with misses := 0 })).orders = s.orders := by
    unfold setNodeState
    split
    · exact ⟨rfl, rfl⟩
    · next e he =>
      have hser : e.serial = d.serial := by simpa using List.find?_some he
      split
      · exact ⟨rfl, rfl⟩
      · have hidle : winchActive (e.enter .active)
            ((s.onNode d.serial fun d => { d with misses := 0 }).onNode d.serial fun d => d.enter .active) =
              (s.onNode d.serial fun d => { d with misses := 0 }).onNode d.serial fun d => d.enter .active :=
          winchActive_idle (show s.ordersOf e.serial = [] from hser ▸ h)
        simp [nodeNotices, supervisorNotice, hidle, nodeReport, bowNotice]
  unfold takeReply
  split_ifs
  · exact hwake
  · exact ⟨rfl, rfl⟩

/-! #### R13: the couplings of a reply -/

/-- R13: a report reaches a coupling that no order names, and nothing else of the tables. -/
theorem couplingReply_idle {m : Nat} (r : ChannelReport) (sent : WinchCmd) (ho : s.orderOn m = none) :
    (couplingReply m r sent s).orders = s.orders ∧ (couplingReply m r sent s).line = s.line ∧
      ∀ n, n ≠ m → (couplingReply m r sent s).coupling? n = s.coupling? n := by
  cases hc : s.coupling? m with
  | none => simp [couplingReply, hc]
  | some c =>
    rw [couplingReply_free r sent hc ho]
    refine ⟨by simp, by simp, fun n hn => ?_⟩
    rw [setCouplingState_other _ _ hn, coupling?_onCoupling s m n (Coupling.reported r sent) fun _ => rfl]
    simp [hn]

/-- R13: one coupling of a reply. -/
def takeChannel (rs : List ChannelReport) (sent : List WinchCmd) (c : Coupling) (s : State) : State :=
  match channelOf rs sent c.channel with
  | some (r, cmd) => couplingReply c.number r cmd s
  | none => s

theorem winchReply_eq (n : Nat) (rs : List ChannelReport) (sent : List WinchCmd) (s : State) :
    winchReply n rs sent s = forAll (s.sup.couplings.filter (·.serial == n)) (takeChannel rs sent) s := rfl

/-- The orders, the master and the settings are as they were, and so are the couplings of the numbers of a set. -/
def besides (N : Nat → Prop) (s t : State) : Prop := t.orders = s.orders ∧ t.line = s.line ∧ t.store = s.store ∧
  ∀ n, N n → t.coupling? n = s.coupling? n

theorem orderOn_of_orders {n : Nat} (h : t.orders = s.orders) : t.orderOn n = s.orderOn n := by
  unfold State.orderOn State.liveOrders
  rw [h]

theorem takeChannel_besides {N : Nat → Prop} (rs : List ChannelReport) (sent : List WinchCmd) {c : Coupling}
    (ho : s.orderOn c.number = none) (hN : ¬N c.number) (h : besides N s t) : besides N s (takeChannel rs sent c t) := by
  obtain ⟨h1, h2, h3, h4⟩ := h
  unfold takeChannel
  split
  · next r cmd _ =>
    obtain ⟨g1, g2, g4⟩ := couplingReply_idle r cmd ((orderOn_of_orders h1).trans ho)
    exact ⟨g1.trans h1, g2.trans h2, (by simp : _ = t.store).trans h3, fun n hn => (g4 n fun he => hN (he ▸ hn)).trans (h4 n hn)⟩
  · exact ⟨h1, h2, h3, h4⟩

theorem takeChannels_besides {N : Nat → Prop} (rs : List ChannelReport) (sent : List WinchCmd) {l : List Coupling}
    (ho : ∀ c ∈ l, s.orderOn c.number = none) (hN : ∀ c ∈ l, ¬N c.number) : besides N s (forAll l (takeChannel rs sent) s) :=
  forAll_induct (P := besides N s) _ _ _ (fun c hc _ hu => takeChannel_besides rs sent (ho c hc) (hN c hc) hu)
    ⟨rfl, rfl, rfl, fun _ _ => rfl⟩

/-- R13: each coupling of a reply takes its channel's report and is classified. -/
theorem takeChannels_coupling? {rs : List ChannelReport} {sent : List WinchCmd} {l : List Coupling} {c : Coupling} {r : ChannelReport}
    (ho : ∀ c ∈ l, s.orderOn c.number = none) (hl : (l.map (·.number)).Nodup) (hm : c ∈ l) (hc : s.coupling? c.number = some c)
    (hch : 1 ≤ c.channel) (hr : rs[c.channel - 1]? = some r) :
    ∃ c', (forAll l (takeChannel rs sent) s).coupling? c.number = some c' ∧ c'.tension = r.tension ∧ c'.flags = some r.flags ∧
      c'.state = classify (s.settings.coupling.thresholds c.cls) r.tension r.flags c.state := by
  obtain ⟨as, bs, rfl⟩ := List.append_of_mem hm
  have hnum : (∀ a ∈ as, a.number ≠ c.number) ∧ ∀ b ∈ bs, b.number ≠ c.number := by
    simp only [List.map_append, List.map_cons, List.nodup_append, List.nodup_cons, List.mem_map, List.mem_cons] at hl
    obtain ⟨-, ⟨hb, -⟩, ha⟩ := hl
    exact ⟨fun a h he => ha _ ⟨a, h, rfl⟩ _ (.inl rfl) he, fun b h he => hb ⟨b, h, he⟩⟩
  have happ : forAll (as ++ c :: bs) (takeChannel rs sent) s =
      forAll bs (takeChannel rs sent) (takeChannel rs sent c (forAll as (takeChannel rs sent) s)) := by
    simp [forAll, List.foldl_append]
  obtain ⟨h1, -, h3, h4⟩ := takeChannels_besides (N := (· = c.number)) rs sent
    (fun a ha => ho a (List.mem_append_left _ ha)) hnum.1
  rw [happ]
  generalize forAll as (takeChannel rs sent) s = u at h1 h3 h4
  have hset : u.settings = s.settings := by simp [settings_eq, h3]
  have hchan : channelOf rs sent c.channel = some (r, (sent[c.channel - 1]?).getD .none) := by
    have : c.channel ≠ 0 := by omega
    simp [channelOf, this, hr]
  have htake : takeChannel rs sent c u = couplingReply c.number r ((sent[c.channel - 1]?).getD .none) u := by
    simp only [takeChannel, hchan]
  have hou : ∀ b ∈ as ++ c :: bs, u.orderOn b.number = none := fun b hb => (orderOn_of_orders h1).trans (ho b hb)
  obtain ⟨c', hc', hrest⟩ := couplingReply_coupling? r ((sent[c.channel - 1]?).getD .none) ((h4 _ rfl).trans hc)
    (hou c (by simp))
  obtain ⟨g1, -⟩ := couplingReply_idle r ((sent[c.channel - 1]?).getD .none) (hou c (by simp))
  rw [htake]
  have hafter := takeChannels_besides (N := (· = c.number)) rs sent (l := bs)
    (fun b hb => (orderOn_of_orders g1).trans (hou b (by simp [hb]))) hnum.2
  exact ⟨c', (hafter.2.2.2 _ rfl).trans hc', hset ▸ hrest⟩

/-- R7: a number has one record. -/
theorem coupling?_of_mem (hk : TablesOk s) {c : Coupling} (hc : c ∈ s.sup.couplings) : s.coupling? c.number = some c := by
  obtain ⟨-, ⟨-, hord⟩, -⟩ := hk
  have hnodup : (s.sup.couplings.map (·.number)).Nodup := hord.imp fun hlt => Nat.ne_of_lt hlt
  have hsome : (s.coupling? c.number).isSome = true := List.find?_isSome.2 ⟨c, hc, by simp⟩
  obtain ⟨x, hx⟩ := Option.isSome_iff_exists.1 hsome
  have hnum : x.number = c.number := by simpa using List.find?_some hx
  rw [hx, List.inj_on_of_nodup_map hnodup (List.mem_of_find?_eq_some hx) hc hnum]

/-- R157: no live order names a coupling of a serial that no live order works on. -/
theorem orderOn_of_ordersOf {n : Nat} {c : Coupling} (h : s.ordersOf n = []) (hc : s.coupling? c.number = some c)
    (hs : c.serial = n) : s.orderOn c.number = none := orderOn_none.2 fun x hx he => by
  have : x ∈ s.ordersOf n := List.mem_filter.2 ⟨hx, by simp [State.worksOn, he, hc, hs]⟩
  simp [h] at this

theorem earnRepoll_node? (d : Node) (body : List Byte) (again : Bool) (n : Nat) (s : State) :
    (earnRepoll d body again s).node? n = s.node? n ∧ (earnRepoll d body again s).line.phase = s.line.phase := by
  unfold earnRepoll
  split <;> exact ⟨rfl, rfl⟩

/-- R48: the record of a winch, the phase and the couplings after a good reply, before the end of the command. -/
theorem winchGood_record {d : Node} (cs : List WinchCmd) (body : List Byte) (hk : TablesOk s) (hd : s.node? d.serial = some d)
    (h : s.ordersOf d.serial = []) :
    (winchGood d cs body s).node? d.serial =
        some (d.replied (.winch (winchReports body)) ((winchReports body).any (·.flags.fault))) ∧
      (winchGood d cs body s).line.phase = s.line.phase ∧ (winchGood d cs body s).orders = s.orders ∧
      ∀ n c r, s.coupling? n = some c → c.serial = d.serial → 1 ≤ c.channel → (winchReports body)[c.channel - 1]? = some r →
        ∃ c', (winchGood d cs body s).coupling? n = some c' ∧ c'.tension = r.tension ∧ c'.flags = some r.flags ∧
          c'.state = classify (s.settings.coupling.thresholds c.cls) r.tension r.flags c.state := by
  have hrec := takeReply_node? (.winch (winchReports body)) ((winchReports body).any (·.flags.fault)) hd
  obtain ⟨hsup, hord⟩ := takeReply_idle (.winch (winchReports body)) ((winchReports body).any (·.flags.fault)) h
  have hphase : (takeReply d (.winch (winchReports body)) ((winchReports body).any (·.flags.fault)) s).line.phase = s.line.phase := by
    rw [((lineKept_notice s).takeReply d _ _ (.refl s)).line]
  have hset : (takeReply d (.winch (winchReports body)) ((winchReports body).any (·.flags.fault)) s).settings = s.settings := by
    simp [settings_eq]
  unfold winchGood
  dsimp only
  generalize takeReply d (.winch (winchReports body)) ((winchReports body).any (·.flags.fault)) s = u at *
  have hcoupling (n : Nat) : u.coupling? n = s.coupling? n := coupling?_of_couplings (by rw [hsup])
  have hmem {c : Coupling} (hc : c ∈ u.sup.couplings.filter (·.serial == d.serial)) :
      s.coupling? c.number = some c ∧ c.serial = d.serial := by
    obtain ⟨hm, hser⟩ := List.mem_filter.1 hc
    exact ⟨coupling?_of_mem hk (hsup ▸ hm), by simpa using hser⟩
  have hfree : ∀ c ∈ u.sup.couplings.filter (·.serial == d.serial), u.orderOn c.number = none := fun c hc => by
    obtain ⟨hc', hser⟩ := hmem hc
    exact (orderOn_of_orders hord).trans (orderOn_of_ordersOf h hc' hser)
  obtain ⟨h1, h2, -, -⟩ := takeChannels_besides (N := fun _ => False) (winchReports body) cs hfree (fun _ _ => id)
  rw [winchReply_eq]
  refine ⟨?_, by rw [h2, hphase], h1.trans hord, fun n c r hc hser hch hr => ?_⟩
  · rw [State.node?, h2]
    exact hrec
  · have hnum : c.number = n := by simpa using List.find?_some hc
    subst hnum
    have hnodup : ((u.sup.couplings.filter (·.serial == d.serial)).map (·.number)).Nodup := by
      obtain ⟨-, ⟨-, hpw⟩, -⟩ := hk
      rw [hsup]
      exact (hpw.imp fun hlt => Nat.ne_of_lt hlt : (s.sup.couplings.map (·.number)).Nodup).sublist
        ((List.filter_sublist).map _)
    have hm : c ∈ u.sup.couplings.filter (·.serial == d.serial) :=
      List.mem_filter.2 ⟨hsup ▸ List.mem_of_find?_eq_some hc, by simpa using hser⟩
    exact hset ▸ takeChannels_coupling? hfree hnodup hm ((hcoupling _).trans hc) hch hr

/-- R48, log entry 8: the end of the command leaves a coupling that no live order names as the reply left it. -/
theorem finish_coupling? {n : Nat} (hn : s.unnamed n) : (finish s).coupling? n = s.coupling? n :=
  (finish_keptCoupling hn ⟨.refl s, rfl⟩).2

/-- Settles O20: a miss and a good reply by the record, the phase and the couplings they leave. -/
theorem pollsEndInAReplyOrAMiss : Obligations.PollsEndInAReplyOrAMiss := by
  unfold Obligations.PollsEndInAReplyOrAMiss
  refine ⟨fun s tx d chars lost hup _ hd hst htx => ?_, fun s d cs again chars f hup _ hk hd hidle hph hgood haddr hkind hlen => ?_⟩
  · intro missed
    have hpoll : tx.polls d.serial := by
      rcases htx with ⟨cs, again, -, rfl⟩ | ⟨v, again, -, rfl⟩
      · exact .inl ⟨_, _, _, rfl⟩
      · exact .inr ⟨_, _, _, rfl⟩
    obtain ⟨hs, hnode, hphase⟩ := missed_end hpoll hd
    have hmissed {t : State} (ht : t.node? d.serial = some d.missed) : missed t := ⟨_, ht, d.missed_spec⟩
    refine ⟨fun hph => ?_, fun hph => ?_, fun hph hmark => ?_⟩
    · have hend : bargeFrameSilence s = exchangeMiss tx (turnaround s) := by simp only [bargeFrameSilence, hph]
      refine ⟨_, ?_, hs, hmissed hnode, hphase⟩
      rw [exec_of_event (f := fun s => finish (bargeFrameSilence s)) rfl, whenUp_of_up hup, hend]
    · have hend : replyWindowExpiry s = startNext (finish (exchangeMiss tx (turnaround s))) := by
        simp only [replyWindowExpiry, hph]
      refine ⟨_, ?_, ?_, hmissed ((startNext_node? _ _).trans hnode)⟩
      · rw [exec_of_event (f := replyWindowExpiry) rfl, whenUp_of_up hup, hend]
      · simp [SameStores]
    · have hend : bargeFrameReceived chars lost s = exchangeMiss tx (turnaround s) := by
        simp only [bargeFrameReceived, hph, goodFrame_marked hmark, exchangeEnds]
      refine ⟨_, ?_, hs, hmissed hnode, hphase⟩
      rw [exec_of_event (f := fun s => finish (bargeFrameReceived chars lost s)) rfl, whenUp_of_up hup, hend]
  · have hgood' : exchangeGood (.pollWinch d.address d.serial cs again) f (turnaround s) =
        earnRepoll d f.body again (winchGood d cs f.body (turnaround s)) := by
      simp only [exchangeGood, turnaround_node?, hd]
    have hexp : expected (.pollWinch d.address d.serial cs again) f = true := by
      simp [expected, haddr, hkind, hlen, kindReply]
    have hend : bargeFrameReceived chars false s = earnRepoll d f.body again (winchGood d cs f.body (turnaround s)) := by
      simp only [bargeFrameReceived, hph, hgood, exchangeEnds, hexp, if_true, hgood']
    have hexec : exec (.bargeFrameReceived chars false) s =
        .next (finish (earnRepoll d f.body again (winchGood d cs f.body (turnaround s)))) := by
      rw [exec_of_event (f := fun s => finish (bargeFrameReceived chars false s)) rfl, whenUp_of_up hup, hend]
    obtain ⟨hrec, hphase, horders, hcouplings⟩ := winchGood_record (s := turnaround s) cs f.body hk hd hidle
    have hs : SameStores s (finish (earnRepoll d f.body again (winchGood d cs f.body (turnaround s)))) := by
      simp [SameStores, winchGood]
    have hline (u : State) : (finish u).node? d.serial = u.node? d.serial := by simp [State.node?]
    have hphase' (u : State) : (finish u).line.phase = u.line.phase := by simp
    obtain ⟨hmisses, hstate, hlast, hfault, hheld⟩ :=
      d.replied_spec (.winch (winchReports f.body)) ((winchReports f.body).any (·.flags.fault))
    refine ⟨_, _, hexec, hs, (hline _).trans ((earnRepoll_node? _ _ _ _ _).1.trans hrec), hmisses, hstate, hlast, hfault, hheld,
      (hphase' _).trans ((earnRepoll_node? _ _ _ d.serial _).2.trans hphase), fun n c r hc hser hch hr => ?_⟩
    have hnum : c.number = n := by simpa using List.find?_some hc
    subst hnum
    have hfree : s.orderOn c.number = none := orderOn_of_ordersOf hidle hc hser
    have hun : (earnRepoll d f.body again (winchGood d cs f.body (turnaround s))).unnamed c.number := by
      refine unnamed_iff.2 (orderOn_none.1 ((orderOn_of_orders ?_).trans hfree))
      simpa using horders
    rw [finish_coupling? hun, coupling?_of_couplings (s := winchGood d cs f.body (turnaround s)) (by simp)]
    exact hcouplings _ c r hc hser hch hr

end Sys2Proof.Machine
end

section
/-! ### R56, R78, R100, R122, R156, R170: the state after reset -/

namespace Sys2Proof.Machine

theorem reset_orders (i : Fin 16) : State.reset.orders.slots[i] = none := by
  revert i; decide

theorem reset_tables : TablesOk State.reset := by
  have hr : RecordTablesOk Record.blank := ⟨makeupOk_nil, by simp [CouplingsOk, Record.blank]⟩
  exact ⟨makeupOk_nil, by simp [CouplingsOk, State.reset], hr, fun r h => Option.some.inj h ▸ hr⟩

theorem reset_legLog : LegLogOk State.reset := by
  have hl : LegsOk (.fresh ⟨0, false⟩) := by simp [LegsOk, Legs.fresh]
  exact ⟨hl, hl, fun r h => Option.some.inj h ▸ hl⟩

theorem reset_towFigures : TowFiguresOk State.reset := ⟨rfl, rfl, rfl, rfl⟩

theorem reset_lever : LeverOk State.reset := rfl

theorem reset_demand : DemandOk State.reset := ⟨by decide, by decide⟩

theorem reset_steering : SteeringOk State.reset := ⟨rfl, rfl, by decide⟩

theorem reset_settings : SettingsOk State.reset := by
  intro sec
  cases sec <;> rfl

/-- Settles O60, block by block. -/
theorem stateAfterReset : Obligations.StateAfterReset := by
  unfold Obligations.StateAfterReset
  refine ⟨reset_towFigures, reset_tables, ⟨ordersOk_of_empty _ reset_orders, ?_, rfl⟩, ⟨rfl, ?_⟩,
    ⟨reset_lever, rfl, rfl, rfl, rfl, rfl⟩, ⟨reset_demand, ?_⟩, ⟨reset_steering, rfl, rfl, rfl, ?_⟩, ⟨reset_legLog, rfl, rfl⟩, ?_, reset_settings, rfl⟩
  · unfold PlacesOk
    decide
  · simp [NodesOk, State.reset]
  · decide
  · decide
  · simp [ReportQueueOk, changesDistinct, State.reset]

end Sys2Proof.Machine
end

section
/-! ### R32, R35 to R38, R41, R45 to R47: the turnaround and the timers of the line -/

namespace Sys2Proof.Machine

variable {s : State}

/-! #### The record of a serial -/

theorem finish_node? (n : Nat) (s : State) : (finish s).node? n = s.node? n := by simp [State.node?]

theorem onLine_node? {f : Line → Line} (n : Nat) (s : State) (hf : (f s.line).nodes = s.line.nodes) :
    (s.onLine f).node? n = s.node? n := by
  simp [State.node?, hf]

/-- An operation changes the record of one serial, and no other. -/
def actsOn (n : Nat) (f : State → State) (g : Node → Node) : Prop :=
  ∀ s m, (f s).node? m = (s.node? m).map fun d => if m = n then g d else d

namespace actsOn

variable {n : Nat} {f f' : State → State} {g g' : Node → Node}

theorem same (h : actsOn n f g) (s : State) : (f s).node? n = (s.node? n).map g := by simp [h s n]

theorem other (h : actsOn n f g) {m : Nat} (hm : m ≠ n) (s : State) : (f s).node? m = s.node? m := by simp [h s m, hm]

theorem comp (h' : actsOn n f' g') (h : actsOn n f g) : actsOn n (fun s => f' (f s)) (fun d => g' (g d)) := fun s m => by
  rw [h', h, Option.map_map]
  congr 1
  funext d
  by_cases hm : m = n <;> simp [hm]

theorem ite {p : Prop} [Decidable p] (h : actsOn n f g) (h' : actsOn n f' g') :
    actsOn n (fun s => if p then f s else f' s) (fun d => if p then g d else g' d) := by
  by_cases hp : p
  · simpa [hp] using h
  · simpa [hp] using h'

end actsOn

theorem actsOn_id (n : Nat) : actsOn n (fun s => s) (fun d => d) := fun s m => by simp

theorem onNode_actsOn (n : Nat) (f : Node → Node) (hf : ∀ d, (f d).serial = d.serial) : actsOn n (fun s => s.onNode n f) f :=
  fun s m => node?_onNode s n m f hf

/-- R52: a record is put in a state. -/
theorem setNodeState_actsOn (n : Nat) (st : NodeState) : actsOn n (setNodeState n st) (Node.put st) := fun s m => by
  rw [setNodeState_node?]
  congr 1
  funext d
  by_cases hm : m = n <;> by_cases hst : d.state = st <;> simp [Node.put, hm, hst]

/-- R38, R44: a record that is lost: DEPARTED where it is marked. -/
def Node.gone (d : Node) : Node := d.put (if d.departMark then .departed else .lost)

theorem nodeLost_node? (n m : Nat) (s : State) : (nodeLost n s).node? m = (setNodeState n .lost s).node? m := by
  simp [State.node?, nodeLost]

/-- R38, R44: a record is lost. -/
theorem loseNode_actsOn (n : Nat) : actsOn n (loseNode n) Node.gone := fun s m => by
  unfold loseNode
  split
  next hn =>
    by_cases hm : m = n
    · simp [hm, hn]
    · simp [hm]
  next d hd =>
    by_cases hm : m = n
    · subst hm
      cases hmark : d.departMark <;> simp [hmark, nodeLost_node?, (setNodeState_actsOn m _).same, hd, Node.gone]
    · cases hmark : d.departMark <;> simp [nodeLost_node?, (setNodeState_actsOn n _).other hm, hm]

/-! #### R45, R49: the next frame -/

/-- R46, R47: a poll is put on the line; the demand in it is all else that changes. -/
theorem poll_line (d : Node) (again : Bool) (s : State) :
    (poll d again s).line = { s.line with phase := .sending (s.pollOf d again) } := by
  unfold poll send
  dsimp only
  split <;> rfl

theorem poll_besides (d : Node) (again : Bool) (s : State) :
    poll d again s = { s with line := (poll d again s).line, steer := (poll d again s).steer } := by
  unfold poll send
  dsimp only
  split <;> rfl

/-- R46: a poll of a winch stores no demand. -/
theorem poll_winch {d : Node} (hd : d.kind = .winch) (again : Bool) (s : State) : (poll d again s).steer = s.steer := by
  simp [poll, hd, send]

/-- R41, R44: the joining slot. -/
theorem joiningSlot_eq (s : State) : joiningSlot s = send (match s.line.handshake with
    | none => .invite
    | some h => if h.deny then .assignDeny h.serial else .assign h.serial h.address) (s.onLine fun l => { l with walk := 1 }) := by
  unfold joiningSlot
  dsimp only [onLine_line]
  cases s.line.handshake <;> rfl

theorem startNext_repoll {d : Node} (h : s.repollNode = some d) :
    startNext s = poll d true (s.onLine fun l => { l with repoll := none }) := by
  simp [startNext, h]

theorem startNext_walk {d : Node} (hr : s.repollNode = none) (h : s.walkNode = some d) : startNext s =
    poll d false ((s.onLine fun l => { l with repoll := none }).onLine fun l => { l with walk := d.address + 1 }) := by
  simp [startNext, hr, h]

theorem startNext_joining (hr : s.repollNode = none) (h : s.walkNode = none) :
    startNext s = joiningSlot (s.onLine fun l => { l with repoll := none }) := by
  simp [startNext, hr, h]

theorem repollNode_none (h : s.line.repoll = none) : s.repollNode = none := by simp [State.repollNode, h]

theorem polled_iff (st : NodeState) : st.polled = true ↔ st = .active ∨ st = .silent ∨ st = .departing := by
  simp [NodeState.polled, or_assoc]

/-- In a list whose keys rise, the record found is the one with the lowest key. -/
theorem find?_lowest {α : Type} {key : α → Nat} {p : α → Bool} {l : List α} (hl : l.Pairwise fun a b => key a < key b) {d : α}
    (hd : d ∈ l) (hp : p d = true) (hmin : ∀ e ∈ l, p e = true → key d ≤ key e) : l.find? p = some d := by
  induction l with
  | nil => cases hd
  | cons a l ih =>
    obtain ⟨ha, hl⟩ := List.pairwise_cons.1 hl
    rcases List.mem_cons.1 hd with rfl | hd
    · exact List.find?_cons_of_pos hp
    · have hpa : ¬p a = true := fun hpa => absurd (hmin a List.mem_cons_self hpa) (Nat.not_le.2 (ha d hd))
      rw [List.find?_cons_of_neg hpa]
      exact ih hl hd fun e he => hmin e (List.mem_cons_of_mem a he)

/-- R45: the walk takes the record with the lowest address it has still to reach. -/
theorem walkNode_lowest (hk : NodesOk s) {d : Node} (hd : d ∈ s.line.nodes) (hdue : (s.line.walk ≤ d.address && d.state.polled) = true)
    (hmin : ∀ e ∈ s.line.nodes, (s.line.walk ≤ e.address && e.state.polled) = true → d.address ≤ e.address) :
    s.walkNode = some d := find?_lowest (List.pairwise_map.1 hk.1) hd hdue hmin

theorem walkNode_none (h : ∀ d ∈ s.line.nodes, ¬(s.line.walk ≤ d.address && d.state.polled) = true) : s.walkNode = none :=
  List.find?_eq_none.2 h

theorem exec_turnaroundExpiry (hup : s.up = true) (hph : s.line.phase = .turnaround) :
    exec .turnaroundExpiry s = .next (startNext s) := by
  rw [exec_of_event (f := turnaroundExpiry) rfl, whenUp_of_up hup, turnaroundExpiry, if_pos hph]

/-- R38: a rejoin timer that runs out. -/
theorem exec_rejoinTimerExpiry {d : Node} (hup : s.up = true) (hd : s.node? d.serial = some d) (hst : d.state = .joining)
    (hrun : d.rejoinRunning = true) : exec (.rejoinTimerExpiry d.serial) s = .next (finish (loseNode d.serial
      (s.onLine fun l => { l with handshake := l.handshake.map (·.expired d.serial d.departMark) }))) := by
  rw [exec_of_event (f := fun s => finish (rejoinTimerExpiry d.serial s)) rfl, whenUp_of_up hup, rejoinTimerExpiry]
  simp [hd, hst, hrun]

/-- Settles O18: the next frame by the record the walk reaches, and each timer by its command. -/
theorem lineTimersAndTurnsSendFrames : Obligations.LineTimersAndTurnsSendFrames := by
  unfold Obligations.LineTimersAndTurnsSendFrames
  refine ⟨fun s hup hk hph hrep => ?_, fun s hup => ⟨fun tx hph => ?_, fun hst hph => ?_, fun hst hph => ?_,
    fun d hd hst hrun => ?_⟩⟩
  · intro due
    have hdue (d : Node) : due d ↔ (s.line.walk ≤ d.address && d.state.polled) = true := by
      simp [due, polled_iff]
    have hr := repollNode_none hrep
    refine ⟨fun d hd hd' hmin => ?_, fun hnone => ?_⟩
    · have hw : s.walkNode = some d :=
        walkNode_lowest hk hd ((hdue d).1 hd') fun e he he' => hmin e he ((hdue e).2 he')
      refine ⟨_, (exec_turnaroundExpiry hup hph).trans (congrArg _ (startNext_walk hr hw)), ?_, fun hkind => ?_, fun hkind => ?_⟩
      · exact poll_besides _ _ _
      · rw [poll_besides, poll_winch hkind, poll_line]
        simp only [State.pollOf, hkind]
        rfl
      · rw [poll_line]
        simp only [State.pollOf, hkind]
        rfl
    · have hw : s.walkNode = none := walkNode_none fun d hd => mt (hdue d).2 (hnone d hd)
      rw [exec_turnaroundExpiry hup hph, startNext_joining hr hw, joiningSlot_eq]
      rfl
  · rw [exec_of_event (f := bargeReplyStart) rfl, whenUp_of_up hup, bargeReplyStart]
    simp only [hph]
    rfl
  · rw [exec_of_event (f := faultRecoveryExpiry) rfl, whenUp_of_up hup, faultRecoveryExpiry, if_pos ⟨hst, hph⟩]
    rfl
  · rw [exec_of_event (f := downRetryExpiry) rfl, whenUp_of_up hup, downRetryExpiry, if_pos ⟨hst, hph⟩]
    rfl
  · refine ⟨_, d.gone, exec_rejoinTimerExpiry hup hd hst hrun, by simp [SameStores], ?_, ?_⟩
    · rw [finish_node?, (loseNode_actsOn d.serial).same, onLine_node? _ _ rfl, hd]
      rfl
    · cases hmark : d.departMark <;> simp [Node.gone, Node.put, Node.enter, hmark, hst]

end Sys2Proof.Machine
end

section
/-! ### R36 to R38, R44, R46: a clean echo, and an echo failure -/

namespace Sys2Proof.Machine

variable {s t u : State}

/-! #### The master besides its records -/

/-- Nothing of the master but the records and their one-shot STOPs has changed. -/
def sameMaster (s t : State) : Prop := t.line = { s.line with nodes := t.line.nodes, stops := t.line.stops }

theorem sameMaster_refl (s : State) : sameMaster s s := rfl

theorem sameMaster.trans (h : sameMaster s t) (h' : sameMaster t u) : sameMaster s u := by
  unfold sameMaster at *
  rw [h', h]

theorem LineKept.sameMaster (h : LineKept s t) : sameMaster s t := by
  unfold Machine.sameMaster
  rw [h.line]

theorem setNodeState_sameMaster (n : Nat) (st : NodeState) (s : State) : sameMaster s (setNodeState n st s) :=
  ((lineKept_notice s).setNodeState n st (.refl s)).sameMaster

theorem removeNode_sameMaster (n : Nat) (s : State) : sameMaster s (removeNode n s) := by
  unfold removeNode sameMaster
  split
  · rfl
  · simp

/-! #### The record of each serial, record by record -/

theorem node?_of_mem (hk : NodesOk s) {d : Node} (hd : d ∈ s.line.nodes) : s.node? d.serial = some d := by
  obtain ⟨x, hx⟩ := Option.isSome_iff_exists.1 (List.find?_isSome (p := fun x : Node => x.serial == d.serial).2 ⟨d, hd, by simp⟩)
  have hser : x.serial = d.serial := by simpa using List.find?_some hx
  rw [State.node?, hx, List.inj_on_of_nodup_map hk.2.2 (List.mem_of_find?_eq_some hx) hd hser]

/-- A step for each record of a list changes the record of its serial alone. -/
theorem forAll_actsOn {f : Node → State → State} {g : Node → Node → Node} (hf : ∀ d, actsOn d.serial (f d) (g d)) {l : List Node}
    (hl : (l.map (·.serial)).Nodup) (m : Nat) (s : State) :
    (forAll l f s).node? m = (s.node? m).map fun e => ((l.find? (·.serial == m)).map (g · e)).getD e := by
  induction l generalizing s with
  | nil => simp
  | cons d l ih =>
    obtain ⟨hd, hl⟩ := List.nodup_cons.1 hl
    rw [forAll_cons, ih hl, hf, Option.map_map]
    congr 1
    funext e
    by_cases hm : m = d.serial
    · have hnone : l.find? (·.serial == m) = none :=
        List.find?_eq_none.2 fun x hx he => hd (List.mem_map.2 ⟨x, hx, by simpa [hm] using he⟩)
      subst hm
      simp [hnone]
    · have hne : (d.serial == m) = false := by simpa using Ne.symm hm
      simp [hm, hne]

/-- A step for each record of the table changes each by itself. -/
theorem forAll_table {f : Node → State → State} {g : Node → Node → Node} (hf : ∀ d, actsOn d.serial (f d) (g d)) (hk : NodesOk s)
    (m : Nat) : (forAll s.line.nodes f s).node? m = (s.node? m).map fun d => g d d := by
  rw [forAll_actsOn hf hk.2.2]
  refine Option.map_congr fun d hd => ?_
  change s.line.nodes.find? (·.serial == m) = some d at hd
  simp [hd]

/-! #### R38: the records at a recovery -/

/-- R38: a record whose rejoin timer runs. -/
def Node.rejoining (d : Node) : Node := { d with rejoinRunning := true }

/-- R38: what a LINE_RESET that ends a FAULT makes of a record `e`, which stood as `d`. -/
def Node.recovered (named : Option Nat) (d e : Node) : Node :=
  if d.state = .active ∨ d.state = .silent then { e with misses := 0, rejoinRunning := true }.put .joining
  else if d.state = .joining ∧ named ≠ some d.serial then e.rejoining
  else if d.state = .departing then e.put .departed
  else e

/-- R38: a record `e` is `d`, rejoining, with a miss count. -/
def Node.rejoinsAs (d e : Node) (misses : Nat) : Prop :=
  e.state = .joining ∧ e.rejoinRunning = true ∧ e.misses = misses ∧ e.address = d.address ∧ e.departMark = d.departMark

theorem Node.recovered_polled {d : Node} (named : Option Nat) (h : d.state = .active ∨ d.state = .silent) :
    d.rejoinsAs (d.recovered named d) 0 := by
  rcases h with h | h <;> simp [Node.rejoinsAs, Node.recovered, Node.put, Node.enter, h]

theorem Node.recovered_joining {d : Node} {named : Option Nat} (h : d.state = .joining) (hn : named ≠ some d.serial) :
    d.recovered named d = d.rejoining := by
  simp [Node.recovered, h, hn]

theorem Node.recovered_departing {d : Node} (named : Option Nat) (h : d.state = .departing) :
    d.recovered named d = d.put .departed := by
  simp [Node.recovered, h]

/-- R38: LOST, DEPARTED and REJECTED records stand, and so does the JOINING one that the handshake names. -/
theorem Node.recovered_stands {d : Node} {named : Option Nat}
    (h : (d.state = .lost ∨ d.state = .departed ∨ d.state = .rejected) ∨ d.state = .joining ∧ named = some d.serial) :
    d.recovered named d = d := by
  rcases h with (h | h | h) | ⟨h, hn⟩ <;> simp [Node.recovered, *]

theorem Node.rejoining_spec {d : Node} (h : d.state = .joining) : d.rejoinsAs d.rejoining d.misses := ⟨h, rfl, rfl, rfl, rfl⟩

theorem Node.rejoining_put {d : Node} (h : d.state = .joining) : d.rejoining.put .joining = d.rejoining := by
  simp [Node.put, Node.rejoining, h]

theorem recoverNode_actsOn (named : Option Nat) (d : Node) : actsOn d.serial (recoverNode named d) (d.recovered named) :=
  .ite ((setNodeState_actsOn _ _).comp (onNode_actsOn _ (fun d => { d with misses := 0, rejoinRunning := true }) fun _ => rfl))
    (.ite (onNode_actsOn _ Node.rejoining fun _ => rfl) (.ite (setNodeState_actsOn _ _) (actsOn_id _)))

theorem recoverNode_lineKept (named : Option Nat) (d : Node) (h : LineKept s t) : LineKept s (recoverNode named d t) := by
  have k := lineKept_notice s
  unfold recoverNode
  exact keeps_ite (k.setNodeState _ _ (k.node _ _ (fun _ => rfl) h))
    (keeps_ite (k.node _ _ (fun _ => rfl) h) (keeps_ite (k.setNodeState _ _ h) h))

theorem endHandshake_node? (m : Nat) (s : State) : (endHandshake s).node? m = s.node? m := rfl

theorem recoverHandshake_none (h : s.line.handshake = none) : recoverHandshake s = s := by
  simp [recoverHandshake, h]

/-- R38: what becomes of the record of an abandoned handshake. -/
def HandshakeOrigin.abandoned (o : HandshakeOrigin) (d : Node) : Option Node :=
  match o with
  | .created => none
  | .standing => some d
  | .reused _ => some (d.rejoining.put .joining)

theorem recoverHandshake_other {h : Handshake} (hh : s.line.handshake = some h) {m : Nat} (hm : m ≠ h.serial) :
    (recoverHandshake s).node? m = s.node? m := by
  simp only [recoverHandshake, hh]
  cases h.origin with
  | created => exact (removeNode_node? _ _ _).trans (if_neg hm)
  | standing => rfl
  | reused was =>
    exact ((setNodeState_actsOn _ .joining).comp (onNode_actsOn _ Node.rejoining fun _ => rfl)).other hm (endHandshake s)

theorem recoverHandshake_same {h : Handshake} (hh : s.line.handshake = some h) :
    (recoverHandshake s).node? h.serial = (s.node? h.serial).bind h.origin.abandoned := by
  simp only [recoverHandshake, hh]
  cases h.origin with
  | created => cases s.node? h.serial <;> simp [removeNode_node?, HandshakeOrigin.abandoned]
  | standing =>
    change s.node? h.serial = _
    cases s.node? h.serial <;> rfl
  | reused was =>
    have hreuse := ((setNodeState_actsOn h.serial .joining).comp (onNode_actsOn _ Node.rejoining fun _ => rfl)).same (endHandshake s)
    rw [endHandshake_node?] at hreuse
    refine hreuse.trans ?_
    cases s.node? h.serial <;> rfl

theorem recoverHandshake_master (s : State) : sameMaster (endHandshake s) (recoverHandshake s) := by
  unfold recoverHandshake
  split
  next h => simp [sameMaster, endHandshake, ← h]
  next h hh =>
    dsimp only
    split
    · exact removeNode_sameMaster _ _
    · exact sameMaster_refl _
    · exact .trans (by rfl) (setNodeState_sameMaster _ _ _)

/-- R38: the records with their new states, before the handshake is abandoned. -/
def State.recovered (s : State) : State := forAll s.line.nodes (recoverNode (s.line.handshake.map (·.serial))) s

theorem recoverLine_eq (s : State) : recoverLine s = recoverHandshake s.recovered := rfl

theorem recovered_lineKept (s : State) : LineKept s s.recovered :=
  forAll_induct _ _ _ (fun d _ _ hu => recoverNode_lineKept _ d hu) (.refl s)

theorem recovered_handshake (s : State) : s.recovered.line.handshake = s.line.handshake := by rw [(recovered_lineKept s).line]

theorem recovered_node? (hk : NodesOk s) (m : Nat) :
    s.recovered.node? m = (s.node? m).map fun d => d.recovered (s.line.handshake.map (·.serial)) d :=
  forAll_table (recoverNode_actsOn _) hk m

theorem recoverLine_master (s : State) : sameMaster (endHandshake s) (recoverLine s) := by
  have hu := (recovered_lineKept s).line
  refine sameMaster.trans ?_ (recoverHandshake_master s.recovered)
  simp only [sameMaster, endHandshake, onLine_line]
  rw [hu]

/-- R38: a record that the pending handshake does not name. -/
theorem recoverLine_unnamed (hk : NodesOk s) {d : Node} (hd : s.node? d.serial = some d)
    (h : ∀ h, s.line.handshake = some h → h.serial ≠ d.serial) :
    (recoverLine s).node? d.serial = some (d.recovered (s.line.handshake.map (·.serial)) d) := by
  have hrec := recovered_node? hk d.serial
  rw [hd, Option.map_some] at hrec
  rw [recoverLine_eq, ← hrec]
  cases hh : s.line.handshake with
  | none => rw [recoverHandshake_none ((recovered_handshake s).trans hh)]
  | some h' => exact recoverHandshake_other ((recovered_handshake s).trans hh) (h h' hh).symm

/-- R38: the record of the pending handshake. -/
theorem recoverLine_named (hk : NodesOk s) {d : Node} (hd : s.node? d.serial = some d) {h : Handshake}
    (hh : s.line.handshake = some h) (hs : h.serial = d.serial) :
    (recoverLine s).node? d.serial = h.origin.abandoned (d.recovered (some d.serial) d) := by
  have hrec := recovered_node? hk d.serial
  rw [recoverLine_eq, ← hs, recoverHandshake_same ((recovered_handshake s).trans hh), hs, hrec, hd, hh]
  simp [hs]

/-! #### R37: the records as the line goes DOWN -/

/-- R37: what the line's going DOWN makes of a record `e`, which stood as `d`. -/
def Node.downed (d e : Node) : Node :=
  if d.state = .active ∨ d.state = .silent ∨ d.state = .joining then e.put (if d.departMark then .departed else .lost)
  else if d.state = .departing then e.put .departed
  else e

theorem downNode_actsOn (d : Node) : actsOn d.serial (downNode d) d.downed :=
  .ite (setNodeState_actsOn _ _) (.ite (setNodeState_actsOn _ _) (actsOn_id _))

theorem downNode_lineKept (d : Node) (h : LineKept s t) : LineKept s (downNode d t) := by
  have k := lineKept_notice s
  unfold downNode
  exact keeps_ite (k.setNodeState _ _ h) (keeps_ite (k.setNodeState _ _ h) h)

theorem Node.downed_state (d : Node) : (d.downed d).state = .lost ∨ (d.downed d).state = .departed ∨ (d.downed d).state = .rejected := by
  unfold Node.downed
  cases hst : d.state <;> cases d.departMark <;> simp [hst]

/-- R37: the state in which the records go DOWN. -/
def State.goingDown (s : State) : State := downHandshake (report .lineDown .nothing [] (s.onLine fun l => { l with state := .down }))

theorem lineDown_eq (s : State) : lineDown s = forAll s.goingDown.line.nodes downNode s.goingDown := rfl

theorem downHandshake_nodesOk (h : NodesOk s) : NodesOk (downHandshake s) := by
  have he : NodesOk (endHandshake s) := nodesOk_of_nodes rfl h
  unfold downHandshake
  split
  · exact h
  · dsimp only
    split
    · exact nodesOk_keeps.removeNode _ he
    · exact he
    · exact nodesOk_keeps.setNodeState _ _ he

theorem downHandshake_master (s : State) : sameMaster (endHandshake s) (downHandshake s) := by
  unfold downHandshake
  split
  next h => simp [sameMaster, endHandshake, ← h]
  next h hh =>
    dsimp only
    split
    · exact removeNode_sameMaster _ _
    · exact sameMaster_refl _
    · exact setNodeState_sameMaster _ _ _

theorem goingDown_nodesOk (h : NodesOk s) : NodesOk s.goingDown := downHandshake_nodesOk (nodesOk_of_nodes (by simp) h)

theorem goingDown_master (s : State) : sameMaster (endHandshake (s.onLine fun l => { l with state := .down })) s.goingDown :=
  sameMaster.trans (by simp [sameMaster, endHandshake]) (downHandshake_master _)

theorem lineDown_master (s : State) : sameMaster (endHandshake (s.onLine fun l => { l with state := .down })) (lineDown s) :=
  (goingDown_master s).trans
    (forAll_induct _ _ _ (fun d _ _ hu => downNode_lineKept d hu) (.refl _) : LineKept s.goingDown (lineDown s)).sameMaster

/-- R37: in DOWN every record is LOST, DEPARTED or REJECTED. -/
theorem lineDown_states (hk : NodesOk s) {d : Node} (hd : d ∈ (lineDown s).line.nodes) :
    d.state = .lost ∨ d.state = .departed ∨ d.state = .rejected := by
  have hnode := node?_of_mem (nodesOk_keeps.lineDown hk) hd
  rw [lineDown_eq, forAll_table downNode_actsOn (goingDown_nodesOk hk)] at hnode
  obtain ⟨e, -, he⟩ := Option.map_eq_some_iff.1 hnode
  exact he ▸ e.downed_state

/-! #### The two commands -/

/-- R37: the count of failures returns to 0 and the line to UP. -/
def State.echoed (s : State) : State := s.onLine fun l => { l with state := .up, failures := 0 }

theorem exec_masterFrameSent {tx : TxFrame} (hup : s.up = true) (hph : s.line.phase = .sending tx) :
    exec .masterFrameSent s = .next (finish (frameEffects tx (s.line.state == .fault) s.echoed)) := by
  rw [exec_of_event (f := fun s => finish (masterFrameSent s)) rfl, whenUp_of_up hup]
  simp only [masterFrameSent, hph]
  rfl

/-- An effect on the master alone leaves nothing to settle. -/
theorem exec_masterFrameSent_quiet {tx : TxFrame} {l : Line} (hup : s.up = true) (hq : s.quiet) (hph : s.line.phase = .sending tx)
    (h : frameEffects tx (s.line.state == .fault) s.echoed = { s with line := l }) :
    exec .masterFrameSent s = .next { s with line := l } := by
  rw [exec_masterFrameSent hup hph, h, finish_of_quiet (s := { s with line := l }) hq]

theorem exec_echoFailure (hup : s.up = true) : exec .echoFailure s = .next (finish (echoFailure s)) := by
  rw [exec_of_event (f := fun s => finish (echoFailure s)) rfl, whenUp_of_up hup]

/-- R36: the frame is abandoned and the failure counted. -/
def State.failed (s : State) : State := s.onLine fun l => { l with failures := min 3 (s.line.failures + 1), phase := .quiet }

theorem echoFailure_sending {tx : TxFrame} (hph : s.line.phase = .sending tx) : echoFailure s =
    if s.line.state = .down then s.failed
    else if min 3 (s.line.failures + 1) = 3 then lineDown s.failed
    else s.failed.onLine fun l => { l with state := .fault } := by
  simp only [echoFailure, hph]
  rfl

theorem stopDone_eq (cs : List WinchCmd) (n : Nat) : stopDone cs n = (cs[n - 1]?).all (· == .stop) := by
  unfold stopDone
  cases cs[n - 1]? <;> rfl

/-- Settles O19: the frames one by one, the records at a recovery, and the three ends of an echo failure. -/
theorem echoDecidesTheLineState : Obligations.EchoDecidesTheLineState := by
  unfold Obligations.EchoDecidesTheLineState
  refine ⟨fun s a serial cs v again hup hq => ?_, fun s hup hk hph hfault => ?_, fun s tx hup hq hk hph => ?_⟩
  · refine ⟨fun hph => ?_, fun hph => ?_, fun hph => ?_, fun hph => ?_, fun hph => ?_, fun hst hph => ?_⟩
    · refine exec_masterFrameSent_quiet hup hq hph ?_
      simp only [← stopDone_eq]
      rfl
    · refine exec_masterFrameSent_quiet hup hq hph ?_
      have hall (x : Nat × Nat) : (x.1 != serial) = !(x.1 == serial && stopDone [] x.2) := by simp [stopDone, bne]
      simp only [hall]
      rfl
    · exact exec_masterFrameSent_quiet hup hq hph rfl
    · exact exec_masterFrameSent_quiet hup hq hph rfl
    · exact exec_masterFrameSent_quiet hup hq hph rfl
    · have hup' : (s.line.state == .fault) = false := by simpa using hst
      refine exec_masterFrameSent_quiet hup hq hph ?_
      rw [hup']
      rfl
  · have hkept : NodesOk s.echoed := nodesOk_of_nodes rfl hk
    have hexec : exec .masterFrameSent s = .next (finish (turnaround (restartCycle (recoverLine s.echoed)))) := by
      rw [exec_masterFrameSent hup hph, hfault]
      rfl
    have hline : (finish (turnaround (restartCycle (recoverLine s.echoed)))).line =
        { (recoverLine s.echoed).line with phase := .turnaround, walk := 1, repoll := none } := (finish_frame _).1
    rw [recoverLine_master s.echoed] at hline
    refine ⟨_, hexec, by simp [SameStores, State.echoed], by rw [hline]; rfl, by rw [hline]; rfl, by rw [hline], by rw [hline],
      by rw [hline], by rw [hline]; rfl, fun d hd => ?_⟩
    have hd' : s.echoed.node? d.serial = some d := hd
    intro kept rejoins
    have hnode {x : Option Node} (hx : (recoverLine s.echoed).node? d.serial = x) :
        (finish (turnaround (restartCycle (recoverLine s.echoed)))).node? d.serial = x := (finish_node? _ _).trans hx
    have hrejoins {e : Node} {n : Nat} (he : (recoverLine s.echoed).node? d.serial = some e) (hr : d.rejoinsAs e n) : rejoins n :=
      ⟨e, hnode he, hr⟩
    refine ⟨fun hun => ?_, fun h hh hser => ?_⟩
    · have hrec := recoverLine_unnamed hkept hd' hun
      have hnamed : s.echoed.line.handshake.map (·.serial) ≠ some d.serial := fun he => by
        obtain ⟨h, hh, hser⟩ := Option.map_eq_some_iff.1 he
        exact hun h hh hser
      refine ⟨fun hst => ?_, fun hst => ?_, fun hst => ?_, fun hst => ?_⟩
      · exact hrejoins hrec (Node.recovered_polled _ hst)
      · exact hrejoins (hrec.trans (congrArg some (Node.recovered_joining hst hnamed))) (Node.rejoining_spec hst)
      · obtain ⟨hstate, -, -, haddr, -⟩ := Node.put_spec .departed d
        exact ⟨_, hnode (hrec.trans (congrArg some (Node.recovered_departing _ hst))), hstate, haddr⟩
      · exact hnode (hrec.trans (congrArg some (Node.recovered_stands (.inl hst))))
    · have hrec := recoverLine_named hkept hd' hh hser
      refine ⟨fun ho => ?_, fun ho hst => ?_, fun was ho hst => ?_⟩
      · exact hnode (hrec.trans (by rw [ho]; rfl))
      · exact hnode (hrec.trans (by rw [ho, Node.recovered_stands (.inl (.inr (.inr hst)))]; rfl))
      · rw [ho, Node.recovered_stands (.inr ⟨hst, rfl⟩)] at hrec
        exact hrejoins (hrec.trans (congrArg some (Node.rejoining_put hst))) (Node.rejoining_spec hst)
  · have hfail := echoFailure_sending hph
    intro cmd
    have hcmd : cmd = .next (finish (echoFailure s)) := exec_echoFailure hup
    refine ⟨fun ⟨hst, hn⟩ => ?_, fun hst => ?_, fun ⟨hst, hn⟩ => ?_⟩
    · have hmin : min 3 (s.line.failures + 1) = s.line.failures + 1 := by omega
      rw [hcmd, hfail, if_neg hst, if_neg (by omega), State.failed, hmin]
      exact congrArg _ (finish_of_quiet hq)
    · rw [hcmd, hfail, if_pos hst]
      exact congrArg _ (finish_of_quiet hq)
    · rw [if_neg hst, if_pos (by omega)] at hfail
      rw [hfail] at hcmd
      have hkept : NodesOk s.failed := nodesOk_of_nodes rfl hk
      have hline : (finish (lineDown s.failed)).line = (lineDown s.failed).line := (finish_frame _).1
      have hmaster := hline.trans (lineDown_master s.failed)
      have hmin : min 3 (s.line.failures + 1) = 3 := by omega
      refine ⟨_, hcmd, by simp [SameStores, State.failed], by rw [hmaster]; rfl, by rw [hmaster]; exact hmin, by rw [hmaster]; rfl,
        by rw [hmaster]; rfl, fun d hd => lineDown_states hkept (hline ▸ hd)⟩

end Sys2Proof.Machine
end

section
/-! ### R41 to R44: joining -/

namespace Sys2Proof.Machine

variable {s t u : State}

/-! #### R42, R203: what a JOIN says -/

theorem natOf_append_byte (bs : List Byte) (b : Byte) : natOf (bs ++ [b]) = natOf bs * 256 + b.toNat := by
  simp [natOf, List.foldl_append]

theorem natOf_bytesOf {n v : Nat} (h : v < 256 ^ n) : natOf (bytesOf n v) = v := by
  induction n generalizing v with
  | zero =>
    have : v = 0 := by simpa using h
    simp [this, bytesOf, natOf]
  | succ n ih =>
    have hdiv : v / 256 < 256 ^ n := Nat.div_lt_of_lt_mul (by rwa [Nat.pow_succ, Nat.mul_comm] at h)
    rw [bytesOf, natOf_append_byte, ih hdiv, BitVec.toNat_ofNat]
    omega

/-- R42: the required ability is bit 0 of either kind. -/
theorem resolve_lacksRequired (k : NodeKind) (b : Nat) : (resolveAbilities k b).lacksRequired k = !b.testBit 0 := by
  cases k <;> rfl

theorem resolve_eq (k : NodeKind) (b : Nat) : resolveAbilities k b = {
    tension := decide (k = .winch) && b.testBit 0, haul := decide (k = .winch) && b.testBit 1
    release := decide (k = .winch) && b.testBit 2, dual := decide (k = .winch) && b.testBit 3, urgent := b.testBit 4
    thrust := decide (k = .bow) && b.testBit 0, feedback := decide (k = .bow) && b.testBit 1 } := by
  cases k <;> simp [resolveAbilities]

theorem resolve_role (k : NodeKind) (b : Nat) : (resolveAbilities k b).role k =
    if decide (k = .winch) && !(b.testBit 1 && b.testBit 2) then .monitor else .full := by
  cases k with
  | winch => cases h1 : b.testBit 1 <;> cases h2 : b.testBit 2 <;> simp [resolveAbilities, Abilities.role, h1, h2]
  | bow => rfl

theorem joinState_resolve (k : NodeKind) (b : Nat) :
    joinState (resolveAbilities k b) k = if b.testBit 0 then .joining else .rejected := by
  cases h : b.testBit 0 <;> simp [joinState, resolve_lacksRequired, h]

/-- R35: a reply that is received whole and is the one its exchange expects. -/
theorem exec_received {tx : TxFrame} {f : LineFrame} {chars : List Byte} (hup : s.up = true) (hph : s.line.phase = .receiving tx)
    (hf : goodFrame chars false = some f) (hexp : expected tx f = true) :
    exec (.bargeFrameReceived chars false) s = .next (finish (exchangeGood tx f (turnaround s))) := by
  rw [exec_of_event (f := fun s => finish (bargeFrameReceived chars false s)) rfl, whenUp_of_up hup]
  simp only [bargeFrameReceived, hph, exchangeEnds, hf, hexp, if_true]

/-- R203: a good JOIN. -/
structure LineFrame.joins (f : LineFrame) (serial code : Nat) (k : NodeKind) : Prop where
  address : f.address = 0
  kind : f.kind = 4
  body : f.body = bytesOf 4 serial ++ [if k = .winch then 1 else 2, BitVec.ofNat 8 code]
  serial : serial < 2 ^ 32
  code : code < 256

namespace LineFrame.joins

variable {f : LineFrame} {serial code : Nat} {k : NodeKind}

theorem expected (h : f.joins serial code k) : expected .invite f = true := by
  simp [Machine.expected, h.address, h.kind, h.body, kindJoin]

theorem inviteReply (h : f.joins serial code k) (s : State) :
    inviteReply f s = takeJoin serial k (resolveAbilities k code) s := by
  have hlen : f.body.length = 6 := by simp [h.body]
  have hserial : natOf (field f.body 0 4) = serial := by
    have : field f.body 0 4 = bytesOf 4 serial := by simp [field, h.body]
    rw [this, natOf_bytesOf h.serial]
  have hkind : nodeKindOf (natOf (field f.body 4 1)) = some k := by
    have : field f.body 4 1 = [if k = .winch then 1 else 2] := by simp [field, h.body]
    rw [this]
    cases k <;> rfl
  have hcode : natOf (field f.body 5 1) = code := by
    have : field f.body 5 1 = [BitVec.ofNat 8 code] := by
      simp [field, h.body, List.drop_append, List.drop_eq_nil_of_le (show (bytesOf 4 serial).length ≤ 5 by simp)]
    rw [this]
    simpa [natOf] using h.code
  simp only [Machine.inviteReply, h.address, h.kind, hlen, hserial, hkind, hcode, kindJoin, and_self, if_true]

theorem exec (h : f.joins serial code k) {chars : List Byte} (hup : s.up = true) (hph : s.line.phase = .receiving .invite)
    (hf : goodFrame chars false = some f) : exec (.bargeFrameReceived chars false) s =
      .next (finish (takeJoin serial k (resolveAbilities k code) (turnaround s))) := by
  rw [exec_received hup hph hf h.expected, exchangeGood, h.inviteReply]

end LineFrame.joins

/-! #### R39, R43: the record of a JOIN -/

/-- R39: the lowest free address. -/
theorem freeAddress_lowest {a : Nat} (h1 : 1 ≤ a) (h40 : a ≤ 40) (hfree : ∀ d ∈ s.line.nodes, d.address ≠ a)
    (hlow : ∀ b, 1 ≤ b → b < a → ∃ d ∈ s.line.nodes, d.address = b) : s.freeAddress = some a := by
  refine find?_lowest (key := id) (by decide) ?_ ?_ fun b hb hbfree => ?_
  · exact List.mem_map.2 ⟨a - 1, List.mem_range.2 (by simp only [Config.maxAddress]; omega), by omega⟩
  · simpa using hfree
  · obtain ⟨c, -, rfl⟩ := List.mem_map.1 hb
    by_contra hlt
    obtain ⟨d, hd, he⟩ := hlow (c + 1) (by omega) (by simpa using hlt)
    exact absurd he (by simpa using List.all_eq_true.1 hbfree d hd)

theorem freeAddress_none (h : ∀ a, 1 ≤ a → a ≤ 40 → ∃ d ∈ s.line.nodes, d.address = a) : s.freeAddress = none := by
  refine List.find?_eq_none.2 fun a ha hfree => ?_
  obtain ⟨c, hc, rfl⟩ := List.mem_map.1 ha
  obtain ⟨d, hd, he⟩ := h (c + 1) (by omega) (by simpa [Config.maxAddress] using hc)
  exact absurd he (by simpa using List.all_eq_true.1 hfree d hd)

theorem find?_insertNode {d : Node} {l : List Node} (h : ∀ x ∈ l, x.serial ≠ d.serial) (m : Nat) :
    (insertNode d l).find? (·.serial == m) = if m = d.serial then some d else l.find? (·.serial == m) := by
  induction l with
  | nil =>
    by_cases hm : m = d.serial
    · simp [insertNode, hm]
    · simp [insertNode, hm, Ne.symm hm]
  | cons x l ih =>
    have hx := h x List.mem_cons_self
    have ih := ih fun y hy => h y (List.mem_cons_of_mem x hy)
    unfold insertNode
    split
    · by_cases hm : m = d.serial
      · subst hm
        simpa [List.find?_cons, hx] using ih
      · simp only [List.find?_cons, ih, hm, if_false]
    · by_cases hm : m = d.serial
      · simp [hm]
      · simp [List.find?_cons, hm, Ne.symm hm]

/-- R43: the record that a JOIN creates. -/
def Node.created (serial : Nat) (k : NodeKind) (a : Abilities) (address : Nat) : Node :=
  ⟨serial, k, address, joinState a k, a, a.role k, 0, false, false, none, false, false⟩

theorem createNode_node? {serial : Nat} (h : s.node? serial = none) (k : NodeKind) (a : Abilities) (address m : Nat) :
    (createNode serial k a address s).node? m = if m = serial then some (.created serial k a address) else s.node? m := by
  have hline : (createNode serial k a address s).node? m =
      (insertNode (.created serial k a address) s.line.nodes).find? (·.serial == m) := by
    simp [createNode, State.node?, Node.created]
  rw [hline, find?_insertNode (node?_none h)]
  rfl

/-- R43: what a JOIN makes of a record that it reuses. -/
def Node.reused (k : NodeKind) (a : Abilities) (d : Node) : Node :=
  { d with kind := k, abilities := a, role := a.role k, misses := 0 }.put (joinState a k)

theorem reuseNode_actsOn (d : Node) (k : NodeKind) (a : Abilities) : actsOn d.serial (reuseNode d k a) (Node.reused k a) :=
  (setNodeState_actsOn _ _).comp
    (onNode_actsOn _ (fun d => { d with kind := k, abilities := a, role := a.role k, misses := 0 }) fun _ => rfl)

theorem Node.reused_spec (k : NodeKind) (a : Abilities) (d : Node) : (d.reused k a).state = joinState a k ∧
    (d.reused k a).kind = k ∧ (d.reused k a).abilities = a ∧ (d.reused k a).role = a.role k ∧ (d.reused k a).misses = 0 ∧
    (d.reused k a).address = d.address ∧ (d.reused k a).heldFlag = d.heldFlag ∧ (d.reused k a).faultSeen = d.faultSeen ∧
    (d.reused k a).departMark = d.departMark ∧ (d.reused k a).last = d.last ∧
    (d.state = joinState a k → (d.reused k a).rejoinRunning = d.rejoinRunning) := by
  unfold Node.reused Node.put
  split_ifs with h
  · simpa using h
  · simpa [Node.enter] using fun h' => absurd h' h

theorem setHandshake_node? (h : Handshake) (m : Nat) (s : State) : (setHandshake h s).node? m = s.node? m := rfl

theorem takeJoin_new {serial address : Nat} (h : s.node? serial = none) (ha : s.freeAddress = some address) (k : NodeKind)
    (a : Abilities) : takeJoin serial k a s =
      setHandshake ⟨serial, address, a.lacksRequired k, .created⟩ (createNode serial k a address s) := by
  simp only [takeJoin, h, ha]

theorem takeJoin_full {serial : Nat} (h : s.node? serial = none) (ha : s.freeAddress = none) (k : NodeKind) (a : Abilities) :
    takeJoin serial k a s = s := by
  simp only [takeJoin, h, ha]

theorem takeJoin_rejected {serial : Nat} {d : Node} (h : s.node? serial = some d) (hd : d.state = .rejected) (k : NodeKind)
    (a : Abilities) : takeJoin serial k a s = setHandshake ⟨serial, d.address, true, .standing⟩ s := by
  simp only [takeJoin, h, hd, if_true]

theorem takeJoin_known {serial : Nat} {d : Node} (h : s.node? serial = some d) (hd : d.state ≠ .rejected) (k : NodeKind)
    (a : Abilities) : takeJoin serial k a s =
      setHandshake ⟨serial, d.address, a.lacksRequired k, .reused d.state⟩ (reuseNode d k a s) := by
  simp only [takeJoin, h, hd, if_false]

/-! #### R44: the end of a handshake -/

/-- R44: what a good acknowledgement makes of a record. -/
def Node.acknowledged (d : Node) : Node := { d with misses := 0 }.put (if d.departMark then .departing else .active)

theorem acknowledged_node? {n : Nat} {d : Node} (hd : s.node? n = some d) : (acknowledged n s).node? n = some d.acknowledged := by
  have hset (st : NodeState) := ((setNodeState_actsOn n st).comp (onNode_actsOn n (fun d => { d with misses := 0 }) fun _ => rfl)).same s
  have hreport (k : ReportKind) (i : Subject) (b : List Byte) (u : State) : (report k i b u).node? n = u.node? n := by
    simp [State.node?]
  have hrec : (setNodeState n (if d.departMark then .departing else .active) (s.onNode n fun d => { d with misses := 0 })).node? n =
      some d.acknowledged := by
    rw [hset, hd]
    rfl
  simp only [acknowledged, hd]
  exact keeps_ite (P := fun u : State => u.node? n = some d.acknowledged) ((hreport _ _ _ _).trans hrec) hrec

theorem acknowledged_lineKept (n : Nat) (s : State) : LineKept s (acknowledged n s) := by
  have k := lineKept_notice s
  have hset (st : NodeState) : LineKept s (setNodeState n st (s.onNode n fun d => { d with misses := 0 })) :=
    k.setNodeState _ _ (k.node _ _ (fun _ => rfl) (.refl s))
  simp only [acknowledged]
  split
  · exact .refl s
  · exact keeps_ite (k.report _ _ _ (hset _)) (hset _)

/-- R44: a record that was reused and is not acknowledged returns to LOST or DEPARTED without an alarm, or is LOST with one. -/
theorem handshakeFails_reused {h : Handshake} {prior : NodeState} (ho : h.origin = .reused prior) {d : Node}
    (hd : s.node? h.serial = some d) : handshakeFails h s =
      if d.departMark = true ∨ prior = .departed then setNodeState h.serial .departed s
      else if prior = .lost then setNodeState h.serial .lost s
      else nodeLost h.serial s := by
  cases hm : d.departMark <;> cases prior <;> simp [handshakeFails, ho, hd, hm, loseNode]

theorem handshakeFails_other (h : Handshake) {d : Node} (hd : s.node? h.serial = some d) {m : Nat} (hm : m ≠ h.serial) :
    (handshakeFails h s).node? m = s.node? m := by
  cases ho : h.origin with
  | created =>
    have he : handshakeFails h s = removeNode h.serial s := by simp only [handshakeFails, ho]
    rw [he, removeNode_node?, if_neg hm]
  | standing => simp only [handshakeFails, ho]
  | reused prior =>
    rw [handshakeFails_reused ho hd]
    split_ifs
    · exact (setNodeState_actsOn _ _).other hm s
    · exact (setNodeState_actsOn _ _).other hm s
    · exact (nodeLost_node? _ _ _).trans ((setNodeState_actsOn _ _).other hm s)

theorem handshakeFails_master (h : Handshake) (s : State) : sameMaster s (handshakeFails h s) := by
  have k := lineKept_notice s
  have hlose : sameMaster s (loseNode h.serial s) := (k.loseNode _ (.refl s)).sameMaster
  unfold handshakeFails
  split
  · exact removeNode_sameMaster _ _
  · exact sameMaster_refl _
  · split
    · exact setNodeState_sameMaster _ _ _
    · split
      · exact setNodeState_sameMaster _ _ _
      · exact setNodeState_sameMaster _ _ _
      all_goals exact hlose

/-- R44: a handshake with the record `d` has ended with failure. -/
def joinFailed (s : State) (h : Handshake) (d : Node) (t : State) : Prop :=
  SameStores s t ∧ t.line.handshake = none ∧ (∀ n, n ≠ h.serial → t.node? n = s.node? n) ∧
    (h.origin = .created → t.node? h.serial = none) ∧
    ∀ prior, h.origin = .reused prior → ∃ e, t.node? h.serial = some e ∧ e.address = d.address ∧ e.last = d.last ∧
      e.state = (if d.departMark = true ∨ prior = .departed then .departed else .lost) ∧
      (d.departMark = false → prior ≠ .lost → prior ≠ .departed →
        t.port.reportsLost = true ∨ ∃ r ∈ t.port.queue, r.kind = .nodeLost ∧ r.subject = .serial h.serial)

/-- R44: what follows in the same command leaves the records and the alarm. -/
theorem joinFailed_of_fails {h : Handshake} {d : Node} (hd : s.node? h.serial = some d)
    (ht : Kept (handshakeFails h (endHandshake (turnaround s))) t) (hh : t.line.handshake = none)
    (hn : ∀ n, t.node? n = (handshakeFails h (endHandshake (turnaround s))).node? n) (hs : SameStores s t) : joinFailed s h d t := by
  have hd' : (endHandshake (turnaround s)).node? h.serial = some d := hd
  refine ⟨hs, hh, fun n hne => (hn n).trans (handshakeFails_other h hd' hne), fun ho => ?_, fun prior ho => ?_⟩
  · simp [hn, handshakeFails, ho, removeNode_node?]
  · rw [handshakeFails_reused ho hd'] at ht hn
    split_ifs at ht hn with hgone hlost
    · refine ⟨d.put .departed, ?_, by simp, by simp, by simp [hgone], fun hm _ hp => ?_⟩
      · rw [hn, (setNodeState_actsOn _ _).same, hd', Option.map_some]
      · simp [hm, hp] at hgone
    · refine ⟨d.put .lost, ?_, by simp, by simp, by simp [hgone], fun _ hp => absurd hlost hp⟩
      rw [hn, (setNodeState_actsOn _ _).same, hd', Option.map_some]
    · refine ⟨d.put .lost, ?_, by simp, by simp, by simp [hgone], fun _ _ _ => ?_⟩
      · rw [hn, nodeLost_node?, (setNodeState_actsOn _ _).same, hd', Option.map_some]
      · rcases ht.stands _ (by simp) (report_stands .nodeLost (.serial h.serial) [] _ (by simp)) with hl | hq
        · exact .inl hl
        · exact .inr ⟨_, hq, rfl, rfl⟩

theorem exchangeMiss_assign {h : Handshake} (hh : s.line.handshake = some h) (n a : Nat) :
    exchangeMiss (.assign n a) (turnaround s) = handshakeFails h (endHandshake (turnaround s)) := by
  have hh' : (turnaround s).line.handshake = some h := hh
  simp only [exchangeMiss, assignEnds, hh', Bool.false_eq_true, if_false]

theorem startNext_handshake (s : State) : (startNext s).line.handshake = s.line.handshake := by
  unfold startNext
  dsimp only
  split
  · rw [poll_line]; rfl
  · split
    · rw [poll_line]; rfl
    · rw [joiningSlot_eq]; rfl

/-- R35, R44: an exchange of the handshake's ASSIGN that ends as a miss. -/
theorem joinFailed_end {h : Handshake} {d : Node} (hh : s.line.handshake = some h) (hd : s.node? h.serial = some d) (n a : Nat) :
    joinFailed s h d (finish (exchangeMiss (.assign n a) (turnaround s))) ∧
      joinFailed s h d (startNext (finish (exchangeMiss (.assign n a) (turnaround s)))) := by
  rw [exchangeMiss_assign hh]
  have hnone : (handshakeFails h (endHandshake (turnaround s))).line.handshake = none := by
    rw [handshakeFails_master h (endHandshake (turnaround s))]
    rfl
  have hnone' : (finish (handshakeFails h (endHandshake (turnaround s)))).line.handshake = none := by simpa using hnone
  exact ⟨joinFailed_of_fails hd (kept_finish (.refl _)) hnone' (fun _ => finish_node? _ _) (by simp [SameStores]),
    joinFailed_of_fails hd (kept_startNext (kept_finish (.refl _))) ((startNext_handshake _).trans hnone')
      (fun _ => (startNext_node? _ _).trans (finish_node? _ _)) (by simp [SameStores])⟩

/-- Settles O21: a JOIN by the record it makes or takes, an acknowledgement, and a failure by what it leaves of the record. -/
theorem joinAndAcknowledgementMakeANode : Obligations.JoinAndAcknowledgementMakeANode := by
  unfold Obligations.JoinAndAcknowledgementMakeANode
  refine ⟨?_, ?_, ?_, ?_⟩
  · intro s chars f serial address code k hup _ hph hf haddr hkind hbody hserial hcode hnone h1 h40 hfree hlow lacks winch bow
    have hjoin : f.joins serial code k := ⟨haddr, hkind, hbody, hserial, hcode⟩
    have hexec := hjoin.exec hup hph hf
    rw [takeJoin_new (s := turnaround s) hnone (freeAddress_lowest h1 h40 hfree hlow)] at hexec
    have hnode (m : Nat) := (finish_node? m _).trans ((setHandshake_node? ⟨serial, address, (resolveAbilities k code).lacksRequired k,
      .created⟩ m _).trans (createNode_node? (s := turnaround s) hnone k (resolveAbilities k code) address m))
    refine ⟨_, .created serial k (resolveAbilities k code) address, hexec, by simp [SameStores], (hnode serial).trans (if_pos rfl), rfl,
      rfl, fun hl => ?_, fun hl => ?_, rfl, rfl, rfl, rfl, rfl, resolve_eq k code, fun hk => ?_, fun hk => ?_, ?_,
      fun n hn => (hnode n).trans (if_neg hn)⟩
    · exact (joinState_resolve k code).trans (if_neg (by simpa [lacks] using hl))
    · exact (joinState_resolve k code).trans (if_pos (by simpa [lacks] using hl))
    · subst hk
      simp [Node.created, resolve_role]
    · subst hk
      rfl
    · simp [setHandshake, resolve_lacksRequired]
  · intro s chars f serial code k hup _ hph hf haddr hkind hbody hserial hcode winch bow
    have hjoin : f.joins serial code k := ⟨haddr, hkind, hbody, hserial, hcode⟩
    have hexec := hjoin.exec hup hph hf
    refine ⟨fun d hd => ?_, fun hq hnone hfull => ?_⟩
    · have hser : d.serial = serial := by simpa using List.find?_some hd
      subst hser
      have hd' : (turnaround s).node? d.serial = some d := hd
      by_cases hst : d.state = .rejected
      · rw [takeJoin_rejected hd' hst] at hexec
        exact ⟨_, d, hexec, by simp [SameStores], (finish_node? _ _).trans hd', fun n _ => finish_node? _ _,
          fun _ => ⟨rfl, by simp [setHandshake]⟩, fun h => absurd hst h⟩
      · rw [takeJoin_known hd' hst] at hexec
        have hnode (m : Nat) := (finish_node? m _).trans ((setHandshake_node? ⟨d.serial, d.address,
          (resolveAbilities k code).lacksRequired k, .reused d.state⟩ m _).trans
          (reuseNode_actsOn d k (resolveAbilities k code) (turnaround s) m))
        obtain ⟨hstate, hk, habil, hrole, hmiss, haddr', hheld, hfault, hmark, hlast, hrun⟩ :=
          Node.reused_spec k (resolveAbilities k code) d
        rw [joinState_resolve] at hstate hrun
        refine ⟨_, d.reused k (resolveAbilities k code), hexec, by simp [SameStores], ?_, fun n hn => ?_, fun h => absurd h hst,
          fun _ => ⟨hstate, hk, habil.trans (resolve_eq k code), hrole.trans (resolve_role k code), hmiss, haddr', hheld, hfault, hmark,
            hlast, fun hj hb => hrun (by rw [hj, if_pos hb]), ?_⟩⟩
        · simp [hnode, hd']
        · simp [hnode, hn, turnaround_node?]
        · simp [setHandshake, resolve_lacksRequired]
    · rw [takeJoin_full (s := turnaround s) hnone (freeAddress_none hfull)] at hexec
      exact hexec.trans (congrArg _ (finish_of_quiet hq))
  · intro s h d a chars f hup _ hh hd hst hph hf haddr hkind hlen hbody
    have hexp : expected (.assign h.serial a) f = true := by simp [expected, haddr, hkind, hlen, hbody, kindAck]
    have hh' : (turnaround s).line.handshake = some h := hh
    have hexec : exec (.bargeFrameReceived chars false) s = .next (finish (acknowledged h.serial (endHandshake (turnaround s)))) := by
      rw [exec_received hup hph hf hexp]
      simp only [exchangeGood, assignEnds, hh', if_true]
    have hnode := acknowledged_node? (s := endHandshake (turnaround s)) (n := h.serial) hd
    refine ⟨_, d.acknowledged, hexec, by simp [SameStores], ?_, (finish_node? _ _).trans hnode, ?_⟩
    · rw [(finish_frame _).1, (acknowledged_lineKept _ _).line]
      rfl
    · cases hm : d.departMark <;> simp [Node.acknowledged, Node.put, Node.enter, hst, hm]
  · intro s h d a hup _ hh hd failed
    obtain ⟨hend, hnext⟩ := joinFailed_end hh hd h.serial a
    have hfailed {o : Host.Outcome State Fault Refusal} {t : State} (ho : o = .next t) (ht : joinFailed s h d t) : failed o := ⟨t, ho, ht⟩
    refine ⟨fun hph => hfailed ?_ hnext, fun hph => ⟨hfailed ?_ hend, fun chars lost hbad => hfailed ?_ hend⟩⟩
    · rw [exec_of_event (f := replyWindowExpiry) rfl, whenUp_of_up hup]
      simp only [replyWindowExpiry, hph]
    · rw [exec_of_event (f := fun s => finish (bargeFrameSilence s)) rfl, whenUp_of_up hup]
      simp only [bargeFrameSilence, hph]
    · rw [exec_of_event (f := fun s => finish (bargeFrameReceived chars lost s)) rfl, whenUp_of_up hup]
      simp only [bargeFrameReceived, hph]
      cases hf : goodFrame chars lost with
      | none => rfl
      | some f =>
        have hexp : expected (.assign h.serial a) f = false := by
          have := hbad f hf
          simp only [expected, kindAck, Bool.and_eq_false_iff, beq_eq_false_iff_ne]
          tauto
        simp only [exchangeEnds, hexp, Bool.false_eq_true, if_false]

end Sys2Proof.Machine
end

section
/-! ### R48, R49, R115, R116, R204: bow units and repolls -/

namespace Sys2Proof.Machine

variable {s t u : State} {N : Nat → Prop}

/-! #### The Bow Unit List at the end of a command -/

theorem steeringRecompute_bows (s : State) : (steeringRecompute s).steer.bows = s.steer.bows := by
  have ht : (setTargets s).steer.bows = s.steer.bows :=
    forAll_induct (P := fun u => u.steer.bows = s.steer.bows) _ _ _
      (fun r _ u hu => keeps_ite (P := fun u => u.steer.bows = s.steer.bows) hu hu) rfl
  exact ht

theorem recomputeLe_bows (s : State) : (recomputeLe s).steer.bows = s.steer.bows := by
  have hdir (u : State) : (directionChanged u).steer.bows = u.steer.bows := by
    rw [directionChanged, forAll_steer _ _ _ (fun e v => by simp), steeringRecompute_bows]
    simp
  simp only [recomputeLe]
  split
  · rfl
  · exact keeps_ite (P := fun u => u.steer.bows = s.steer.bows) rfl (hdir _)

theorem ccapRecompute_bows (b : Bool) (s : State) : (ccapRecompute b s).steer.bows = s.steer.bows := by
  have ht : (if s.ccapNow = s.sup.ccap then s else recomputeLe (s.onSup fun u => { u with ccap := s.ccapNow })).steer.bows =
      s.steer.bows := keeps_ite (P := fun u => u.steer.bows = s.steer.bows) rfl (recomputeLe_bows _)
  simp only [ccapRecompute]
  exact keeps_ite (P := fun u => u.steer.bows = s.steer.bows) (by rw [(capsReport_frame _).2.2.1, ht]) ht

theorem holdingAnalysis_bows (s : State) : (holdingAnalysis s).steer.bows = s.steer.bows := by
  simp only [holdingAnalysis, ccapRecompute_bows, onSup_steer]
  rw [forAll_steer _ _ _ (fun p u => by simp)]
  split <;> simp

/-- R115: settling leaves the Bow Unit List. -/
theorem settle_bows (s : State) : SettleKeeps (fun _ => True) (fun u => u.steer.bows = s.steer.bows) where
  report _ _ _ h := by simpa using h
  requeued _ _ _ _ _ h := by simpa using h
  started _ _ _ _ h := by simpa using h
  command _ _ _ h := by simpa using h
  coupling _ _ _ _ h := by simpa using h
  due _ h := h
  analysed h := (holdingAnalysis_bows _).trans h

theorem finish_bows (s : State) : (finish s).steer.bows = s.steer.bows := by
  have hs : (settle s).steer.bows = s.steer.bows := (settle_bows s).settle rfl
  simp [finish, hs]

/-! #### Entries after a notice -/

/-- R116: what node-state notices of the serials `N` make of an entry: it keeps its place, its serial and its commanded thrust, and
flags that are unknown stay unknown. -/
structure BowUnit.Noticed (N : Nat → Prop) (u w : BowUnit) : Prop where
  pos : w.pos = u.pos
  serial : w.serial = u.serial
  commanded : w.commanded = u.commanded
  running : u.running = none → w.running = none
  fault : u.fault = none → w.fault = none
  actual : u.actual = none → w.actual = none
  other : ¬N u.serial → w = u

theorem BowUnit.Noticed.refl (u : BowUnit) : u.Noticed N u := ⟨rfl, rfl, rfl, id, id, id, fun _ => rfl⟩

theorem BowUnit.Noticed.trans {u v w : BowUnit} (h : u.Noticed N v) (h' : v.Noticed N w) : u.Noticed N w where
  pos := h'.pos.trans h.pos
  serial := h'.serial.trans h.serial
  commanded := h'.commanded.trans h.commanded
  running hu := h'.running (h.running hu)
  fault hu := h'.fault (h.fault hu)
  actual hu := h'.actual (h.actual hu)
  other hu := (h'.other (h.serial ▸ hu)).trans (h.other hu)

/-- R116: the entry of a serial after a notice. -/
def BowUnit.notice (kind : Option NodeKind) (state : Option NodeState) (u : BowUnit) : BowUnit :=
  if state = some .active then { u with nodeState := state, nodeKind := kind }
  else { u with nodeState := state, nodeKind := kind, running := none, fault := none, actual := none }

theorem BowUnit.notice_noticed (kind : Option NodeKind) (state : Option NodeState) {u : BowUnit} (h : N u.serial) :
    u.Noticed N (u.notice kind state) := by
  unfold BowUnit.notice
  split
  · exact ⟨rfl, rfl, rfl, id, id, id, fun hn => absurd h hn⟩
  · exact ⟨rfl, rfl, rfl, fun _ => rfl, fun _ => rfl, fun _ => rfl, fun hn => absurd h hn⟩

/-- The entries correspond one to one, and notices of the serials `N` are all that has reached them. -/
def bowsNoticed (N : Nat → Prop) (s t : State) : Prop := List.Forall₂ (BowUnit.Noticed N) s.steer.bows t.steer.bows

theorem bowsNoticed_of_bows (h : t.steer.bows = s.steer.bows) : bowsNoticed N s t := by
  unfold bowsNoticed
  rw [h]
  exact List.forall₂_same.2 fun u _ => .refl u

theorem bowsNoticed.trans (h : bowsNoticed N s t) (h' : bowsNoticed N t u) : bowsNoticed N s u :=
  forall₂_chain (fun _ _ _ h h' => h.trans h') h h'

theorem bowsNoticed.finish (h : bowsNoticed N s t) : bowsNoticed N s (finish t) := h.trans (bowsNoticed_of_bows (finish_bows t))

/-- R116: the list after a record takes a new state. -/
theorem setNodeState_bows {n : Nat} {st : NodeState} {d : Node} (hd : s.node? n = some d) (hst : d.state ≠ st) :
    (setNodeState n st s).steer.bows = s.steer.bows.map fun u => if u.serial = n then u.notice (some d.kind) (some st) else u := by
  have hser : d.serial = n := by simpa using List.find?_some hd
  simp only [setNodeState, hd, hst, if_false, nodeNotices, nodeReport_frame]
  simp [bowNotice, State.onBow, Node.enter, hser, BowUnit.notice]

theorem setNodeState_bowsNoticed {n : Nat} (st : NodeState) (hn : N n) (s : State) : bowsNoticed N s (setNodeState n st s) := by
  by_cases h : ∃ d, s.node? n = some d ∧ d.state ≠ st
  · obtain ⟨d, hd, hst⟩ := h
    unfold bowsNoticed
    rw [setNodeState_bows hd hst]
    refine forall₂_of_map fun u _ => ?_
    split
    · next hu => exact BowUnit.notice_noticed _ _ (hu ▸ hn)
    · exact .refl u
  · have hs : setNodeState n st s = s := by
      unfold setNodeState
      split
      · rfl
      · next d hd => exact if_pos (by_contra fun hst => h ⟨d, hd, hst⟩)
    rw [hs]
    exact bowsNoticed_of_bows rfl

theorem newClaim_bowsNoticed {n : Nat} (hn : N n) (s : State) : bowsNoticed N s (newClaim n s) := by
  have hset (st : NodeState) (f : Node → Node) : bowsNoticed N s (setNodeState n st (s.onNode n f)) :=
    setNodeState_bowsNoticed st hn (s.onNode n f)
  simp only [newClaim]
  split
  · exact bowsNoticed_of_bows rfl
  · exact keeps_ite (keeps_ite (hset _ _) (bowsNoticed_of_bows rfl)) (bowsNoticed_of_bows rfl)

theorem departingNotice_bowsNoticed {n : Nat} (hn : N n) (s : State) : bowsNoticed N s (departingNotice n s) := by
  have hset (st : NodeState) (f : Node → Node) : bowsNoticed N s (setNodeState n st (s.onNode n f)) :=
    setNodeState_bowsNoticed st hn (s.onNode n f)
  unfold departingNotice
  repeat' split
  all_goals first | exact hset _ _ | exact bowsNoticed_of_bows rfl

theorem giveDepartures_bowsNoticed (l : List Nat) (s : State) : bowsNoticed (fun _ => True) s (giveDepartures l s) :=
  forAll_induct _ _ _ (fun _ _ u hu => bowsNoticed.trans hu (departingNotice_bowsNoticed trivial u)) (bowsNoticed_of_bows rfl)

/-- R48: a reply brings at most the notice that its node is ACTIVE again. -/
theorem takeReply_bowsNoticed (d : Node) (last : LastReply) (faulty : Bool) (s : State) :
    bowsNoticed (· = d.serial) s (takeReply d last faulty s) := by
  have hset : bowsNoticed (· = d.serial) s (setNodeState d.serial .active (s.onNode d.serial fun d => { d with misses := 0 })) :=
    setNodeState_bowsNoticed (N := (· = d.serial)) _ rfl (s.onNode d.serial _)
  have hwake : bowsNoticed (· = d.serial) s (if d.state = .silent then
      setNodeState d.serial .active (s.onNode d.serial fun d => { d with misses := 0 })
      else s.onNode d.serial fun d => { d with misses := 0 }) := keeps_ite hset (bowsNoticed_of_bows rfl)
  exact hwake

/-! #### The master after a reply -/

theorem castOff_lineKept (ps : List Pos) (h : LineKept s t) : LineKept s (castOff ps t) := by
  unfold castOff
  split
  · exact h
  · refine (lineKept_notice s).giveDepartures _ (h.trans (lineKept_of_line ?_))
    rw [onSettling_line, forAll_line _ _ _ fun p u => by simp]

theorem orderReply_lineKept (n t' : Nat) (x : Thresholds) (f : WinchFlags) (b : Bool) (h : LineKept s t) :
    LineKept s (orderReply n x t' f b t) := by
  unfold orderReply
  split
  · exact h
  · split
    · exact h.trans (lineKept_of_line (by simp))
    · simp only [releaseReply]
      exact keeps_ite (castOff_lineKept _ (h.trans (lineKept_of_line (by simp)))) h
    · exact keeps_ite (h.trans (lineKept_of_line (by simp))) h
    · exact h

theorem classifyCoupling_lineKept (n t' : Nat) (x : Thresholds) (f : WinchFlags) (h : LineKept s t) :
    LineKept s (classifyCoupling n x t' f t) := h.trans (lineKept_of_line (by simp))

theorem bowReply_lineKept (n : Nat) (a : Option Int) (r f : Bool) (h : LineKept s t) : LineKept s (bowReply n a r f t) :=
  h.trans (lineKept_of_line (by simp))

theorem couplingReply_lineKept (n : Nat) (r : ChannelReport) (c : WinchCmd) (h : LineKept s t) :
    LineKept s (couplingReply n r c t) := by
  simp only [couplingReply]
  split
  · exact h
  · exact classifyCoupling_lineKept _ _ _ _ (orderReply_lineKept _ _ _ _ _ (h.trans (lineKept_of_line rfl)))

theorem winchReply_lineKept (n : Nat) (rs : List ChannelReport) (sent : List WinchCmd) (h : LineKept s t) :
    LineKept s (winchReply n rs sent t) :=
  forAll_induct _ _ _ (fun _ _ _ hu => by
    split
    · exact couplingReply_lineKept _ _ _ hu
    · exact hu) h

theorem winchGood_lineKept (d : Node) (sent : List WinchCmd) (body : List Byte) (s : State) : LineKept s (winchGood d sent body s) :=
  winchReply_lineKept _ _ _ ((lineKept_notice s).takeReply _ _ _ (.refl s))

theorem bowGood_lineKept (d : Node) (body : List Byte) (s : State) : LineKept s (bowGood d body s) :=
  bowReply_lineKept _ _ _ _ ((lineKept_notice s).takeReply _ _ _ (.refl s))

theorem earnRepoll_line (d : Node) (body : List Byte) (again : Bool) (s : State) : (earnRepoll d body again s).line = { s.line with
    repoll := if replyFlag body 0 && d.abilities.urgent && !again then some d.address else s.line.repoll } := by
  unfold earnRepoll
  split <;> rfl

/-- R49: the repoll that a good reply earns, at the end of the command. -/
theorem finish_earnRepoll {d : Node} {body : List Byte} {again : Bool} (h : LineKept (turnaround s) t) :
    (finish (earnRepoll d body again t)).line.phase = .turnaround ∧ (finish (earnRepoll d body again t)).line.repoll =
      if replyFlag body 0 && d.abilities.urgent && !again then some d.address else s.line.repoll := by
  rw [(finish_frame _).1, earnRepoll_line, h.line]
  exact ⟨rfl, rfl⟩

/-! #### R48, R116: a bow unit -/

/-- R48, R204: the actual thrust that a bow reply hands on. -/
def Node.thrustOf (d : Node) (body : List Byte) : Option Int :=
  if d.abilities.feedback then some (intOf (field body 1 2)) else none

theorem bowGood_eq (d : Node) (body : List Byte) (s : State) : bowGood d body s =
    bowReply d.serial (d.thrustOf body) (replyFlag body 1) (replyFlag body 2)
      (takeReply d (.bow (d.thrustOf body) (replyFlag body 1) (replyFlag body 2)) (replyFlag body 2) s) := rfl

theorem bowGood_node? {d : Node} (hd : s.node? d.serial = some d) (body : List Byte) : (bowGood d body s).node? d.serial =
    some (d.replied (.bow (d.thrustOf body) (replyFlag body 1) (replyFlag body 2)) (replyFlag body 2)) := by
  have hreply (n m : Nat) (a : Option Int) (r f : Bool) (u : State) : (bowReply n a r f u).node? m = u.node? m := by
    simp [State.node?]
  rw [bowGood_eq, hreply, takeReply_node? _ _ hd]

/-- R116: an entry after a reply of its unit. -/
def BowUnit.replied (actual : Option Int) (running fault : Bool) (u : BowUnit) : BowUnit :=
  { u with running := some running, fault := some fault, actual := actual }

/-- R116: the entry of a unit takes its reply, and no other entry changes. -/
theorem bowGood_entry (d : Node) (body : List Byte) {u : BowUnit} (hu : u ∈ s.steer.bows) :
    ∃ v, u.Noticed (· = d.serial) v ∧ (if v.serial = d.serial then
      v.replied (d.thrustOf body) (replyFlag body 1) (replyFlag body 2) else v) ∈ (bowGood d body s).steer.bows := by
  obtain ⟨v, hv, hn⟩ := forall₂_mem (takeReply_bowsNoticed d
    (.bow (d.thrustOf body) (replyFlag body 1) (replyFlag body 2)) (replyFlag body 2) s) hu
  exact ⟨v, hn, List.mem_map_of_mem hv⟩

/-- R50: a first miss of an ACTIVE bow unit makes it SILENT. -/
theorem pollMiss_bow {d : Node} (hd : s.node? d.serial = some d) (hkind : d.kind = .bow) (hst : d.state = .active) (hm : d.misses < 3) :
    pollMiss d.serial s =
      setNodeState d.serial .silent (s.onNode d.serial fun d => { d with misses := d.misses + 1, heldFlag := false }) := by
  have hfew : ¬4 ≤ d.misses + 1 := by omega
  simp only [pollMiss, hd, hst, hkind, hfew, if_true, if_false, reduceCtorEq]

theorem pollMiss_bows {d : Node} (hd : s.node? d.serial = some d) (hkind : d.kind = .bow) (hst : d.state = .active) (hm : d.misses < 3) :
    (pollMiss d.serial s).steer.bows =
      s.steer.bows.map fun u => if u.serial = d.serial then u.notice (some d.kind) (some .silent) else u := by
  have hmiss : (s.onNode d.serial fun d => { d with misses := d.misses + 1, heldFlag := false }).node? d.serial =
      some { d with misses := d.misses + 1, heldFlag := false } := by
    rw [(onNode_actsOn _ (fun d => { d with misses := d.misses + 1, heldFlag := false }) fun _ => rfl).same, hd, Option.map_some]
  rw [pollMiss_bow hd hkind hst hm, setNodeState_bows hmiss (by simp [hst])]
  rfl

/-! #### R115: entries are added and taken out -/

theorem mem_insertBow (v : BowUnit) (l : List BowUnit) : v ∈ insertBow v l := by
  induction l with
  | nil => exact List.mem_singleton.2 rfl
  | cons x l ih =>
    unfold insertBow
    split
    · exact List.mem_cons_of_mem _ ih
    · exact List.mem_cons_self

/-- R115: the entry that an accepted declaration adds. -/
theorem addBarge_bow (p : Pos) (hull light cargo n : Nat) (s : State) : ∃ u ∈ (finish (addBarge p hull light cargo (some n) s)).steer.bows,
    u.pos = p ∧ u.serial = n ∧ u.running = none ∧ u.fault = none ∧ u.actual = none ∧ u.commanded = 0 := by
  have hnew (x : Option Node) (v : State) : BowUnit.new p n x ∈ (addBow (.new p n x) v).steer.bows := mem_insertBow _ _
  have hclaim (v : State) : ∃ u ∈ (finish (dueAnalysis (claimBow p (some n) v))).steer.bows,
      u.pos = p ∧ u.serial = n ∧ u.running = none ∧ u.fault = none ∧ u.actual = none ∧ u.commanded = 0 := by
    obtain ⟨w, hw, hn⟩ := forall₂_mem (newClaim_bowsNoticed (N := fun _ => True) (n := n) trivial _) (hnew (v.node? n) v)
    rw [finish_bows]
    exact ⟨w, hw, hn.pos, hn.serial, hn.running rfl, hn.fault rfl, hn.actual rfl, hn.commanded⟩
  have he : addBarge p hull light cargo (some n) s = dueAnalysis (claimBow p (some n)
      (askCheckpoint (bargeReport p (s.withBarge (newBarge p hull light cargo (some n)))))) := rfl
  rw [he]
  exact hclaim _

/-- R5, R115: the entry of a removed barge is out of the list. -/
theorem removeRecord_bows (p : Pos) (cs : List Coupling) (s : State) : ∀ u ∈ (removeRecord p cs s).steer.bows, u.pos ≠ p := by
  have hstruck : ∀ u ∈ (s.struck p cs).steer.bows, u.pos ≠ p := fun u hu => by
    have hu : u ∈ (dropBow p (s.withoutBarge p cs)).steer.bows := by simpa [State.struck, dueAnalysis] using hu
    simpa using (List.mem_filter.1 hu).2
  have hgive := giveDepartures_bowsNoticed (s.nodesOf p ++ leftWinches cs) (s.struck p cs)
  intro w hw
  obtain ⟨u, hu, hn⟩ := forall₂_mem (R := fun w u : BowUnit => u.Noticed (fun _ => True) w) hgive.flip hw
  exact hn.pos ▸ hstruck u hu

theorem declareBarge_accepted {p : Pos} {hull light cargo : Nat} {bow : Option Nat}
    (h : (declareBarge p hull light cargo bow s).2.status = .accepted) :
    (declareBarge p hull light cargo bow s).1 = finish (addBarge p hull light cargo bow s) := by
  revert h
  unfold declareBarge
  split
  next why hwhy =>
    intro h
    have hne : why ≠ .accepted := by
      unfold State.bargeRefusal at hwhy
      split_ifs at hwhy <;> cases hwhy <;> decide
    exact absurd h hne
  next =>
    intro _
    dsimp only

theorem removeBarge_accepted {p : Pos} (h : (removeBarge p s).2.status = .accepted) : ∀ u ∈ (removeBarge p s).1.steer.bows, u.pos ≠ p := by
  have hdone (t : State) : ∀ u ∈ (finish (removeRecord p (s.couplingsAt p) t)).steer.bows, u.pos ≠ p := by
    rw [finish_bows]
    exact removeRecord_bows _ _ _
  have hbreak : ∀ u ∈ (finish (breakaway p s)).steer.bows, u.pos ≠ p := by
    rw [finish_bows, breakaway_eq]
    exact removeRecord_bows _ _ _
  revert h
  unfold removeBarge
  repeat' split
  · exact fun h => nomatch h
  · exact fun h => nomatch h
  · exact fun h => nomatch h
  · intro _
    dsimp only
    exact hbreak
  · exact fun h => nomatch h
  · intro _
    dsimp only
    exact hdone s

/-- R174: an answered request of a running part ends in its owner's state, with the answer at the port. -/
theorem answered_of_exec {c : Instr} {o : State → State × Answer} (hup : s.up = true) (hc : exec c s = answerRequest s o)
    (ht : exec c s = .next t) : t.steer = (o s).1.steer ∧ t.port.answer = some (o s).2 := by
  rw [hc, answerRequest_of_up hup] at ht
  obtain rfl := Host.Outcome.next.inj ht
  exact ⟨rfl, rfl⟩

/-- Settles O24: a reply by the record and the entries it reaches, the repoll it earns, and the entries that come and go. -/
theorem bowRepliesReachTheList : Obligations.BowRepliesReachTheList := by
  unfold Obligations.BowRepliesReachTheList
  refine ⟨?_, ?_, ?_, ?_, fun s t p hull light cargo n hup => ⟨fun ht hans => ?_, fun ht hans => ?_⟩⟩
  · intro s d v again chars f hup _ hd hkind hph hf haddr hfk hlen flag actual
    have hexp : expected (.pollBow d.address d.serial v again) f = true := by simp [expected, haddr, hfk, hlen, kindReply]
    have hexec := exec_received hup hph hf hexp
    simp only [exchangeGood, turnaround_node?, hd] at hexec
    obtain ⟨hphase, hrepoll⟩ := finish_earnRepoll (d := d) (body := f.body) (again := again) (bowGood_lineKept d f.body (turnaround s))
    have hthrust : d.thrustOf f.body = actual := by
      have : field f.body 1 2 = f.body.drop 1 := List.take_of_length_le (by simp [hlen])
      rw [Node.thrustOf, this]
    have hnode := (finish_node? d.serial _).trans
      ((earnRepoll_node? d f.body again d.serial _).1.trans (bowGood_node? (s := turnaround s) hd f.body))
    have hbows : (finish (earnRepoll d f.body again (bowGood d f.body (turnaround s)))).steer.bows =
        (bowGood d f.body (turnaround s)).steer.bows := by
      rw [finish_bows]
      simp
    have hentry {u : BowUnit} (hu : u ∈ s.steer.bows) := bowGood_entry (s := turnaround s) d f.body hu
    rw [← hbows, hthrust] at hentry
    rw [hthrust] at hnode
    obtain ⟨hmisses, hstate, hlast, hfault, hheld⟩ := d.replied_spec (.bow actual (flag 1) (flag 2)) (flag 2)
    refine ⟨_, _, hexec, by simp [SameStores, bowGood], hphase, hnode, hmisses, hstate, hlast, hfault, hheld, fun u hu hs => ?_,
      fun u hu hs => ?_, hrepoll⟩
    · obtain ⟨v, hn, hv⟩ := hentry hu
      rw [if_pos (hn.serial.trans hs)] at hv
      exact ⟨_, hv, hn.pos, hn.serial, rfl, rfl, rfl, hn.commanded⟩
    · obtain ⟨v, hn, hv⟩ := hentry hu
      rw [hn.other hs, if_neg hs] at hv
      exact hv
  · intro s d cs again chars f hup _ hd hkind hph hf haddr hfk hlen
    have hexp : expected (.pollWinch d.address d.serial cs again) f = true := by simp [expected, haddr, hfk, hlen, kindReply]
    have hexec := exec_received hup hph hf hexp
    simp only [exchangeGood, turnaround_node?, hd] at hexec
    exact ⟨_, hexec, by simp [SameStores, winchGood],
      (finish_earnRepoll (winchGood_lineKept d cs f.body (turnaround s))).2⟩
  · intro s d hup hk hd hph hrep hst
    have hr : s.repollNode = some d := by
      rw [State.repollNode, hrep]
      exact find?_lowest (List.pairwise_map.1 hk.1) hd (by simpa using (polled_iff _).2 hst) fun e _ he => by
        have : e.address = d.address := by simpa using (Bool.and_eq_true_iff.1 he).1
        omega
    refine ⟨_, (exec_turnaroundExpiry hup hph).trans (congrArg _ (startNext_repoll hr)), poll_besides _ _ _, ?_⟩
    rw [poll_line]
    cases hkind : d.kind <;> simp only [State.pollOf, hkind] <;> rfl
  · intro s d v again hup _ hd hkind hst hmiss hph
    have hend : bargeFrameSilence s = pollMiss d.serial (turnaround s) := by simp only [bargeFrameSilence, hph, exchangeMiss]
    have hexec : exec .bargeFrameSilence s = .next (finish (pollMiss d.serial (turnaround s))) := by
      rw [exec_of_event (f := fun s => finish (bargeFrameSilence s)) rfl, whenUp_of_up hup, hend]
    have hbows := (finish_bows _).trans (pollMiss_bows (s := turnaround s) hd hkind hst hmiss)
    refine ⟨_, hexec, by simp [SameStores], fun u hu hs => ⟨u.notice (some d.kind) (some .silent), ?_, rfl, rfl, rfl, rfl, rfl, rfl, rfl⟩⟩
    rw [hbows]
    exact List.mem_map.2 ⟨u, hu, if_pos hs⟩
  · obtain ⟨hsteer, hanswer⟩ := answered_of_exec (o := declareBarge p hull light cargo (some n)) hup rfl ht
    have hacc := congrArg Answer.status (Option.some.inj (hanswer.symm.trans hans))
    rw [hsteer, declareBarge_accepted hacc]
    exact addBarge_bow p hull light cargo n s
  · obtain ⟨hsteer, hanswer⟩ := answered_of_exec (o := removeBarge p) hup rfl ht
    rw [hsteer]
    exact removeBarge_accepted (congrArg Answer.status (Option.some.inj (hanswer.symm.trans hans)))

end Sys2Proof.Machine
end

section
/-! ### R56, R78, R100, R122, R156, R170, R183, R188, R191 to R194: a start -/

namespace Sys2Proof.Machine

variable {s t : State}

/-! #### Sections one at a time -/

theorem Sec.pick_put_same {α : Type} (p : PerSection α) (v : α) (c : Sec) : c.pick (Sec.put p v c) = v := by cases c <;> rfl

theorem Sec.pick_put_other {α : Type} (p : PerSection α) (v : α) {c d : Sec} (h : d ≠ c) : c.pick (Sec.put p v d) = c.pick p := by
  cases c <;> cases d <;> first | exact absurd rfl h | rfl

theorem Sec.mem_all (c : Sec) : c ∈ Sec.all := by cases c <;> decide

theorem Sec.all_nodup : Sec.all.Nodup := by decide

/-- What a run over sections leaves to see of a section `c`, where the other steps do not show in it and its own acts on what is seen. -/
theorem see_foldl {β γ : Type} {c : Sec} {step : β → Sec → β} {see : β → γ} {g : γ → γ} (hsame : ∀ b, see (step b c) = g (see b))
    (hother : ∀ b d, d ≠ c → see (step b d) = see b) {l : List Sec} (hl : l.Nodup) (b : β) :
    see (l.foldl step b) = if c ∈ l then g (see b) else see b := by
  induction l generalizing b with
  | nil => simp
  | cons d l ih =>
    obtain ⟨hd, hl⟩ := List.nodup_cons.1 hl
    rw [List.foldl_cons, ih hl]
    by_cases hdc : d = c
    · subst hdc
      simp [hd, hsame]
    · simp [hother b d hdc, Ne.symm hdc]

/-- A run that writes each section of a record once. -/
theorem pick_foldl_put {α : Type} {c : Sec} (v : PerSection α → Sec → α) {g : α → α} (hv : ∀ im, v im c = g (c.pick im)) {l : List Sec}
    (hl : l.Nodup) (im : PerSection α) :
    c.pick (l.foldl (fun im d => d.put im (v im d)) im) = if c ∈ l then g (c.pick im) else c.pick im :=
  see_foldl (step := fun im d => d.put im (v im d)) (see := fun im => c.pick im)
    (fun im => (Sec.pick_put_same im _ c).trans (hv im)) (fun im _ hd => Sec.pick_put_other im _ hd) hl im

/-- R193: the settings of one section are the same. -/
def Settings.agree (t u : Settings) : Sec → Prop
  | .engine => t.engine = u.engine
  | .steering => t.steering = u.steering
  | .coupling => t.coupling = u.coupling
  | .fuel => t.fuel = u.fuel
  | .backup => t.backup = u.backup

/-- R184: a value of a section is read from the settings of that section. -/
theorem Settings.get_of_agree {t u : Settings} {c : Sec} (h : t.agree u c) (m i : Nat) : t.get c m i = u.get c m i := by
  revert h
  unfold Settings.get
  split
  all_goals first | exact fun _ => rfl | (intro h; simp only [Settings.agree] at h; rw [h])

theorem Settings.take_agree (t u : Settings) (c : Sec) : (t.take u c).agree u c := by cases c <;> rfl

theorem Settings.take_agree_other (t u : Settings) {c d : Sec} (h : d ≠ c) : (t.take u d).agree t c := by
  cases c <;> cases d <;> first | exact absurd rfl h | rfl

/-! #### R188: a save that is cut off -/

/-- R188: the sections that a save reaches before a section. -/
def SaveJob.before (j : SaveJob) (c : Sec) : Nat :=
  ((Sec.all.takeWhile (· != c)).filter fun d => d.pick j.choices != .keep).length

theorem SaveJob.sections_nodup (j : SaveJob) : j.sections.Nodup := Sec.all_nodup.filter _

/-- R187: the sections of a save, from one that it writes. -/
theorem SaveJob.sections_split {j : SaveJob} {c : Sec} (h : c.pick j.choices ≠ .keep) :
    ∃ a b, j.sections = a ++ c :: b ∧ a.length = j.before c := by
  have hall : ∃ b, Sec.all = Sec.all.takeWhile (· != c) ++ c :: b := by cases c <;> exact ⟨_, rfl⟩
  obtain ⟨b, hb⟩ := hall
  refine ⟨_, b.filter fun d => d.pick j.choices != .keep, ?_, rfl⟩
  rw [SaveJob.sections, hb, List.filter_append, List.filter_cons_of_pos (by simpa using h), ← hb]

/-- R188: a section is written, or being written, by how many sections the save has behind it. -/
theorem SaveJob.cut_at {j : SaveJob} {c : Sec} (h : c.pick j.choices ≠ .keep) (n : Nat) :
    (c ∈ j.sections.take n ↔ j.before c < n) ∧ (c ∈ (j.sections.drop n).take 1 ↔ n = j.before c) := by
  obtain ⟨a, b, hs, hl⟩ := SaveJob.sections_split h
  have hnd := j.sections_nodup
  rw [hs] at hnd ⊢
  have ha : c ∉ a := fun hm => (List.nodup_append.1 hnd).2.2 c hm c List.mem_cons_self rfl
  have hb : c ∉ b := (List.nodup_cons.1 (List.nodup_append.1 hnd).2.1).1
  rw [← hl]
  rcases Nat.lt_trichotomy n a.length with hn | rfl | hn
  · have hd : (a ++ c :: b).drop n = a.drop n ++ c :: b := List.drop_append_of_le_length (by omega)
    obtain ⟨x, l, hx⟩ : ∃ x l, a.drop n = x :: l := List.exists_cons_of_ne_nil (by simpa using hn)
    have hxa : x ∈ a := List.mem_of_mem_drop (hx ▸ List.mem_cons_self)
    rw [List.take_append_of_le_length (by omega), hd, hx]
    refine ⟨iff_of_false (fun hm => ha (List.mem_of_mem_take hm)) (by omega), iff_of_false (fun hm => ?_) (by omega)⟩
    have : c = x := by simpa using hm
    exact ha (this ▸ hxa)
  · simp [ha]
  · obtain ⟨k, rfl⟩ : ∃ k, n = a.length + (k + 1) := ⟨n - a.length - 1, by omega⟩
    rw [List.take_length_add_append, List.drop_append, List.drop_eq_nil_of_le (by omega)]
    refine ⟨iff_of_true (by simp) hn, iff_of_false (fun hm => hb ?_) (by omega)⟩
    have hk : a.length + (k + 1) - a.length = k + 1 := by omega
    rw [hk] at hm
    exact List.mem_of_mem_drop (List.mem_of_mem_take (by simpa using hm))

theorem SaveJob.kept_unreached {j : SaveJob} {c : Sec} (h : c.pick j.choices = .keep) (n : Nat) :
    c ∉ j.sections.take n ∧ c ∉ (j.sections.drop n).take 1 := by
  have hc : c ∉ j.sections := fun hm => by simpa [h] using (List.mem_filter.1 hm).2
  exact ⟨fun hm => hc (List.mem_of_mem_take hm), fun hm => hc (List.mem_of_mem_drop (List.mem_of_mem_take hm))⟩

/-- R188, R193: a section whose CRC fails where `bad` holds. -/
def StoredSection.spoiled (bad : Bool) (x : StoredSection) : StoredSection := { x with good := x.good && !bad }

/-- R188: a section at a start, from what it was when the save began. -/
def SaveJob.cut (j : SaveJob) (n : Nat) (c : Sec) (x : StoredSection) : StoredSection :=
  let y := if c ∈ j.sections.take n then j.written x true (c.pick j.choices) else x
  if c ∈ (j.sections.drop n).take 1 then y.spoiled true else y

theorem cutSave_none {t : Store} (h : t.save = none) (n : Nat) : cutSave n t = t.image := by simp only [cutSave, h]

theorem pick_cutSave {t : Store} {j : SaveJob} (h : t.save = some j) (n : Nat) (c : Sec) :
    c.pick (cutSave n t) = j.cut n c (c.pick t.image) := by
  have hwhole := pick_foldl_put (c := c) (fun im d => j.written (d.pick im) true (d.pick j.choices))
    (g := fun x => j.written x true (c.pick j.choices)) (fun _ => rfl) (j.sections_nodup.sublist (List.take_sublist n _)) t.image
  have hnext := pick_foldl_put (c := c) (fun (im : PerSection StoredSection) d => StoredSection.spoiled true (Sec.pick im d))
    (g := StoredSection.spoiled true) (fun _ => rfl)
    (j.sections_nodup.sublist ((List.take_sublist 1 _).trans (List.drop_sublist n _)))
  simp only [StoredSection.spoiled, Bool.not_true, Bool.and_false] at hnext
  simp only [cutSave, h, SaveJob.cut, StoredSection.spoiled, Bool.not_true, Bool.and_false, hnext, hwhole]

/-- R188: how a save that is cut off leaves a section. -/
theorem SaveJob.cut_spec (j : SaveJob) (n : Nat) (c : Sec) (x : StoredSection) :
    (c.pick j.choices = .keep ∨ n < j.before c → j.cut n c x = x) ∧
      (c.pick j.choices ≠ .keep → n = j.before c → (j.cut n c x).good = false) ∧
      (c.pick j.choices = .apply → j.before c < n → j.cut n c x = ⟨true, .apply, j.snapshot⟩) ∧
      (c.pick j.choices = .default → j.before c < n → (j.cut n c x).good = true ∧ (j.cut n c x).marker = .default) := by
  unfold SaveJob.cut StoredSection.spoiled
  by_cases hk : c.pick j.choices = .keep
  · obtain ⟨htake, hdrop⟩ := SaveJob.kept_unreached hk n
    simp [hk, htake, hdrop]
  · obtain ⟨htake, hdrop⟩ := SaveJob.cut_at hk n
    simp only [htake, hdrop]
    refine ⟨fun h => ?_, fun _ h => ?_, fun ha h => ?_, fun hd h => ?_⟩
    · have hn : n < j.before c := h.resolve_left hk
      rw [if_neg (by omega), if_neg (by omega)]
    · simp [if_pos h]
    · rw [if_neg (by omega), if_pos h, ha]
      rfl
    · rw [if_neg (by omega), if_pos h, hd]
      exact ⟨rfl, rfl⟩

/-! #### R193: what a start loads -/

theorem pick_wearSections (worn : PerSection Bool) (im : PerSection StoredSection) (c : Sec) :
    c.pick (wearSections worn im) = (c.pick im).spoiled (c.pick worn) := by
  have hall := pick_foldl_put (c := c) (fun im d => (Sec.pick im d).spoiled (d.pick worn)) (fun _ => rfl) Sec.all_nodup im
  rw [if_pos c.mem_all] at hall
  exact hall

/-- R193: a section is loaded whole, or takes its built-in defaults. -/
theorem get_loadSettings (im : PerSection StoredSection) (c : Sec) : (loadSettings im).get c =
    if loadOutcome (c.pick im) c = 1 then (c.pick im).values.get c else Settings.defaults.get c := by
  unfold loadSettings
  rw [see_foldl (see := fun t : Settings => t.get c) (c := c)
    (g := fun old => if loadOutcome (c.pick im) c = 1 then (c.pick im).values.get c else old) (fun t => ?_) (fun t d hd => ?_)
    Sec.all_nodup, if_pos c.mem_all]
  · split
    · funext m i
      exact Settings.get_of_agree (Settings.take_agree _ _ c) m i
    · rfl
  · split
    · funext m i
      exact Settings.get_of_agree (Settings.take_agree_other _ _ hd) m i
    · rfl

theorem loadOutcome_loaded (x : StoredSection) (c : Sec) :
    loadOutcome x c = 1 ↔ x.good = true ∧ x.marker = .apply ∧ x.values.valid c = true := by
  unfold loadOutcome
  cases x.good <;> cases x.marker <;> cases x.values.valid c <;> simp

/-! #### R194: the parts of the state after a start -/

/-- R193: the stored sections as a start finds them. -/
def State.foundImage (s : State) (x : StartInputs) : PerSection StoredSection := wearSections x.worn (cutSave x.sectionsWritten s.store)

/-- R194: the checkpoint record checks, and no write of it was cut off. -/
def State.recordGood (s : State) : Bool := s.ckpt.good && s.ckpt.writing.isNone

/-- R194: the figures that a start takes. -/
def State.takenRecord (s : State) (cause : StartCause) : Record :=
  startRecord s.recordGood (startClock cause s.clock) s.ckpt.record

section
variable (cause : StartCause) (x : StartInputs) (s : State)

theorem startPart_store : (startPart cause x s).store =
    { working := loadSettings (s.foundImage x), image := s.foundImage x, unsaved := ⟨false, false, false, false, false⟩, save := none } := by
  simp only [startPart]
  split <;> rfl

theorem startPart_port : (startPart cause x s).port =
    { receiving := [], inHand := none, buffer := none
      queue := [⟨.started, .nothing, startClock cause s.clock,
        startBody cause (s.foundImage x) s.recordGood (startClock cause s.clock) (s.takenRecord cause).legs.current.number⟩]
      reportsLost := false, linkError := false, overrun := false, answer := none } := by
  simp only [startPart]
  split <;> rfl

theorem startPart_prop : (startPart cause x s).prop =
    { source := if x.takeoverBackup then .backup else .bridge, lever := 0, latch := true, phase := .normal, silenceTimer := none
      holdTimer := none, le := 0, sync := false, lead := 0 } := by
  simp only [startPart]
  split <;> rfl

theorem startPart_steer : ∃ bs, (startPart cause x s).steer = startSteering bs := by
  simp only [startPart]
  split <;> exact ⟨_, rfl⟩

theorem startPart_chan (e : Fin 4) :
    (startPart cause x s).chans[e] = startChannel (loadSettings (s.foundImage x)) e s.chans[e] := by
  have hc : (startPart cause x s).chans = #v[startChannel (loadSettings (s.foundImage x)) 0 s.chans[0],
      startChannel (loadSettings (s.foundImage x)) 1 s.chans[1], startChannel (loadSettings (s.foundImage x)) 2 s.chans[2],
      startChannel (loadSettings (s.foundImage x)) 3 s.chans[3]] := by
    simp only [startPart]
    split <;> rfl
  rw [hc]
  fin_cases e <;> rfl

theorem startPart_line : (startPart cause x s).line =
    { state := .up, failures := 0, phase := .sending .lineReset, walk := 1, repoll := none, nodes := [], handshake := none
      stops := [] } := by
  simp only [startPart]
  split <;> rfl

theorem startPart_orders : (startPart cause x s).liveOrders = [] := by
  simp only [startPart]
  split <;> rfl

theorem startPart_ctl :
    (startPart cause x s).ctl = { cause := cause, coming := none, resetHeld := false, restart := .none } := by
  simp only [startPart]
  split <;> rfl

theorem startPart_clock : (startPart cause x s).clock = startClock cause s.clock := by
  simp only [startPart]
  split <;> rfl

theorem startPart_legs : (startPart cause x s).legs = (s.takenRecord cause).legs := by
  simp only [startPart]
  split <;> rfl

theorem startPart_tables :
    (startPart cause x s).sup.barges = (startSupervisor (loadSettings (s.foundImage x)) (s.takenRecord cause)).barges ∧
      (startPart cause x s).sup.couplings = (s.takenRecord cause).couplings.map SavedCoupling.restored := by
  simp only [startPart]
  split <;> exact ⟨rfl, rfl⟩

theorem startPart_fuel : ∃ cap, (startPart cause x s).fuel =
    { startFuel (loadSettings (s.foundImage x)) (s.takenRecord cause) with fcap := cap } := by
  simp only [startPart]
  split <;> exact ⟨_, rfl⟩

/-- R190, R194: a record that is lost is replaced by a write asked for at once. -/
theorem startPart_ckpt : (startPart cause x s).ckpt.good = s.recordGood ∧
    ((startPart cause x s).ckpt.writing = none ↔ s.recordGood = true) := by
  simp only [startPart]
  split
  next h => exact ⟨rfl, iff_of_true rfl h⟩
  next h => exact ⟨rfl, iff_of_false (fun hn => nomatch hn) h⟩

end

/-- R100: a channel after a start has no sync trim. -/
theorem startChannel_trim (t : Settings) (e : Fin 4) (c : Channel) : (startChannel t e c).trim = 0 := by
  unfold startChannel
  split <;> rfl

/-- R79, R100: the channel of an engine present after a start. -/
theorem startChannel_present {t : Settings} {e : Fin 4} (c : Channel) (h : t.engine.present[e] = 1) :
    startChannel t e c = c.broughtUp .inUse t.engine.idle[e] := by
  have hp : t.enginePresent e = true := by simp [Settings.enginePresent, h]
  rw [startChannel, if_pos hp]

/-- R145: the book of a tank after a start. -/
theorem startFuel_book (t : Settings) (r : Record) (k : Fin 8) :
    (startFuel t r).tanks[k].book = if t.tankPresent k then (r.books[k]).getD 0 else 0 := by
  fin_cases k <;> rfl

/-- R194: a record that checks is taken as it stands. -/
theorem State.takenRecord_good (cause : StartCause) (hg : s.recordGood = true) : s.takenRecord cause = s.ckpt.record := by
  rw [State.takenRecord, hg]
  rfl

/-- R194: with the record lost, no tank has a book. -/
theorem startRecord_lost_book (clock : Stamp) (r : Record) (k : Fin 8) : (startRecord false clock r).books[k] = none := by
  fin_cases k <;> rfl

/-- R31: the barges of a record, restored. -/
theorem startSupervisor_barges (t : Settings) (r : Record) :
    (startSupervisor t r).barges.map (fun b => (b.pos, b.state)) = r.barges.map fun b => (b.pos, b.state) := by
  simp [startSupervisor, SavedBarge.restored, Function.comp_def]

theorem exec_start {x : StartInputs} {cause : StartCause} (hc : s.ctl.coming = some cause) (hr : s.ctl.resetHeld = false) :
    exec (.start x) s = .next (startPart cause x s) := by
  have he : exec (.start x) s = .next (start x s) := rfl
  rw [he, start, hc]
  simp [hr]

/-- R188, R193: a section at a start: what the save left of it, and whether it is loaded. -/
theorem startPart_section (cause : StartCause) (x : StartInputs) (s : State) (c : Sec) : ∃ x' : StoredSection,
    (s.store.save = none → x' = c.pick s.store.image) ∧
    (∀ j, s.store.save = some j →
      (c.pick j.choices = .keep ∨ x.sectionsWritten < j.before c → x' = c.pick s.store.image) ∧
      (c.pick j.choices ≠ .keep → x.sectionsWritten = j.before c → x'.good = false) ∧
      (c.pick j.choices = .apply → j.before c < x.sectionsWritten → x' = ⟨true, .apply, j.snapshot⟩) ∧
      (c.pick j.choices = .default → j.before c < x.sectionsWritten → x'.good = true ∧ x'.marker = .default)) ∧
    c.pick (startPart cause x s).store.image = x'.spoiled (c.pick x.worn) ∧
    ((x'.good = true ∧ c.pick x.worn = false ∧ x'.marker = .apply ∧ x'.values.valid c = true) →
      ∀ m i, (startPart cause x s).settings.get c m i = x'.values.get c m i) ∧
    (¬(x'.good = true ∧ c.pick x.worn = false ∧ x'.marker = .apply ∧ x'.values.valid c = true) →
      ∀ m i, (startPart cause x s).settings.get c m i = Settings.defaults.get c m i) ∧
    c.pick (startPart cause x s).store.unsaved = false := by
  have himage : c.pick (s.foundImage x) = (c.pick (cutSave x.sectionsWritten s.store)).spoiled (c.pick x.worn) := pick_wearSections _ _ _
  have hget := get_loadSettings (s.foundImage x) c
  have hloaded : loadOutcome (c.pick (s.foundImage x)) c = 1 ↔ (c.pick (cutSave x.sectionsWritten s.store)).good = true ∧
      c.pick x.worn = false ∧ (c.pick (cutSave x.sectionsWritten s.store)).marker = .apply ∧
      (c.pick (cutSave x.sectionsWritten s.store)).values.valid c = true := by
    rw [himage, loadOutcome_loaded]
    simp [StoredSection.spoiled, and_assoc]
  rw [himage] at hget hloaded
  simp only [State.settings, startPart_store, himage]
  refine ⟨_, fun h => by rw [cutSave_none h], fun j h => ?_, rfl, fun h m i => ?_, fun h m i => ?_, by cases c <;> rfl⟩
  · rw [pick_cutSave h]
    exact j.cut_spec _ c _
  · rw [hget, if_pos (hloaded.2 h)]
    rfl
  · rw [hget, if_neg (mt hloaded.1 h)]

/-- R31, R194: what a start restores of a record that checks. -/
theorem startPart_restores (cause : StartCause) (x : StartInputs) (hrecord : s.recordGood = true) :
    (startPart cause x s).legs = s.ckpt.record.legs ∧ (startPart cause x s).ckpt.good = true ∧ (startPart cause x s).ckpt.writing = none ∧
      (startPart cause x s).sup.couplings.map (·.number) = s.ckpt.record.couplings.map (·.number) ∧
      (startPart cause x s).sup.barges.map (fun b => (b.pos, b.state)) = s.ckpt.record.barges.map (fun b => (b.pos, b.state)) ∧
      (startPart cause x s).fuel.bunkered = s.ckpt.record.bunkered ∧
      (startPart cause x s).fuel.consumption = s.ckpt.record.consumption ∧
      ∀ k : Fin 8, (startPart cause x s).settings.fuel.tankPresent[k] = 1 →
        (startPart cause x s).fuel.tanks[k].book = (s.ckpt.record.books[k]).getD 0 := by
  have hlegs := startPart_legs cause x s
  obtain ⟨hbarges, hcouplings⟩ := startPart_tables cause x s
  obtain ⟨cap, hfuel⟩ := startPart_fuel cause x s
  obtain ⟨hgood, hwriting⟩ := startPart_ckpt cause x s
  rw [State.takenRecord_good cause hrecord] at hlegs hbarges hcouplings hfuel
  refine ⟨hlegs, hgood.trans hrecord, hwriting.2 hrecord, ?_, ?_, by rw [hfuel]; rfl, by rw [hfuel]; rfl, fun k hk => ?_⟩
  · rw [hcouplings, List.map_map]
    rfl
  · rw [hbarges, startSupervisor_barges]
  · rw [State.settings, startPart_store] at hk
    have hp : (loadSettings (s.foundImage x)).tankPresent k = true := by simpa [Settings.tankPresent] using hk
    rw [hfuel]
    exact (startFuel_book _ _ k).trans (if_pos hp)

/-- R190, R194: what stands after a start in place of a record that is lost. -/
theorem startPart_replaces_lost (cause : StartCause) (x : StartInputs) (hrecord : s.recordGood = false) :
    (startPart cause x s).legs = .fresh (startPart cause x s).clock ∧ (startPart cause x s).sup.barges = [] ∧
      (startPart cause x s).sup.couplings = [] ∧ (startPart cause x s).ckpt.good = false ∧
      (startPart cause x s).ckpt.writing ≠ none ∧ (startPart cause x s).fuel.bunkered = 0 ∧
      ∀ k : Fin 8, (startPart cause x s).fuel.tanks[k].book = 0 := by
  have hlegs := startPart_legs cause x s
  obtain ⟨hbarges, hcouplings⟩ := startPart_tables cause x s
  obtain ⟨cap, hfuel⟩ := startPart_fuel cause x s
  obtain ⟨hgood, hwriting⟩ := startPart_ckpt cause x s
  rw [State.takenRecord, hrecord] at hlegs hbarges hcouplings hfuel
  refine ⟨by rw [hlegs, startPart_clock]; rfl, by rw [hbarges]; rfl, by rw [hcouplings]; rfl, hgood.trans hrecord,
    fun h => by simpa [hrecord] using hwriting.1 h, by rw [hfuel]; rfl, fun k => ?_⟩
  rw [hfuel]
  refine (startFuel_book _ _ k).trans ?_
  rw [startRecord_lost_book]
  exact ite_self _

/-- Settles O16: the parts of the state after a start, one by one. -/
theorem startBringsThePartUp : Obligations.StartBringsThePartUp := by
  unfold Obligations.StartBringsThePartUp
  intro s x cause hc hr
  have hstore := startPart_store cause x s
  have hport := startPart_port cause x s
  have hprop := startPart_prop cause x s
  obtain ⟨bs, hsteer⟩ := startPart_steer cause x s
  have hchan := startPart_chan cause x s
  have hline := startPart_line cause x s
  have hctl := startPart_ctl cause x s
  have hclock := startPart_clock cause x s
  have hup : (startPart cause x s).up = true := by rw [State.up, hctl]; rfl
  refine ⟨_, exec_start hc hr, hup, by rw [hctl], by rw [hctl], fun h => ?_, fun h => ?_, startPart_section cause x s, by rw [hstore],
    by rw [hport], by rw [hport], by rw [hport], by rw [hport], by rw [hport], by rw [hport], ?_, by rw [hprop], by rw [hprop],
    by rw [hprop], by rw [hprop], by rw [hprop], by rw [hprop], by rw [hsteer]; rfl, by rw [hsteer]; rfl, by rw [hsteer]; rfl,
    by rw [hsteer]; rfl, by rw [hsteer]; rfl, fun e => ?_, fun e he => ?_, by rw [hline], by rw [hline], by rw [hline],
    by rw [hline], startPart_orders cause x s, fun c hm => ?_, fun hg hw => ?_, fun hlost => ?_⟩
  · rw [hclock]
    rcases h with rfl | rfl <;> rfl
  · rw [hclock]
    rcases h with rfl | rfl <;> rfl
  · exact ⟨_, by rw [hport], rfl, rfl, hclock.symm, by simp [State.attention, hup, hport]⟩
  · rw [hchan, startChannel_trim]
  · rw [State.settings, hstore] at he ⊢
    rw [hchan, startChannel_present _ he]
    exact ⟨rfl, rfl, rfl, rfl⟩
  · rw [(startPart_tables cause x s).2] at hm
    obtain ⟨d, -, rfl⟩ := List.mem_map.1 hm
    exact ⟨rfl, rfl, rfl, rfl⟩
  · exact startPart_restores cause x (by simp [State.recordGood, hg, hw])
  · refine startPart_replaces_lost cause x ?_
    rcases hlost with h | h <;> simp [State.recordGood, h, Option.isSome_iff_ne_none]

end Sys2Proof.Machine
end

section
/-! ### What Le and the engine channels rest on -/

namespace Sys2Proof.Machine

variable {s t u : State} {P : State → Prop}

/-- R60, R66: Le, and the figures it is made of, are as they were. -/
structure SameLever (s t : State) : Prop where
  le : t.prop.le = s.prop.le := by simp
  source : t.prop.sourceLever = s.prop.sourceLever := by simp
  ccap : t.sup.ccap = s.sup.ccap := by simp
  fcap : t.fuel.fcap = s.fuel.fcap := by simp
  engine : t.settings.engine = s.settings.engine := by simp [settings_eq]

/-- Le, the figures it is made of, and the engine channels are as they were. -/
structure SameDrive (s t : State) : Prop extends SameLever s t where
  chans : t.chans = s.chans := by simp

theorem SameLever.trans (h : SameLever s t) (h' : SameLever t u) : SameLever s u where
  le := h'.le.trans h.le
  source := h'.source.trans h.source
  ccap := h'.ccap.trans h.ccap
  fcap := h'.fcap.trans h.fcap
  engine := h'.engine.trans h.engine

theorem SameDrive.refl (s : State) : SameDrive s s where

theorem SameDrive.trans (h : SameDrive s t) (h' : SameDrive t u) : SameDrive s u where
  toSameLever := h.toSameLever.trans h'.toSameLever
  chans := h'.chans.trans h.chans

@[simp] theorem setCouplingState_ccap (n : Nat) (st : CouplingState) (s : State) :
    (setCouplingState n st s).sup.ccap = s.sup.ccap := by
  unfold setCouplingState
  repeat' split
  all_goals simp [State.onCoupling]

@[simp] theorem setBargeState_ccap (p : Pos) (st : BargeState) (s : State) :
    (setBargeState p st s).sup.ccap = s.sup.ccap := by simp [setBargeState, State.onBarge]

/-- The operations of the Barge Line act neither on Le's inputs nor on an engine. -/
theorem sameDrive_line (s : State) : LineKeeps (SameDrive s) where
  report _ _ _ h := h.trans {}
  node _ _ _ h := h.trans {}
  bow _ _ h := h.trans {}
  freed _ h := h.trans {}
  requeued _ _ _ _ _ h := h.trans {}
  started _ _ _ _ h := h.trans {}
  command _ _ _ h := h.trans { ccap := rfl }
  coupling _ _ _ _ h := h.trans {}
  line _ _ h := h.trans {}
  struck _ h := h.trans {}
  joined _ _ _ h := h.trans {}
  classified _ _ h := h.trans {}
  tension _ _ _ _ h := h.trans { ccap := rfl }
  cast ps h := by
    have hb : SameDrive s (forAll ps (fun p => setBargeState p .castOff) _) :=
      forAll_induct (P := SameDrive s) ps _ _ (fun _ _ _ hu => hu.trans {}) h
    exact hb.trans {}

/-! #### Tables and tanks -/

@[simp] theorem onTank_fcap (k : Fin 8) (f : Tank → Tank) (s : State) : (s.onTank k f).fuel.fcap = s.fuel.fcap := rfl

@[simp] theorem onMeter_fcap (m : Fin 10) (f : Meter → Meter) (s : State) : (s.onMeter m f).fuel.fcap = s.fuel.fcap := rfl

@[simp] theorem addAdjustment_fcap (x : Int) (s : State) : (addAdjustment x s).fuel.fcap = s.fuel.fcap := rfl

@[simp] theorem takeFromBook_fcap (k : Fin 8) (x : Int) (s : State) : (takeFromBook k x s).fuel.fcap = s.fuel.fcap := by
  simp only [takeFromBook]
  split <;> simp

@[simp] theorem takeFromTank_fcap (n : Nat) (x : Int) (s : State) : (takeFromTank n x s).fuel.fcap = s.fuel.fcap := by
  unfold takeFromTank
  split <;> simp

@[simp] theorem tankTests_fcap (k : Fin 8) (s : State) : (tankTests k s).fuel.fcap = s.fuel.fcap := by
  simp only [tankTests, overfullTest, lowTest]
  repeat' split
  all_goals simp

@[simp] theorem reserveTest_fcap (s : State) : (reserveTest s).fuel.fcap = s.fuel.fcap := by
  unfold reserveTest
  split <;> simp

@[simp] theorem soundTo_fcap (k : Fin 8) (b : Int) (s : State) : (soundTo k b s).fuel.fcap = s.fuel.fcap := by simp [soundTo]

@[simp] theorem tankTaken_fcap (k : Fin 8) (s : State) : (tankTaken k s).fuel.fcap = s.fuel.fcap := by
  simp only [tankTaken]
  split <;> simp

@[simp] theorem takeTemperature_fcap (m : Fin 10) (r : Option Int) (s : State) :
    (takeTemperature m r s).fuel.fcap = s.fuel.fcap := by
  simp only [takeTemperature]
  split <;> simp

@[simp] theorem bookEngine_fcap (e : Fin 4) (s : State) : (bookEngine e s).fuel.fcap = s.fuel.fcap := by
  have hn : (bookNet e s).fuel.fcap = s.fuel.fcap := by
    unfold bookNet
    dsimp only
    split <;> simp
  unfold bookEngine addRunning
  split <;> simp [hn]

@[simp] theorem bookTransfer_fcap (s : State) : (bookTransfer s).fuel.fcap = s.fuel.fcap := by
  simp only [bookTransfer]
  split <;> simp

@[simp] theorem bookBunker_fcap (s : State) : (bookBunker s).fuel.fcap = s.fuel.fcap := by
  simp only [bookBunker]
  split <;> simp

theorem sameDrive_forAll {α : Type} {l : List α} {f : α → State → State} (hf : ∀ a u, SameDrive u (f a u)) (s : State) :
    SameDrive s (forAll l f s) :=
  forAll_induct (P := SameDrive s) l f s (fun a _ u hu => hu.trans (hf a u)) (.refl s)

/-- R125, steps 1 to 5: the meters, and what they book. -/
theorem sameDrive_booked (v : Vector (Option Int) 10) (s : State) :
    SameDrive s (bookBunker (bookTransfer (forAll allEngines bookEngine (forAll allMeters correctMeter
      (forAll allMeters (fun m => takeTemperature m v[m]) s))))) := by
  have hm := sameDrive_forAll (l := allMeters) (f := fun m => takeTemperature m v[m]) (fun _ _ => {}) s
  have hc (u : State) := sameDrive_forAll (l := allMeters) (f := correctMeter) (fun _ _ => { fcap := rfl }) u
  have hb (u : State) := sameDrive_forAll (l := allEngines) (f := bookEngine) (fun _ _ => {}) u
  exact (hm.trans (hc _)).trans ((hb _).trans {})

/-- R125, step 6: the tests of the fuel orders. -/
theorem sameDrive_testTransfer (s : State) : SameDrive s (testTransfer s) := by
  simp only [testTransfer]
  split
  · exact .refl s
  · exact keeps_ite ((sameDrive_line s).completeOrder _ _ {}) {}

theorem sameDrive_testBunker (s : State) : SameDrive s (testBunker s) := by
  simp only [testBunker]
  split
  · exact .refl s
  · refine keeps_ite ((sameDrive_line s).completeOrder _ _ (.refl s)) ?_
    split
    · exact (sameDrive_line s).completeOrder _ _ {}
    · exact {}

theorem sameDrive_makeupChange (s : State) : SameDrive s (makeupChange s) where
  ccap := by rw [makeupChange_sup]; rfl

/-- R19 to R21: the analysis reaches Le's inputs only as it makes Ccap. -/
theorem sameDrive_changedState (s : State) : SameDrive s (changedState s) := by
  have hj : SameDrive s (joinedState s) := SameDrive.trans (t := (keepHeld (chained CouplingState.holding s.sup.couplings) s).onSettling
    fun x => { x with analysis := false, makeup := false }) { ccap := rfl } (sameDrive_forAll (fun _ _ => {}) _)
  unfold changedState
  exact keeps_ite (hj.trans (sameDrive_makeupChange _)) hj

end Sys2Proof.Machine
end

section
/-! ### Invariants of the lever and of the engine channels

Such an invariant is kept by an operation that leaves Le, its inputs and the channels. It is left to say that the recomputation of Le
keeps it, and the commands that act on an engine. -/

namespace Sys2Proof.Machine

variable {s t : State} {P : State → Prop}

/-! #### What the Propulsion Controller holds besides Le -/

theorem restartSilence_prop (s : State) :
    (restartSilence s).prop = { s.prop with silenceTimer := seconds s.settings.backup.silenceLimitS } := rfl

/-- R64: a silence that stands ends. -/
theorem endSilence_prop (s : State) : (endSilence s).prop =
    { s.prop with phase := .normal, holdTimer := if s.prop.phase = .normal then s.prop.holdTimer else none } := by
  by_cases h : s.prop.phase = .normal
  · cases hp : s.prop
    simp_all [endSilence]
  · simp [endSilence, h]

/-- R60: the zero-latch after a delivered lever. -/
theorem clearLatch_prop (l : Int) (s : State) :
    (clearLatch l s).prop = { s.prop with latch := s.prop.latch && decide (l ≠ 0) } := by
  unfold clearLatch
  split
  next h =>
    simp only [Bool.and_eq_true, beq_iff_eq] at h
    simp [h.2]
  next h =>
    simp only [Bool.and_eq_true, beq_iff_eq, not_and] at h
    have hl : s.prop.latch = (s.prop.latch && decide (l ≠ 0)) := by
      cases hs : s.prop.latch
      · rfl
      · simp [h hs]
    rw [← hl]

/-- R66, R67: the recomputation writes Le alone of the Propulsion Controller's figures. -/
theorem recomputeLe_prop (s : State) : (recomputeLe s).prop = { s.prop with le := s.leNow } := by
  unfold recomputeLe
  dsimp only
  repeat' split
  next h => rw [h]
  all_goals simp

theorem sameDrive_endSilence (s : State) : SameDrive s (endSilence s) where
  le := by rw [endSilence_prop]
  source := by rw [endSilence_prop]; rfl

theorem sameDrive_restartSilence (s : State) : SameDrive s (restartSilence s) := ⟨⟨rfl, rfl, rfl, rfl, rfl⟩, rfl⟩

/-- R57: the change of the source leaves lever and latch. -/
theorem sameDrive_followTakeover (b : Bool) (s : State) : SameDrive s (followTakeover b s) := by
  unfold followTakeover
  split
  · exact { source := by simp; rfl }
  · exact { le := by simp [restartSilence], source := by simp [restartSilence]; rfl }
  · exact .refl s
  · exact .refl s

/-- What an invariant of the lever or of the engine channels rests on. -/
structure DriveKeeps (P : State → Prop) : Prop where
  same : ∀ {s t}, P s → SameDrive s t → P t
  recomputed : ∀ {s t}, P s → t.chans = s.chans → t.settings.engine = s.settings.engine → P (recomputeLe t)
  control : ∀ {s} e, P s → P (engineControl e s)

/-- The commands that act on an engine channel in another way than by a change of Le or by the control period. -/
def actsOnEngines : Instr → Bool
  | .setEngineModes _ _ _ _ _ | .setSync _ | .writeSetting _ _ _ _ | .syncPeriodExpiry | .governorPeriodEnd _ | .shaftPulse _ _
  | .shaftWindowExpiry _ | .inputFilterExpiry _ _ | .engageConfirmExpiry _ | .neutralDwellExpiry _ | .dwellTimeoutExpiry _
  | .wrongWayExpiry _ | .followExpiry _ => true
  | _ => false

namespace DriveKeeps

/-- The operations of the Barge Line keep such an invariant. -/
theorem line (k : DriveKeeps P) : LineKeeps P where
  report a b c h := k.same h ((sameDrive_line _).report a b c (.refl _))
  node n f hf h := k.same h ((sameDrive_line _).node n f hf (.refl _))
  bow n f h := k.same h ((sameDrive_line _).bow n f (.refl _))
  freed i h := k.same h ((sameDrive_line _).freed i (.refl _))
  requeued i o st ho hw h := k.same h ((sameDrive_line _).requeued i o st ho hw (.refl _))
  started i o ho hw h := k.same h ((sameDrive_line _).started i o ho hw (.refl _))
  command n c hn h := k.same h ((sameDrive_line _).command n c hn (.refl _))
  coupling n st hn hst h := k.same h ((sameDrive_line _).coupling n st hn hst (.refl _))
  line f hf h := k.same h ((sameDrive_line _).line f hf (.refl _))
  struck n h := k.same h ((sameDrive_line _).struck n (.refl _))
  joined d hn hx h := k.same h ((sameDrive_line _).joined d hn hx (.refl _))
  classified n st h := k.same h ((sameDrive_line _).classified n st (.refl _))
  tension n x f c h := k.same h ((sameDrive_line _).tension n x f c (.refl _))
  cast ps h := k.same h ((sameDrive_line _).cast ps (.refl _))

theorem ccapRecompute (k : DriveKeeps P) (b : Bool) (h : P s) : P (ccapRecompute b s) := by
  have ht : P (if s.ccapNow = s.sup.ccap then s else recomputeLe (s.onSup fun u => { u with ccap := s.ccapNow })) :=
    keeps_ite h (k.recomputed (s := s) h rfl rfl)
  unfold Machine.ccapRecompute
  exact keeps_ite (k.same ht {}) ht

theorem fcapRecompute (k : DriveKeeps P) (h : P s) : P (fcapRecompute s) := by
  have ht : P (if s.fcapNow = s.fuel.fcap then s else recomputeLe (s.onFuel fun f => { f with fcap := s.fcapNow })) :=
    keeps_ite h (k.recomputed (s := s) h rfl rfl)
  have tested {u : State} (hu : P u) : P (reserveTest u) := k.same hu {}
  unfold Machine.fcapRecompute
  exact tested (keeps_ite (k.same ht {}) ht)

/-- R19 to R22: the analysis. -/
theorem holdingAnalysis (k : DriveKeeps P) (h : P s) : P (holdingAnalysis s) := by
  have hc : P (forAll (s.newlyUnheld (chained CouplingState.holding s.sup.couplings)) unheldAlarm (changedState s)) :=
    k.same (k.same h (sameDrive_changedState s)) (sameDrive_forAll (fun _ _ => {}) _)
  have hm {u : State} (b : Bool) (hu : P u) : P (u.onSup fun x => { x with unheldStands := b }) := k.same hu {}
  exact k.ccapRecompute _ (hm _ hc)

theorem settle (k : DriveKeeps P) (h : P s) : P (settle s) :=
  SettleKeeps.settle (N := fun _ => True)
    { toStartKeeps := k.line.toStartKeeps
      due := fun _ h => k.same h ⟨⟨rfl, rfl, rfl, rfl, rfl⟩, rfl⟩
      analysed := fun h => k.holdingAnalysis h } h

theorem finish (k : DriveKeeps P) (h : P s) : P (finish s) := by
  have hs := k.settle h
  unfold Machine.finish
  exact k.same hs {}

/-! #### Lever and silence -/

theorem takeLever (k : DriveKeeps P) (v : Int) (h : P s) : P (takeLever v s) :=
  k.recomputed h (by simp) (by simp [settings_eq])

theorem zeroCommand (k : DriveKeeps P) (h : P s) : P (zeroCommand s) := by
  have hz : P (recomputeLe (setHelmTo 0 (s.onProp fun p => { p with phase := .zeroed, holdTimer := none, lever := 0 }))) :=
    k.recomputed h (by simp) (by simp [settings_eq])
  have hr {u : State} (hu : P u) : P (sourceReport u) := k.same hu {}
  exact hr hz

theorem silenceLimitExpiry (k : DriveKeeps P) (h : P s) : P (silenceLimitExpiry s) := by
  have held (x : Timer) (d : List Byte) : P (sourceReport (report .bridgeSilent .nothing d
      (s.onProp fun p => { p with phase := .hold, silenceTimer := none, holdTimer := x }))) :=
    k.same h { source := by simp; rfl }
  unfold Machine.silenceLimitExpiry
  exact keeps_ite (keeps_ite (k.zeroCommand (held _ _)) (held _ _)) h

theorem holdTimeExpiry (k : DriveKeeps P) (h : P s) : P (holdTimeExpiry s) := by
  unfold Machine.holdTimeExpiry
  exact keeps_ite (k.zeroCommand h) h

theorem deliverBackup (k : DriveKeeps P) (x y : Nat) (h : P s) : P (deliverBackup x y s) := by
  have hl (l : Int) : P (recomputeLe (clearLatch l (s.onProp fun p => { p with lever := l }))) :=
    k.recomputed h (by simp) (by simp [settings_eq])
  have hh {u : State} (x : Int) (hu : P u) : P (setHelmTo x u) := k.same hu {}
  unfold Machine.deliverBackup
  exact keeps_ite (hh _ (hl _)) h

theorem controlPeriodExpiry (k : DriveKeeps P) (b : Bool) (x y : Nat) (h : P s) : P (controlPeriodExpiry b x y s) :=
  k.finish (forAll_induct _ _ _ (fun e _ _ hu => k.control e hu)
    (k.settle (k.deliverBackup x y (k.same h (sameDrive_followTakeover b s)))))

/-! #### Declarations and removals -/

theorem dueAnalysis (k : DriveKeeps P) (h : P s) : P (dueAnalysis s) := k.same h {}

theorem addBarge (k : DriveKeeps P) (p : Pos) (hull light cargo : Nat) (bow : Option Nat) (h : P s) :
    P (addBarge p hull light cargo bow s) := by
  have hb : P (askCheckpoint (bargeReport p (s.onSup fun u =>
      { u with barges := insertBarge ⟨p, hull, light, cargo, bow, .expected, true, false⟩ u.barges }))) := k.same h {}
  refine k.dueAnalysis ?_
  unfold claimBow
  split
  · exact k.line.newClaim _ (k.same hb {})
  · exact hb

theorem addCoupling (k : DriveKeeps P) (n : Nat) (a : CouplingEnd) (b : Pos) (serial channel winchEnd cls : Nat) (h : P s) :
    P (addCoupling n a b serial channel winchEnd cls s) :=
  k.dueAnalysis (k.line.newClaim _ (k.same (s := s) h {}))

theorem dropCoupling (k : DriveKeeps P) (c : Coupling) (h : P s) : P (dropCoupling c s) :=
  k.same h { ccap := by rw [dropCoupling_sup] }

theorem removeRecord (k : DriveKeeps P) (p : Pos) (cs : List Coupling) (h : P s) : P (removeRecord p cs s) := by
  have hd : P (forAll cs Machine.dropCoupling s) := forAll_induct cs _ s (fun c _ _ hu => k.dropCoupling c hu) h
  have hr {u : State} (hu : P u) : P (askCheckpoint (bargeReport p (dropBow p (u.onSup fun x =>
      { x with barges := x.barges.filter fun b => b.pos != p })))) := k.same hu {}
  unfold Machine.removeRecord
  exact k.line.giveDepartures _ (k.dueAnalysis (hr hd))

theorem breakaway (k : DriveKeeps P) (p : Pos) (h : P s) : P (breakaway p s) := by
  have ho : P (forAll (s.liveOrders.filter fun x => s.orderEndsAt p x.2)
      (fun x => completeOrder x.1 (.ofWire .cancelled none)) s) :=
    forAll_induct _ _ s (fun _ _ _ hu => k.line.completeOrder _ _ hu) h
  have hr := k.removeRecord p (s.couplingsAt p) ho
  exact k.same hr { ccap := rfl }

/-! #### Requests and events -/

theorem ownerActs (k : DriveKeeps P) {c : Sec} (hc : c ≠ .engine) (num idx : Nat) (old v : Int) (was : Settings) (h : P s) :
    P (ownerActs c num idx old v was s) := by
  cases c
  case engine => exact absurd rfl hc
  case steering =>
    have hs : SameDrive s (ownerSteering was num s) := {}
    exact k.same h hs
  case coupling =>
    simp only [Machine.ownerActs, ownerCoupling]
    repeat' split
    · exact k.same (s := s) h ⟨⟨rfl, rfl, rfl, rfl, rfl⟩, rfl⟩
    · exact k.ccapRecompute _ h
    · exact k.same h {}
    · exact h
  case fuel =>
    simp only [Machine.ownerActs, ownerFuel]
    repeat' split
    · exact k.fcapRecompute h
    · exact k.fcapRecompute (k.same h {})
    · exact k.same h {}
    · exact k.same h {}
    · exact k.fcapRecompute h
    · exact k.fcapRecompute h
    · exact h
  case backup => exact h

/-- R125: an accounting interval reaches Le's inputs as it makes Fcap. -/
theorem accountingInterval (k : DriveKeeps P) (v : Vector (Option Int) 10) (h : P s) : P (accountingInterval v s) := by
  have hb := k.same h (sameDrive_booked v s)
  have ht := k.same (k.same hb (sameDrive_testTransfer _)) (sameDrive_testBunker _)
  exact k.finish (k.fcapRecompute (k.same ht (sameDrive_forAll (fun _ _ => {}) _)))

theorem owner (k : DriveKeeps P) {c : Instr} {o : State → State × Answer} (ho : ownerOf c = some o)
    (hc : actsOnEngines c = false) (h : P s) : P (o s).1 := by
  cases c <;> cases ho <;> first | cases hc; done | skip
  case setLever.refl v =>
    unfold setLever
    split
    · exact h
    · dsimp only
      exact k.finish (k.takeLever v h)
  case setHelm.refl v =>
    unfold setHelm
    split
    · exact h
    · dsimp only
      exact k.same (k.same (k.same h {}) (sameDrive_restartSilence _)) (sameDrive_endSilence _)
  case declareBarge.refl p hull light cargo bow =>
    unfold declareBarge
    split
    · exact h
    · dsimp only
      exact k.finish (k.addBarge p hull light cargo bow h)
  case removeBarge.refl p =>
    unfold removeBarge
    repeat' split
    · exact h
    · exact h
    · exact h
    · dsimp only
      exact k.finish (k.breakaway p h)
    · exact h
    · dsimp only
      exact k.finish (k.removeRecord p _ h)
  case declareCoupling.refl n a b serial channel winchEnd cls =>
    unfold declareCoupling
    repeat' split
    · exact h
    · exact h
    · exact h
    · dsimp only
      exact k.finish (k.addCoupling n a _ serial channel winchEnd cls h)
  case withdrawCoupling.refl n =>
    unfold withdrawCoupling
    repeat' split
    · exact h
    · exact h
    · exact h
    · dsimp only
      exact k.finish (k.line.giveDepartures _ (k.dueAnalysis (k.dropCoupling _ h)))
  case readBarge.refl p =>
    unfold readBarge
    repeat' split
    · exact h
    · exact h
    · exact k.same h { ccap := rfl }
  case readCoupling.refl n =>
    unfold readCoupling
    split
    · exact h
    · exact k.same h { ccap := rfl }
  case forgetNode.refl n =>
    unfold forgetNode
    repeat' split
    · exact h
    · dsimp only
      exact k.finish (k.line.removeNode n h)
    · exact h
  case postOrder.refl n x =>
    unfold postOrder
    split
    · exact h
    · exact h
    · dsimp only
      exact k.finish (k.line.placeOrder _ _ _ _ fun o => k.same h {})
  case abortOrder.refl n =>
    unfold abortOrder
    repeat' split
    · exact h
    · exact k.line.completeOrder _ _ h
    · exact k.line.completeOrder _ _ h
    · next i _ _ _ _ =>
      have leaves (m : Nat) (p : Option Order) : P (commandLeaves m (s.setSlot i p)) := k.line.commandLeaves m (k.same h {})
      have put (p : Option Order) : P (s.setSlot i p) := k.same h {}
      dsimp only
      unfold windDown
      split
      · exact leaves _ _
      · exact leaves _ _
      · exact put _
      · exact put _
    · exact h
  case setSounding.refl n q =>
    unfold setSounding
    repeat' split
    · exact h
    · exact h
    · exact h
    · exact h
    · dsimp only
      have hr {u : State} (i : Fin 8) (hu : P u) : P (tankReport i u) := k.same hu {}
      exact k.finish (hr _ (k.fcapRecompute (k.same (s := s) h {})))
  all_goals
    simp only [echo, readStatus, fetchReports, restart, setSteerMode, readPropulsion, readEngine, readSteering, listMakeup, readNode,
      listNodes, listOrders, readTank, readMeters, closeLegRequest, readLeg, releaseLeg, setVoyageClock, readSetting, saveSettings]
    repeat' split
  all_goals exact k.same h {}

theorem event (k : DriveKeeps P) {c : Instr} {f : State → State} (hf : eventOf c = some f) (hc : actsOnEngines c = false)
    (h : P s) : P (f s) := by
  cases c <;> simp only [eventOf, reduceCtorEq, Option.some.injEq] at hf <;> subst hf <;> first | cases hc; done | skip
  case checkpointPeriodExpiry => exact k.finish (k.same h {})
  case controlPeriodExpiry b x y => exact k.controlPeriodExpiry b x y h
  case silenceLimitExpiry => exact k.finish (k.silenceLimitExpiry h)
  case holdTimeExpiry => exact k.finish (k.holdTimeExpiry h)
  case masterFrameSent => exact k.finish (k.line.masterFrameSent h)
  case echoFailure => exact k.finish (k.line.echoFailure h)
  case rejoinTimerExpiry n => exact k.finish (k.line.rejoinTimerExpiry n h)
  case replyWindowExpiry =>
    unfold replyWindowExpiry
    split
    · next tx _ =>
      have hx := k.finish (k.line.exchangeMiss tx (k.line.turnaround h))
      exact k.same hx {}
    all_goals exact h
  case bargeFrameReceived l b => exact k.finish (k.line.bargeFrameReceived l b h)
  case bargeFrameSilence => exact k.finish (k.line.bargeFrameSilence h)
  case haulTimerExpiry n =>
    refine k.finish ?_
    unfold haulTimerExpiry
    split
    · exact keeps_ite (k.line.endActive _ _ _ _ h) h
    · exact h
  case releaseTimerExpiry n =>
    refine k.finish ?_
    unfold releaseTimerExpiry
    split
    · exact keeps_ite (k.line.endActive _ _ _ _ (k.line.classified _ _ h)) h
    · exact h
  case releaseWaitExpiry n =>
    refine k.finish ?_
    unfold releaseWaitExpiry
    repeat' split
    all_goals first | exact h | exact k.line.completeOrder _ _ h
  case accountingIntervalExpiry v => exact k.accountingInterval v h
  case saveComplete d => exact k.same h { engine := by rw [settings_eq, settings_eq, saveComplete_working] }
  case meterPulse m => exact k.same h { fcap := rfl }
  all_goals exact k.same h {}

end DriveKeeps

end Sys2Proof.Machine
end

section
/-! ### R193: the settings that a start loads are valid -/

namespace Sys2Proof.Machine

variable {s t : State}

theorem Settings.valid_of_agree {t u : Settings} {c : Sec} (h : t.agree u c) : t.valid c = u.valid c := by
  have hg := Settings.get_of_agree h
  have hc : t.consistent c = u.consistent c := by
    cases c
    case engine => exact congrArg EngineSettings.consistent h
    case steering => exact congrArg SteeringSettings.consistent h
    case coupling => exact congrArg CouplingSettings.consistent h
    case fuel => exact congrArg FuelSettings.consistent h
    case backup => rfl
  simp only [Settings.valid, hg, hc]

theorem defaults_valid (c : Sec) : Settings.defaults.valid c = true := by cases c <;> rfl

/-- R193: a section is loaded only where it is valid, and the built-in defaults are. -/
theorem loadSettings_valid (im : PerSection StoredSection) (c : Sec) : (loadSettings im).valid c = true := by
  unfold loadSettings
  rw [see_foldl (see := fun t : Settings => t.valid c) (c := c) (g := fun old => loadOutcome (c.pick im) c == 1 || old)
    (fun t => ?_) (fun t d hd => ?_) Sec.all_nodup, if_pos c.mem_all, defaults_valid, Bool.or_true]
  · split
    next h => rw [Settings.valid_of_agree (Settings.take_agree _ _ c), ((loadOutcome_loaded _ c).1 h).2.2, h]; rfl
    next h => simp [h]
  · split
    · rw [Settings.valid_of_agree (Settings.take_agree_other _ _ hd)]
    · rfl

theorem startPart_settings_valid (cause : StartCause) (x : StartInputs) (s : State) (c : Sec) :
    (startPart cause x s).settings.valid c = true := by
  rw [State.settings, startPart_store]
  exact loadSettings_valid _ c

/-- R185: a valid value lies in its range. -/
theorem Settings.inRange_of_valid {t : Settings} {c : Sec} (h : t.valid c = true) {n i : Nat} (hn : n ≤ c.lastNumber) (hi : i ≤ 10)
    {v : Int} (hv : t.get c n i = some v) : (settingRange c n).1 ≤ v ∧ v ≤ (settingRange c n).2 := by
  simp only [Settings.valid, Bool.and_eq_true, List.all_eq_true, List.mem_range] at h
  have hr := h.1 n (by omega) i (by omega)
  simp only [hv, Option.all_some, inRange, Bool.and_eq_true, decide_eq_true_eq] at hr
  exact hr.1

end Sys2Proof.Machine
end

section
/-! ### R60, R66: Le follows its inputs -/

namespace Sys2Proof.Machine

variable {s t : State}

theorem leverOk_iff (s : State) : LeverOk s ↔ s.prop.le = s.leNow := Iff.rfl

theorem leNow_of_sameLever (h : SameLever s t) : t.leNow = s.leNow := by
  unfold State.leNow
  rw [h.source, h.ccap, h.fcap, h.engine]

theorem leverOk_of_sameLever (hs : LeverOk s) (h : SameLever s t) : LeverOk t := by
  rw [leverOk_iff, leNow_of_sameLever h, h.le]
  exact hs

/-- R66: a recomputation makes Le what its inputs give. -/
theorem recomputeLe_leverOk (s : State) : LeverOk (recomputeLe s) := by
  have hn : (recomputeLe s).leNow = s.leNow := by
    unfold State.leNow
    rw [recomputeLe_prop, settings_eq, settings_eq]
    simp only [recomputeLe_frame]
    rfl
  rw [leverOk_iff, hn, recomputeLe_prop]

theorem driveKeeps_leverOk : DriveKeeps LeverOk where
  same h hd := leverOk_of_sameLever h hd.toSameLever
  recomputed _ _ _ := recomputeLe_leverOk _
  control _ h := leverOk_of_sameLever h {}

/-! #### Writing a setting -/

theorem asternLimit_put {num : Nat} (h : num ≠ 7) (p : EngineSettings) (idx : Nat) (v : Int) :
    (p.put num idx v).asternLimit = p.asternLimit := by
  unfold EngineSettings.put
  split <;> first | rfl | contradiction

/-- R66: an ENGINE write reaches Le by the astern limit, and brings a recomputation then. -/
theorem ownerEngine_leverOk (num idx : Nat) (old v : Int) (h : LeverOk s) :
    LeverOk (ownerEngine num idx old v (storeValue .engine num idx v s)) := by
  by_cases hn : num = 7
  · subst hn
    exact recomputeLe_leverOk _
  · have hstore : LeverOk (storeValue .engine num idx v s) := by
      rw [leverOk_iff]
      refine Eq.trans h ?_
      show s.leNow = leOf s.prop.sourceLever s.sup.ccap s.fuel.fcap (s.settings.engine.put num idx v).asternLimit
      rw [asternLimit_put hn]
      rfl
    unfold ownerEngine
    split
    · exact keeps_ite hstore (leverOk_of_sameLever hstore {})
    · exact leverOk_of_sameLever hstore {}
    · contradiction
    · exact hstore

theorem sameDrive_storeValue {c : Sec} (hc : c ≠ .engine) (num idx : Nat) (v : Int) (s : State) :
    SameDrive s (storeValue c num idx v s) where
  engine := by
    cases c
    case engine => exact absurd rfl hc
    all_goals rfl

/-- R185: WRITE_SETTING, for an invariant that the ENGINE writes keep. -/
theorem DriveKeeps.writeSetting {P : State → Prop} (k : DriveKeeps P) {sec num idx : Nat} {v : Int} (h : P s)
    (he : ∀ old, s.settings.get .engine num idx = some old → s.writeRefusal .engine num idx old v = none →
      P (ownerEngine num idx old v (storeValue .engine num idx v s))) : P (writeSetting sec num idx v s).1 := by
  unfold Machine.writeSetting
  split
  · exact h
  · next c old hnamed =>
    split
    · exact h
    · next hr =>
      dsimp only
      refine k.finish ?_
      by_cases hc : c = .engine
      · subst hc
        simp only [State.settingNamed, Option.bind_eq_some_iff, Option.map_eq_some_iff, Prod.mk.injEq] at hnamed
        obtain ⟨_, _, w, hw, rfl, rfl⟩ := hnamed
        exact he _ hw hr
      · exact k.ownerActs hc _ _ _ _ _ (k.same h (sameDrive_storeValue hc _ _ _ s))

/-! #### Every step -/

/-- R72: a sync period writes the lead engine alone of the Propulsion Controller's figures. -/
theorem syncPeriodExpiry_prop (s : State) :
    (syncPeriodExpiry s).prop = { s.prop with lead := (syncPeriodExpiry s).prop.lead } := by
  unfold syncPeriodExpiry
  dsimp only
  split
  · rfl
  · rfl

theorem owner_leverOk {c : Instr} {o : State → State × Answer} (ho : ownerOf c = some o) (h : LeverOk s) : LeverOk (o s).1 := by
  by_cases hc : actsOnEngines c = false
  · exact driveKeeps_leverOk.owner ho hc h
  · cases c <;> cases ho <;> first | exact absurd rfl hc | skip
    case setEngineModes.refl k a b c d =>
      unfold setEngineModes
      split
      · exact h
      · exact leverOk_of_sameLever h {}
    case setSync.refl v =>
      unfold setSync
      repeat' split
      · exact leverOk_of_sameLever h { le := by simp, source := by simp; rfl }
      · exact h
      · exact leverOk_of_sameLever h { le := by simp, source := by simp; rfl }
      · exact h
    case writeSetting.refl a b c v => exact driveKeeps_leverOk.writeSetting h fun old _ _ => ownerEngine_leverOk b c old v h

theorem event_leverOk {c : Instr} {f : State → State} (hf : eventOf c = some f) (h : LeverOk s) : LeverOk (f s) := by
  by_cases hc : actsOnEngines c = false
  · exact driveKeeps_leverOk.event hf hc h
  · cases c <;> simp only [eventOf, reduceCtorEq, Option.some.injEq] at hf <;> subst hf <;> first | exact absurd rfl hc | skip
    case syncPeriodExpiry =>
      exact leverOk_of_sameLever h { le := by rw [syncPeriodExpiry_prop], source := by rw [syncPeriodExpiry_prop]; rfl }
    all_goals exact leverOk_of_sameLever h {}

/-- R60: with the latch set, Le is 0 where no cap is negative. -/
theorem leOf_zero {ccap fcap : Int} (hc : 0 ≤ ccap) (hf : 0 ≤ fcap) (a : Int) : leOf 0 ccap fcap a = 0 := by
  simp [leOf, hc, hf]

theorem ccapNow_nonneg (h : s.settings.valid .coupling = true) : 0 ≤ s.ccapNow := by
  obtain ⟨ho, -⟩ := Settings.inRange_of_valid h (n := 7) (i := 0) (by decide) (by decide) rfl
  obtain ⟨hs, -⟩ := Settings.inRange_of_valid h (n := 8) (i := 0) (by decide) (by decide) rfl
  obtain ⟨hd, -⟩ := Settings.inRange_of_valid h (n := 9) (i := 0) (by decide) (by decide) rfl
  simp only [settingRange] at ho hs hd
  have cap {b : Bool} {v : Int} (hv : 0 ≤ v) : 0 ≤ if b then v else 1000 := by
    split
    · exact hv
    · decide
  exact le_min (by decide) (le_min (cap ho) (le_min (cap hs) (cap hd)))

theorem fcapNow_nonneg (h : s.settings.valid .fuel = true) : 0 ≤ s.fcapNow := by
  obtain ⟨hr, -⟩ := Settings.inRange_of_valid h (n := 9) (i := 0) (by decide) (by decide) rfl
  unfold State.fcapNow
  split
  · exact hr
  · decide

/-- R78: a start sets the latch and hands both caps as its settings give them. -/
theorem startPart_leverOk (cause : StartCause) (x : StartInputs) (s : State) : LeverOk (startPart cause x s) := by
  have hvalid := startPart_settings_valid cause x s
  have hcaps : (startPart cause x s).sup.ccap = (startPart cause x s).ccapNow ∧
      (startPart cause x s).fuel.fcap = (startPart cause x s).fcapNow := by
    simp only [startPart]
    split <;> exact ⟨rfl, rfl⟩
  rw [leverOk_iff, State.leNow, hcaps.1, hcaps.2, startPart_prop]
  exact (leOf_zero (ccapNow_nonneg (hvalid .coupling)) (fcapNow_nonneg (hvalid .fuel)) _).symm

theorem stepKeeps_leverOk : StepKeeps LeverOk where
  pending _ _ h := h
  port _ _ h := h
  control _ _ h := h
  clock _ h := h
  input _ _ _ _ h := h
  begins x s h := by
    unfold start
    repeat' split
    · exact h
    · exact h
    · exact startPart_leverOk _ x s
  owner _ _ _ ho h := owner_leverOk ho h
  event _ _ _ he h := event_leverOk he h

/-- Settles O38: every part of a step leaves Le and its inputs, or recomputes Le. -/
theorem effectiveLeverFollowsItsInputs : Obligations.EffectiveLeverFollowsItsInputs := by
  unfold Obligations.EffectiveLeverFollowsItsInputs
  intro s t h hstep
  exact stepKeeps_leverOk.step h hstep

end Sys2Proof.Machine
end

section
/-! ### R70, R88, R89: the demand of a channel, and its dwell timers -/

namespace Sys2Proof.Machine

variable {s t : State} {p : EngineSettings} {e : Fin 4} {c d : Channel}

/-- R70, R88, R89: the demand of a present engine lies in its band and is idle out of gear; dwell timers run in DISENGAGING alone. -/
def ChannelOk (p : EngineSettings) (e : Fin 4) (c : Channel) : Prop :=
  (p.present[e] = 1 → p.idle[e] ≤ c.demand ∧ c.demand ≤ p.maxSpeed[e] ∧
    (c.gear ≠ .ahead → c.gear ≠ .astern → c.demand = p.idle[e])) ∧
  (c.dwellTimer ≠ none ∨ c.dwellTimeout ≠ none → c.gear = .disengaging)

/-- Every channel is in order, and the ENGINE settings are consistent. -/
def BandOk (s : State) : Prop := s.settings.engine.consistent = true ∧ ∀ e : Fin 4, ChannelOk s.settings.engine e s.chans[e]

theorem bandOk_iff : BandOk s ↔ s.settings.engine.consistent = true ∧ DemandOk s :=
  and_congr_right fun _ => forall_and

/-- R76: the idle speed lies below the maximum. -/
theorem EngineSettings.idle_le_maxSpeed (h : p.consistent = true) (e : Fin 4) : p.idle[e] ≤ p.maxSpeed[e] := by
  simp only [EngineSettings.consistent, Bool.and_eq_true, List.all_eq_true] at h
  have he := h.1 (e.val + 1) (by fin_cases e <;> decide)
  have entry_at (v : Vector Int 4) : entry v (e.val + 1) = v[e] := by
    have : e.val + 1 ≤ 4 := e.isLt
    simp [entry, nth, this]
  rw [entry_at, entry_at, decide_eq_true_eq] at he
  omega

/-! #### One channel -/

theorem ChannelOk.idle (h : ChannelOk p e c) (ha : c.gear ≠ .ahead) (hs : c.gear ≠ .astern) (hp : p.present[e] = 1) :
    c.demand = p.idle[e] := (h.1 hp).2.2 ha hs

theorem ChannelOk.no_dwell (h : ChannelOk p e c) (hg : c.gear ≠ .disengaging) : c.dwellTimer = none ∧ c.dwellTimeout = none := by
  by_contra hn
  exact hg (h.2 (by tauto))

/-- A channel at idle is in order in every gear state that its dwell timers allow. -/
theorem channelOk_at_idle (hp : p.consistent = true) (hd : p.present[e] = 1 → c.demand = p.idle[e])
    (ht : c.dwellTimer ≠ none ∨ c.dwellTimeout ≠ none → c.gear = .disengaging) : ChannelOk p e c := by
  refine ⟨fun he => ?_, ht⟩
  have := EngineSettings.idle_le_maxSpeed hp e
  rw [hd he]
  exact ⟨le_refl _, this, fun _ _ => rfl⟩

/-- What a channel's order rests on. -/
def Channel.shift (c : Channel) : Int × Gear × Timer × Timer := (c.demand, c.gear, c.dwellTimer, c.dwellTimeout)

theorem ChannelOk.of_shift (h : ChannelOk p e c) (hd : d.shift = c.shift) : ChannelOk p e d := by
  simp only [Channel.shift, Prod.mk.injEq] at hd
  obtain ⟨h1, h2, h3, h4⟩ := hd
  simpa only [ChannelOk, h1, h2, h3, h4] using h

/-! #### Channels of a state -/

theorem bandOk_of_chans (h : BandOk s) (hc : t.chans = s.chans) (he : t.settings.engine = s.settings.engine) : BandOk t := by
  unfold BandOk
  rw [hc, he]
  exact h

/-- The channel of an engine is put in order where those of the others are. -/
theorem bandOk_put {f : Channel → Channel} (hp : s.settings.engine.consistent = true)
    (ho : ∀ d : Fin 4, d ≠ e → ChannelOk s.settings.engine d s.chans[d]) (hf : ChannelOk s.settings.engine e (f s.chans[e])) :
    BandOk (s.onChan e f) := by
  refine ⟨hp, fun d => ?_⟩
  by_cases hd : d = e
  · subst hd
    rw [onChan_same]
    exact hf
  · rw [onChan_other s f hd]
    exact ho d hd

theorem bandOk_onChan {f : Channel → Channel} (h : BandOk s) (hf : ChannelOk s.settings.engine e (f s.chans[e])) :
    BandOk (s.onChan e f) := bandOk_put h.1 (fun d _ => h.2 d) hf

theorem bandOk_unshifted {f : Channel → Channel} (hf : ∀ c, (f c).shift = c.shift) (h : BandOk s) : BandOk (s.onChan e f) :=
  bandOk_onChan h ((h.2 e).of_shift (hf _))

theorem bandOk_engineReport (h : BandOk s) : BandOk (engineReport e s) := bandOk_of_chans h (by simp) (by simp [settings_eq])

/-- R85, R86: a gear state without dwell and without a demand above idle. -/
def Gear.parked : Gear → Bool
  | .ahead | .astern | .disengaging => false
  | _ => true

/-- A parked channel can take any gear state. -/
theorem bandOk_shifts {f : Channel → Channel} (h : BandOk s) {g : Gear} (hg : s.chans[e].gear = g)
    (hp : g.parked = true) (hf : ∀ c, (f c).demand = c.demand ∧ (f c).dwellTimer = c.dwellTimer ∧ (f c).dwellTimeout = c.dwellTimeout) :
    BandOk (s.onChan e f) := by
  have hne {g' : Gear} (hn : g'.parked = false) : s.chans[e].gear ≠ g' := by
    rintro rfl
    rw [hg, hp] at hn
    cases hn
  obtain ⟨hdem, ht, ht'⟩ := hf s.chans[e]
  obtain ⟨hn, hn'⟩ := (h.2 e).no_dwell (hne rfl)
  refine bandOk_onChan h (channelOk_at_idle h.1 (fun hp => hdem.trans ((h.2 e).idle (hne rfl) (hne rfl) hp)) ?_)
  rw [ht, ht', hn, hn']
  simp

/-! #### The gear-shift cycle -/

theorem bandOk_confirmGear (h : BandOk s) : BandOk (confirmGear e s) := by
  simp only [confirmGear]
  split
  next hg => exact keeps_ite (bandOk_engineReport (bandOk_shifts h hg rfl fun _ => ⟨rfl, rfl, rfl⟩)) h
  next hg => exact keeps_ite (bandOk_engineReport (bandOk_shifts h hg rfl fun _ => ⟨rfl, rfl, rfl⟩)) h
  next => exact h

theorem bandOk_engagementTest (h : BandOk s) : BandOk (engagementTest e s) := by
  simp only [engagementTest]
  split
  · next hc =>
    simp only [Bool.and_eq_true, beq_iff_eq] at hc
    split
    · exact bandOk_confirmGear (bandOk_engineReport (bandOk_shifts h hc.1.2 rfl fun _ => ⟨rfl, rfl, rfl⟩))
    · exact bandOk_confirmGear (bandOk_engineReport (bandOk_shifts h hc.1.2 rfl fun _ => ⟨rfl, rfl, rfl⟩))
    · exact h
  · exact h

/-- The demand of the channel is idle, where its engine is present. -/
def State.idles (s : State) (e : Fin 4) : Prop :=
  s.settings.engine.present[e] = 1 → s.chans[e].demand = s.settings.engine.idle[e]

theorem BandOk.idles (h : BandOk s) {g : Gear} (hg : s.chans[e].gear = g) (ha : g ≠ .ahead) (hs : g ≠ .astern) : s.idles e :=
  (h.2 e).idle (hg ▸ ha) (hg ▸ hs)

theorem bandOk_enterNeutral (h : BandOk s) (hd : s.idles e) : BandOk (enterNeutral e s) :=
  bandOk_engagementTest (bandOk_engineReport (bandOk_onChan h (channelOk_at_idle h.1 hd (by simp))))

theorem bandOk_dwellRunOut (h : BandOk s) (hg : s.chans[e].gear = .disengaging) : BandOk (dwellRunOut e s) := by
  have hd : s.idles e := h.idles hg (by decide) (by decide)
  have hu : BandOk (s.onChan e fun c => { c with dwellTimer := none }) := bandOk_onChan h (channelOk_at_idle h.1 hd fun _ => hg)
  simp only [dwellRunOut]
  refine keeps_ite (bandOk_enterNeutral hu ?_) hu
  simpa [State.idles, settings_eq] using hd

theorem bandOk_disengage (h : BandOk s) (hd : s.idles e) : BandOk (disengage e s) := by
  simp only [disengage]
  refine keeps_ite (bandOk_dwellRunOut ?_ (by simp)) ?_
  all_goals exact bandOk_engineReport (bandOk_onChan h (channelOk_at_idle h.1 hd fun _ => rfl))

theorem bandOk_disengageTest (h : BandOk s) : BandOk (disengageTest e s) := by
  simp only [disengageTest]
  split
  · split
    · next hl =>
      simp only [Bool.and_eq_true, beq_iff_eq] at hl
      exact bandOk_disengage h fun _ => hl.1
    · exact h
  · split
    · next hl =>
      simp only [Bool.and_eq_true, beq_iff_eq] at hl
      exact bandOk_disengage h fun _ => hl.1
    · exact h
  · exact h

theorem bandOk_channelOnDirection (h : BandOk s) : BandOk (channelOnDirection e s) := by
  unfold channelOnDirection
  split
  · split
    · exact bandOk_engagementTest h
    · next hg => exact keeps_ite (bandOk_disengage h (h.idles hg (by decide) (by decide))) h
    · next hg => exact keeps_ite (bandOk_disengage h (h.idles hg (by decide) (by decide))) h
    · exact bandOk_disengageTest h
    · exact bandOk_disengageTest h
    all_goals exact h
  · exact h

theorem bandOk_enterFault {k : FaultKind} (h : BandOk s) : BandOk (enterFault e k s) := by
  have hf : BandOk (s.onChan e fun c =>
      { c.timersStopped with gear := .fault, fault := k, follow := false, demand := s.settings.engine.idle[e] }) :=
    bandOk_onChan h (channelOk_at_idle h.1 (fun _ => rfl) (by simp [Channel.timersStopped]))
  exact bandOk_engineReport (bandOk_of_chans hf (by simp) (by simp [settings_eq]))

theorem bandOk_enterStopped (h : BandOk s) : BandOk (enterStopped e s) :=
  bandOk_engineReport (bandOk_onChan h (channelOk_at_idle h.1 (fun _ => rfl) (by simp [Channel.timersStopped])))

theorem bandOk_engineRuns (h : BandOk s) : BandOk (engineRuns e s) := by
  unfold engineRuns
  split
  · next hg =>
    rw [beq_iff_eq] at hg
    exact keeps_ite (bandOk_enterNeutral h (h.idles hg (by decide) (by decide)))
      (bandOk_engineReport (bandOk_shifts h hg rfl fun _ => ⟨rfl, rfl, rfl⟩))
  · exact h

theorem bandOk_modeChanged {m : EngineMode} (h : BandOk s) : BandOk (modeChanged e m s) := by
  have hr : BandOk (engineReport e (s.onChan e fun c => { c with mode := m })) :=
    bandOk_engineReport (bandOk_unshifted (fun _ => rfl) h)
  simp only [modeChanged]
  split
  · split
    · exact bandOk_engagementTest hr
    · next hg => exact bandOk_disengage hr (hr.idles hg (by decide) (by decide))
    · next hg => exact bandOk_disengage hr (hr.idles hg (by decide) (by decide))
    · exact bandOk_disengageTest hr
    · exact bandOk_disengageTest hr
    · next hg =>
      have hf := bandOk_unshifted (e := e) (f := fun c => { c with fault := .none }) (fun _ => rfl) hr
      exact bandOk_enterNeutral hf (hf.idles ((congrArg Channel.gear (onChan_same _ _ _)).trans hg) (by decide) (by decide))
    · exact hr
  · exact hr

theorem bandOk_applyMode {mask m : Nat} (h : BandOk s) : BandOk (applyMode mask e m s) := keeps_ite (bandOk_modeChanged h) h

/-! #### Shaft, inputs and timers -/

theorem bandOk_wrongWayTest (h : BandOk s) : BandOk (wrongWayTest e s) :=
  keeps_ite (bandOk_unshifted (fun _ => rfl) h) (bandOk_unshifted (fun _ => rfl) h)

theorem bandOk_followTest (h : BandOk s) : BandOk (followTest e s) := by
  have hu : BandOk (s.onChan e fun c => { c with followTimer := none, follow := false }) := bandOk_unshifted (fun _ => rfl) h
  exact keeps_ite (keeps_ite h (bandOk_unshifted (fun _ => rfl) h)) (keeps_ite (bandOk_engineReport hu) hu)

theorem bandOk_shaftTests (h : BandOk s) : BandOk (shaftTests e s) := by
  unfold shaftTests
  split
  · exact h
  · exact h
  · exact keeps_ite (bandOk_enterFault h) (bandOk_followTest (bandOk_wrongWayTest h))
  · exact keeps_ite (bandOk_enterFault h) (bandOk_followTest (bandOk_wrongWayTest h))
  · exact keeps_ite (bandOk_enterFault h) h

theorem bandOk_windowInDisengaging (h : BandOk s) : BandOk (windowInDisengaging e s) := by
  unfold windowInDisengaging
  split
  · next hg =>
    simp only [Bool.and_eq_true, beq_iff_eq] at hg
    exact bandOk_enterNeutral h (h.idles hg.1.1 (by decide) (by decide))
  · exact h

theorem bandOk_shaftWindow (h : BandOk s) : BandOk (shaftWindow e s) :=
  keeps_ite (bandOk_windowInDisengaging (bandOk_shaftTests (bandOk_unshifted (fun _ => rfl) h))) h

theorem Channel.setInput_shift (v : Input) (i : EngineInput) (c : Channel) : (c.setInput v i).shift = c.shift := by
  cases i <;> rfl

theorem bandOk_inputFilterExpiry {i : EngineInput} (h : BandOk s) : BandOk (inputFilterExpiry e i s) := by
  have hu (v : Input) : BandOk (s.onChan e fun c => c.setInput v i) := bandOk_unshifted (Channel.setInput_shift v i) h
  simp only [inputFilterExpiry]
  split
  · cases i
    · exact keeps_ite (bandOk_engineRuns (hu _)) (bandOk_enterStopped (hu _))
    · exact bandOk_confirmGear (hu _)
    · exact bandOk_confirmGear (hu _)
  · exact h

/-- R88, R89: where a dwell timer runs out, the channel is in DISENGAGING, and its demand is idle. -/
theorem bandOk_neutralDwellExpiry (h : BandOk s) : BandOk (neutralDwellExpiry e s) := by
  unfold neutralDwellExpiry
  split
  · next ht => exact bandOk_dwellRunOut h ((h.2 e).2 (.inl (Option.isSome_iff_ne_none.1 ht)))
  · exact h

theorem bandOk_dwellTimeoutExpiry (h : BandOk s) : BandOk (dwellTimeoutExpiry e s) := by
  unfold dwellTimeoutExpiry
  split
  · next ht =>
    have hg := (h.2 e).2 (.inr (Option.isSome_iff_ne_none.1 ht))
    exact bandOk_enterNeutral h (h.idles hg (by decide) (by decide))
  · exact h

theorem bandOk_followExpiry (h : BandOk s) : BandOk (followExpiry e s) := by
  have hu : BandOk (s.onChan e fun c => { c with followTimer := none, follow := true }) := bandOk_unshifted (fun _ => rfl) h
  exact keeps_ite (bandOk_engineReport (bandOk_of_chans hu (by simp) (by simp [settings_eq]))) h

end Sys2Proof.Machine
end

section
/-! ### R70: the demand stays in its band -/

namespace Sys2Proof.Machine

variable {s t : State} {e : Fin 4}

/-! #### The control period and the changes of Le -/

/-- R69: the pre-sync target that a control period gives an engine. -/
def State.preSyncOf (s : State) (e : Fin 4) : Int :=
  if s.hasShare e then layOut (s.shareOf e) s.settings.engine.idle[e] s.settings.engine.maxSpeed[e] else s.settings.engine.idle[e]

/-- R69: the target that a control period gives an engine. -/
def State.targetOf (s : State) (e : Fin 4) : Int :=
  if s.hasShare e && gearFollows s.dir s.chans[e].gear
    then clamp s.settings.engine.idle[e] s.settings.engine.maxSpeed[e] (s.preSyncOf e + s.chans[e].trim)
    else s.settings.engine.idle[e]

/-- R70, R71: the demand after a control period, which STOPPED and FAULT hold. -/
def State.rampedDemand (s : State) (e : Fin 4) : Int :=
  let p := s.settings.engine
  let q := rampDivisor s.sup.tonnageClass
  if s.chans[e].gear = .stopped ∨ s.chans[e].gear = .fault then s.chans[e].demand
  else approach s.chans[e].demand (s.targetOf e) (rampStep p.riseRate q) (rampStep p.fallRate q)

/-- R68 to R71: what a control period makes of a channel before its gear may disengage. -/
def State.rampedChannel (s : State) (e : Fin 4) : Channel :=
  { s.chans[e] with
    share := s.shareOf e, preSync := s.preSyncOf e, target := s.targetOf e, demand := s.rampedDemand e }

theorem rampDemand_setTarget (e : Fin 4) (s : State) :
    rampDemand e (setTarget e s) = s.onChan e fun _ => s.rampedChannel e := by
  have hset : setTarget e s = s.onChan e fun c =>
      { c with share := s.shareOf e, preSync := s.preSyncOf e, target := s.targetOf e } := rfl
  rw [hset]
  unfold rampDemand State.onChan
  simp only [Fin.getElem_fin, Vector.getElem_set_self, Vector.set_set]
  congr 2
  unfold State.rampedChannel State.rampedDemand
  simp only [Fin.getElem_fin]
  split <;> rfl

/-- R69: the target lies in the band, and is the idle speed out of gear. -/
theorem targetOf_band (h : s.settings.engine.consistent = true) (e : Fin 4) :
    s.settings.engine.idle[e] ≤ s.targetOf e ∧ s.targetOf e ≤ s.settings.engine.maxSpeed[e] ∧
      (s.chans[e].gear ≠ .ahead → s.chans[e].gear ≠ .astern → s.targetOf e = s.settings.engine.idle[e]) := by
  have hle := EngineSettings.idle_le_maxSpeed h e
  unfold State.targetOf
  split
  next hg =>
    obtain ⟨hlo, hhi⟩ := clamp_le hle (s.preSyncOf e + s.chans[e].trim)
    refine ⟨hlo, hhi, fun ha hs => ?_⟩
    simp only [gearFollows, Bool.and_eq_true, Bool.or_eq_true, beq_iff_eq] at hg
    rcases hg.2 with ⟨-, hg⟩ | ⟨-, hg⟩
    · exact absurd hg ha
    · exact absurd hg hs
  next => exact ⟨le_refl _, hle, fun _ _ => rfl⟩

theorem approach_same (x up down : Int) : approach x x up down = x := by simp [approach]

theorem rampStep_nonneg (rate q : Int) : 0 ≤ rampStep rate q := le_trans (by decide) (le_max_left 1 _)

/-- R70: the ramp keeps the demand in its band. -/
theorem rampedChannel_ok (h : BandOk s) (e : Fin 4) : ChannelOk s.settings.engine e (s.rampedChannel e) := by
  obtain ⟨htlo, hthi, htidle⟩ := targetOf_band h.1 e
  refine ⟨fun hp => ?_, (h.2 e).2⟩
  obtain ⟨hlo, hhi, hidle⟩ := (h.2 e).1 hp
  show _ ≤ s.rampedDemand e ∧ s.rampedDemand e ≤ _ ∧ (s.chans[e].gear ≠ .ahead → s.chans[e].gear ≠ .astern → s.rampedDemand e = _)
  by_cases hg : s.chans[e].gear = .stopped ∨ s.chans[e].gear = .fault
  · have hd : s.rampedDemand e = s.chans[e].demand := if_pos hg
    exact ⟨hd ▸ hlo, hd ▸ hhi, fun ha hs => hd.trans (hidle ha hs)⟩
  · have hd : s.rampedDemand e = approach s.chans[e].demand (s.targetOf e) _ _ := if_neg hg
    have hb := approach_between ⟨hlo, hhi⟩ ⟨htlo, hthi⟩ (rampStep_nonneg s.settings.engine.riseRate (rampDivisor s.sup.tonnageClass))
      (rampStep_nonneg s.settings.engine.fallRate (rampDivisor s.sup.tonnageClass))
    refine ⟨hd ▸ hb.1, hd ▸ hb.2, fun ha hs => hd.trans ?_⟩
    rw [htidle ha hs, hidle ha hs, approach_same]

theorem bandOk_engineControl (h : BandOk s) : BandOk (engineControl e s) := by
  unfold engineControl
  rw [rampDemand_setTarget]
  exact keeps_ite (bandOk_disengageTest (bandOk_onChan h (rampedChannel_ok h e))) h

theorem clearTrims_chan (e : Fin 4) (s : State) : (clearTrims s).chans[e] = { s.chans[e] with trim := 0 } := by
  simp [clearTrims, mapVec]

theorem bandOk_clearTrims (h : BandOk s) : BandOk (clearTrims s) :=
  ⟨h.1, fun e => by
    rw [clearTrims_chan]
    exact (h.2 e).of_shift rfl⟩

theorem bandOk_directionChanged (h : BandOk s) : BandOk (directionChanged s) :=
  forAll_induct _ _ _ (fun _ _ _ hu => bandOk_channelOnDirection hu)
    (bandOk_of_chans (bandOk_clearTrims h) (by simp) (by simp [settings_eq]))

theorem bandOk_recomputeLe (h : BandOk s) : BandOk (recomputeLe s) := by
  have hu : BandOk ((s.onProp fun p => { p with le := s.leNow }).onSettling fun x => { x with retest := true }) := h
  unfold recomputeLe
  exact keeps_ite h (keeps_ite hu (bandOk_directionChanged hu))

theorem driveKeeps_bandOk : DriveKeeps BandOk where
  same h hd := bandOk_of_chans h hd.chans hd.engine
  recomputed h hc he := bandOk_recomputeLe (bandOk_of_chans h hc he)
  control _ h := bandOk_engineControl h

/-! #### Writing a setting -/

/-- R184: an index that names an entry of a setting names an engine, a tank or a meter. -/
theorem nth_some {n idx : Nat} {v : Vector Int n} {x : Int} (h : nth v idx = some x) :
    ∃ i : Fin n, idx = i.val + 1 ∧ x = v[i] := by
  unfold nth at h
  split at h
  next hi => exact ⟨⟨idx - 1, by omega⟩, by simp only; omega, (Option.some.inj h).symm⟩
  next => cases h

theorem putNth_number {n : Nat} (v : Vector Int n) (i : Fin n) (x : Int) : putNth v (i.val + 1) x = v.set i x := by
  have : i.val + 1 ≤ n := i.isLt
  simp [putNth, this]

theorem getElem_set_other {n : Nat} (v : Vector Int n) {i j : Fin n} (x : Int) (h : j ≠ i) : (v.set i x)[j] = v[j] := by
  have : i.val ≠ j.val := fun he => h (Fin.ext he.symm)
  simp [Vector.getElem_set_ne, this]

/-- R185: an accepted ENGINE write finds every present engine in NEUTRAL or STOPPED, and keeps the section consistent. -/
theorem engineWrite_allowed {num idx : Nat} {old v : Int} (h : s.writeRefusal .engine num idx old v = none) :
    s.enginesBusy = false ∧ (s.settings.engine.put num idx v).consistent = true := by
  unfold State.writeRefusal at h
  repeat' split at h
  all_goals first | cases h; done | skip
  next hb _ hc _ =>
    refine ⟨Bool.eq_false_iff.2 hb, ?_⟩
    rw [Bool.not_eq_true, Bool.not_eq_false'] at hc
    exact hc

theorem idles_of_not_busy (h : BandOk s) (hb : s.enginesBusy = false) (e : Fin 4) : s.idles e := by
  intro hp
  have he : e ∈ allEngines := by fin_cases e <;> decide
  have hg := (List.any_eq_false.1 hb) e he
  simp only [Settings.enginePresent, hp, beq_self_eq_true, Bool.true_and, Bool.and_eq_true, bne_iff_ne, ne_eq, not_and,
    not_not] at hg
  by_cases hn : s.chans[e].gear = .neutral
  · exact h.idles hn (by decide) (by decide) hp
  · exact h.idles (hg hn) (by decide) (by decide) hp

theorem broughtUp_ok {p : EngineSettings} (hp : p.consistent = true) (c : Channel) (m : EngineMode) (e : Fin 4) :
    ChannelOk p e (c.broughtUp m p.idle[e]) :=
  channelOk_at_idle hp (fun _ => rfl) (by simp [Channel.broughtUp, Channel.atStart])

theorem quiet_ok {p : EngineSettings} (hp : p.consistent = true) (c : Channel) (e : Fin 4) : ChannelOk p e (c.quiet p.idle[e]) :=
  channelOk_at_idle hp (fun _ => rfl) (by simp [Channel.quiet, Channel.atStart])

/-- R79: an engine made present or absent takes its channel's start values; the channels of the others are in order. -/
theorem bandOk_engineTaken (hp : s.settings.engine.consistent = true)
    (ho : ∀ d : Fin 4, d ≠ e → ChannelOk s.settings.engine d s.chans[d]) : BandOk (engineTaken e s) := by
  simp only [engineTaken]
  exact keeps_ite (bandOk_engagementTest (bandOk_engineReport (bandOk_put hp ho (broughtUp_ok hp _ _ e))))
    (bandOk_engineReport (bandOk_put hp ho (quiet_ok hp _ e)))

theorem storeValue_engine (num idx : Nat) (v : Int) (s : State) :
    (storeValue .engine num idx v s).settings.engine = s.settings.engine.put num idx v := rfl

/-- R79: the presence of an engine is written. -/
theorem bandOk_presenceWritten {old v : Int} (h : BandOk s) (hold : old = s.settings.engine.present[e])
    (hc : (s.settings.engine.put 1 (e.val + 1) v).consistent = true) :
    BandOk (ownerEngine 1 (e.val + 1) old v (storeValue .engine 1 (e.val + 1) v s)) := by
  have hput : s.settings.engine.put 1 (e.val + 1) v = { s.settings.engine with present := s.settings.engine.present.set e v } := by
    rw [EngineSettings.put, putNth_number]
  have hother (d : Fin 4) (hd : d ≠ e) : ChannelOk (s.settings.engine.put 1 (e.val + 1) v) d s.chans[d] := by
    have hk := h.2 d
    unfold ChannelOk at hk ⊢
    rw [hput]
    simp only [getElem_set_other _ _ hd]
    exact hk
  simp only [ownerEngine, index?_number]
  split
  next hv =>
    refine ⟨hc, fun d => ?_⟩
    by_cases hd : d = e
    · subst hd
      have hsame : s.settings.engine.put 1 (d.val + 1) v = s.settings.engine := by
        rw [hput, hv, hold]
        simp
      rw [storeValue_engine, hsame]
      exact h.2 d
    · exact hother d hd
  next => exact bandOk_engineTaken hc hother

/-- R71: the idle speed of an engine is written, and its demand with it. -/
theorem bandOk_idleWritten {old v : Int} (h : BandOk s) (hc : (s.settings.engine.put 3 (e.val + 1) v).consistent = true) :
    BandOk (ownerEngine 3 (e.val + 1) old v (storeValue .engine 3 (e.val + 1) v s)) := by
  have hput : s.settings.engine.put 3 (e.val + 1) v = { s.settings.engine with idle := s.settings.engine.idle.set e v } := by
    rw [EngineSettings.put, putNth_number]
  simp only [ownerEngine, index?_number]
  refine bandOk_put hc (fun d hd => ?_) ?_
  · have hk := h.2 d
    rw [storeValue_engine, hput]
    unfold ChannelOk at hk ⊢
    simp only [getElem_set_other _ _ hd]
    exact hk
  · rw [storeValue_engine]
    refine channelOk_at_idle hc (fun _ => ?_) (h.2 e).2
    rw [hput]
    simp

theorem put_keeps_presence_idle {num : Nat} (h1 : num ≠ 1) (h3 : num ≠ 3) (p : EngineSettings) (idx : Nat) (v : Int) :
    (p.put num idx v).present = p.present ∧ (p.put num idx v).idle = p.idle := by
  unfold EngineSettings.put
  split <;> first | exact ⟨rfl, rfl⟩ | contradiction

/-- R185: any other ENGINE setting is written while every present engine stands at idle. -/
theorem bandOk_otherWritten {num idx : Nat} {old v : Int} (h : BandOk s) (h1 : num ≠ 1) (h3 : num ≠ 3)
    (hb : s.enginesBusy = false) (hc : (s.settings.engine.put num idx v).consistent = true) :
    BandOk (ownerEngine num idx old v (storeValue .engine num idx v s)) := by
  obtain ⟨hpresent, hidle⟩ := put_keeps_presence_idle h1 h3 s.settings.engine idx v
  have hstore : BandOk (storeValue .engine num idx v s) := by
    refine ⟨hc, fun d => channelOk_at_idle hc (fun hp => ?_) (h.2 d).2⟩
    rw [storeValue_engine, hpresent] at hp
    rw [storeValue_engine, hidle]
    exact idles_of_not_busy h hb d hp
  unfold ownerEngine
  split
  · contradiction
  · contradiction
  · exact bandOk_recomputeLe hstore
  · exact hstore

theorem bandOk_ownerEngine {num idx : Nat} {old v : Int} (h : BandOk s) (hget : s.settings.get .engine num idx = some old)
    (hr : s.writeRefusal .engine num idx old v = none) : BandOk (ownerEngine num idx old v (storeValue .engine num idx v s)) := by
  obtain ⟨hb, hc⟩ := engineWrite_allowed hr
  by_cases h1 : num = 1
  · subst h1
    obtain ⟨e, rfl, hold⟩ := nth_some hget
    exact bandOk_presenceWritten h hold hc
  · by_cases h3 : num = 3
    · subst h3
      obtain ⟨e, rfl, -⟩ := nth_some hget
      exact bandOk_idleWritten h hc
    · exact bandOk_otherWritten h h1 h3 hb hc

/-! #### Every step -/

theorem owner_bandOk {c : Instr} {o : State → State × Answer} (ho : ownerOf c = some o) (h : BandOk s) : BandOk (o s).1 := by
  by_cases hc : actsOnEngines c = false
  · exact driveKeeps_bandOk.owner ho hc h
  · cases c <;> cases ho <;> first | exact absurd rfl hc | skip
    case setEngineModes.refl k a b c d =>
      unfold setEngineModes
      split
      · exact h
      · exact bandOk_applyMode (bandOk_applyMode (bandOk_applyMode (bandOk_applyMode h)))
    case setSync.refl v =>
      have hp (b : Bool) : BandOk (s.onProp fun p => { p with sync := b }) := h
      unfold setSync
      repeat' split
      · exact bandOk_clearTrims (hp false)
      · exact h
      · exact hp true
      · exact h
    case writeSetting.refl a b c v => exact driveKeeps_bandOk.writeSetting h fun _ hget hr => bandOk_ownerEngine h hget hr

theorem event_bandOk {c : Instr} {f : State → State} (hf : eventOf c = some f) (h : BandOk s) : BandOk (f s) := by
  by_cases hc : actsOnEngines c = false
  · exact driveKeeps_bandOk.event hf hc h
  · cases c <;> simp only [eventOf, reduceCtorEq, Option.some.injEq] at hf <;> subst hf <;> first | exact absurd rfl hc | skip
    case syncPeriodExpiry =>
      have hp (n : Nat) : BandOk (s.onProp fun p => { p with lead := n }) := h
      unfold syncPeriodExpiry
      dsimp only
      split
      · exact bandOk_clearTrims (hp 0)
      · exact forAll_induct _ _ _ (fun e _ u hu => bandOk_unshifted (fun _ => rfl) hu) (hp _)
    case governorPeriodEnd e => exact keeps_ite (bandOk_unshifted (fun _ => rfl) h) h
    case shaftPulse e b =>
      refine keeps_ite (bandOk_unshifted (fun c => ?_) h) h
      unfold Channel.counted
      repeat' split
      all_goals rfl
    case shaftWindowExpiry e => exact bandOk_shaftWindow h
    case inputFilterExpiry e i => exact bandOk_inputFilterExpiry h
    case engageConfirmExpiry e => exact keeps_ite (bandOk_enterFault h) h
    case neutralDwellExpiry e => exact bandOk_neutralDwellExpiry h
    case dwellTimeoutExpiry e => exact bandOk_dwellTimeoutExpiry h
    case wrongWayExpiry e => exact keeps_ite (bandOk_enterFault h) h
    case followExpiry e => exact bandOk_followExpiry h

/-- R100: every channel comes up at its idle speed. -/
theorem startPart_bandOk (cause : StartCause) (x : StartInputs) (s : State) : BandOk (startPart cause x s) := by
  have hvalid := startPart_settings_valid cause x s .engine
  have hc : (startPart cause x s).settings.engine.consistent = true := by
    simp only [Settings.valid, Bool.and_eq_true] at hvalid
    exact hvalid.2
  refine ⟨hc, fun e => ?_⟩
  have hs : loadSettings (s.foundImage x) = (startPart cause x s).settings := by rw [State.settings, startPart_store]
  rw [startPart_chan, hs, startChannel]
  split
  · exact broughtUp_ok hc _ _ e
  · exact quiet_ok hc _ e

theorem stepKeeps_bandOk : StepKeeps BandOk where
  pending _ _ h := h
  port _ _ h := h
  control _ _ h := h
  clock _ h := h
  input _ i _ _ h := bandOk_unshifted (fun _ => Channel.setInput_shift _ i _) h
  begins x s h := by
    unfold start
    repeat' split
    · exact h
    · exact h
    · exact startPart_bandOk _ x s
  owner _ _ _ ho h := owner_bandOk ho h
  event _ _ _ he h := event_bandOk he h

/-- Settles O42: every part of a step keeps each channel in order, with ENGINE settings that stay consistent. -/
theorem demandStaysInItsBand : Obligations.DemandStaysInItsBand := by
  unfold Obligations.DemandStaysInItsBand
  intro s t hs hd hstep
  have hvalid := hs .engine
  simp only [Settings.valid, Bool.and_eq_true] at hvalid
  exact (bandOk_iff.1 (stepKeeps_bandOk.step (bandOk_iff.2 ⟨hvalid.2, hd⟩) hstep)).2

end Sys2Proof.Machine
end

section
/-! ### R57 to R64: lever, source and silence -/

namespace Sys2Proof.Machine

variable {s t : State}

/-! #### What settling leaves of the Propulsion Controller -/

/-- The Propulsion Controller's figures besides Le are as they were. -/
def SameBesidesLe (s t : State) : Prop := t.prop = { s.prop with le := t.prop.le }

theorem SameBesidesLe.of_eq (h : t.prop = s.prop) : SameBesidesLe s t := by simp [SameBesidesLe, h]

theorem SameBesidesLe.refl (s : State) : SameBesidesLe s s := rfl

theorem SameBesidesLe.trans {u : State} (h : SameBesidesLe s t) (h' : SameBesidesLe t u) : SameBesidesLe s u := by
  unfold SameBesidesLe at *
  rw [h', h]

theorem besidesLe_recomputeLe (s : State) : SameBesidesLe s (recomputeLe s) := by
  rw [SameBesidesLe, recomputeLe_prop]

/-- R66: a change of Ccap reaches Le alone of the Propulsion Controller's figures. -/
theorem besidesLe_ccapRecompute (b : Bool) (s : State) : SameBesidesLe s (ccapRecompute b s) := by
  have ht : SameBesidesLe s (if s.ccapNow = s.sup.ccap then s else recomputeLe (s.onSup fun u => { u with ccap := s.ccapNow })) :=
    keeps_ite (P := SameBesidesLe s) (.refl s) (besidesLe_recomputeLe _)
  unfold ccapRecompute
  exact keeps_ite (P := SameBesidesLe s) (ht.trans (.of_eq (by simp))) ht

theorem besidesLe_notice (s : State) : NoticeKeeps (SameBesidesLe s) where
  report _ _ _ h := h.trans (.of_eq (by simp))
  node _ _ _ h := h.trans (.of_eq (by simp))
  bow _ _ h := h.trans (.of_eq (by simp))
  freed _ h := h.trans (.of_eq (by simp))
  requeued _ _ _ _ _ h := h.trans (.of_eq (by simp))
  started _ _ _ _ h := h.trans (.of_eq (by simp))
  command _ _ _ h := h.trans (.of_eq (by simp))
  coupling _ _ _ _ h := h.trans (.of_eq (by simp))

theorem besidesLe_holdingAnalysis (s : State) : SameBesidesLe s (holdingAnalysis s) := by
  have hc : (changedState s).prop = s.prop := by
    unfold changedState joinedState
    split <;> simp
  have hu : SameBesidesLe s ((forAll (s.newlyUnheld (chained CouplingState.holding s.sup.couplings)) unheldAlarm
      (changedState s)).onSup fun u => { u with unheldStands := State.anyUnheld (forAll
        (s.newlyUnheld (chained CouplingState.holding s.sup.couplings)) unheldAlarm (changedState s)) }) := .of_eq (by simp [hc])
  exact hu.trans (besidesLe_ccapRecompute _ _)

theorem besidesLe_settle (s : State) : SameBesidesLe s (settle s) :=
  SettleKeeps.settle (N := fun _ => True)
    { toStartKeeps := (besidesLe_notice s).toStartKeeps
      due := fun _ h => h
      analysed := fun h => h.trans (besidesLe_holdingAnalysis _) } (.refl s)

/-- The end of a command reaches Le alone of the Propulsion Controller's figures. -/
theorem besidesLe_finish (s : State) : SameBesidesLe s (finish s) := by
  have hw : SameBesidesLe (settle s) (finish s) := .of_eq (by rw [finish]; simp)
  exact (besidesLe_settle s).trans hw

/-! #### R61: SET_LEVER -/

/-- R61, steps 1 to 4: the figures that a delivered lever leaves. -/
def Propulsion.delivered (p : Propulsion) (lever : Int) (silence : Timer) : Propulsion :=
  { p with
    lever := lever, latch := p.latch && decide (lever ≠ 0), phase := .normal, silenceTimer := silence
    holdTimer := if p.phase = .normal then p.holdTimer else none }

/-- R61: SET_LEVER delivers the clamped lever, and then Le is recomputed. -/
theorem besidesLe_takeLever (v : Int) (s : State) :
    SameBesidesLe (s.onProp fun p => p.delivered (max (-1000) (min 1000 v)) (seconds s.settings.backup.silenceLimitS)) (takeLever v s) := by
  have hl : clamp (-1000) 1000 v = max (-1000) (min 1000 v) := clamp_eq_max_min (by decide) v
  unfold takeLever
  refine SameBesidesLe.trans (.of_eq ?_) (besidesLe_recomputeLe _)
  have hs (l : Int) (u : State) : (clearLatch l u).settings = u.settings := by simp [settings_eq]
  rw [hl, endSilence_prop, restartSilence_prop, clearLatch_prop, hs]
  simp only [Propulsion.delivered, State.onProp, State.settings]
  congr

/-- R61: the lever that is delivered in BRIDGE. -/
theorem exec_setLever_bridge (v : Int) (hup : s.up = true) (hb : s.prop.source = .bridge) :
    exec (.setLever v) s = .next ((finish (takeLever v s)).answered (accept (signed 2 (finish (takeLever v s)).prop.lever ++
      signed 2 (finish (takeLever v s)).prop.sourceLever ++ yesNo (finish (takeLever v s)).prop.latch))) := by
  have he : exec (.setLever v) s = answerRequest s (setLever v) := rfl
  have hr : setLever v s = (finish (takeLever v s), accept (signed 2 (finish (takeLever v s)).prop.lever ++
      signed 2 (finish (takeLever v s)).prop.sourceLever ++ yesNo (finish (takeLever v s)).prop.latch)) := by
    rw [setLever, if_neg (by simp [hb])]
  simp only [he, answerRequest_of_up hup, hr, State.answered]

theorem exec_setLever_backup (v : Int) (hup : s.up = true) (hb : s.prop.source = .backup) :
    exec (.setLever v) s = .next (s.answered ⟨.notInCommand, []⟩) := by
  have he : exec (.setLever v) s = answerRequest s (setLever v) := rfl
  rw [he, answerRequest_of_up hup, setLever, if_pos hb]
  rfl

/-! #### R62, R63: silence -/

theorem setHelmTo_helm (h : Int) (s : State) : (setHelmTo h s).steer.helm = h := by
  unfold setHelmTo
  split
  next he => exact he
  next => exact (kept_steeringRecompute (.refl _)).helm

/-- R63: the hold time has run. -/
theorem besidesLe_zeroCommand (s : State) :
    SameBesidesLe (s.onProp fun p => { p with phase := .zeroed, holdTimer := none, lever := 0 }) (zeroCommand s) := by
  have hz : SameBesidesLe (s.onProp fun p => { p with phase := .zeroed, holdTimer := none, lever := 0 })
      (recomputeLe (setHelmTo 0 (s.onProp fun p => { p with phase := .zeroed, holdTimer := none, lever := 0 }))) :=
    SameBesidesLe.trans (.of_eq (by simp)) (besidesLe_recomputeLe _)
  exact hz.trans (.of_eq (by simp [zeroCommand]))

theorem zeroCommand_helm (s : State) : (zeroCommand s).steer.helm = 0 :=
  (kept_sourceReport (kept_recomputeLe (.refl _))).helm.trans (setHelmTo_helm 0 _)

theorem finish_helm (s : State) : (finish s).steer.helm = s.steer.helm := (kept_finish (.refl s)).helm

theorem sameStores_finish (h : SameStores s t) : SameStores s (finish t) := by
  obtain ⟨h1, h2, h3, h4⟩ := h
  simp [SameStores, h1, h2, h3, h4]

/-- R62: the silence limit has run: the command is held. -/
def heldCommand (s : State) : State :=
  sourceReport (report .bridgeSilent .nothing (unsigned 2 s.settings.backup.silenceLimitS.toNat ++ signed 2 s.prop.lever)
    (s.onProp fun p => { p with phase := .hold, silenceTimer := none, holdTimer := seconds s.settings.backup.holdTimeS }))

/-- R62: in NORMAL with the bridge in command. -/
theorem silenceLimitExpiry_runs (ht : s.prop.silenceTimer ≠ none) (hb : s.prop.source = .bridge) (hn : s.prop.phase = .normal) :
    silenceLimitExpiry s = if s.settings.backup.holdTimeS ≤ 0 then zeroCommand (heldCommand s) else heldCommand s := by
  have hc : (s.prop.silenceTimer.isSome && s.prop.source == .bridge && s.prop.phase == .normal) = true := by
    simp [Option.isSome_iff_ne_none, ht, hb, hn]
  simp only [silenceLimitExpiry, hc, if_true]
  rfl

theorem heldCommand_prop (s : State) : (heldCommand s).prop =
    { s.prop with phase := .hold, silenceTimer := none, holdTimer := seconds s.settings.backup.holdTimeS } := by
  simp [heldCommand]

/-- R63: what ZEROED leaves at the end of a command. -/
theorem finish_zeroCommand (s : State) : (finish (zeroCommand s)).prop.phase = .zeroed ∧ (finish (zeroCommand s)).prop.lever = 0 ∧
    (finish (zeroCommand s)).steer.helm = 0 ∧ (finish (zeroCommand s)).prop.source = s.prop.source ∧
    (finish (zeroCommand s)).prop.latch = s.prop.latch ∧ (finish (zeroCommand s)).prop.holdTimer = none := by
  have hp := (besidesLe_zeroCommand s).trans (besidesLe_finish _)
  refine ⟨by rw [hp]; rfl, by rw [hp]; rfl, (finish_helm _).trans (zeroCommand_helm s), by rw [hp]; rfl, by rw [hp]; rfl, by rw [hp]; rfl⟩

/-- R62, R63: the silence limit runs out in NORMAL. -/
theorem exec_silenceLimitExpiry_runs (hup : s.up = true) (ht : s.prop.silenceTimer ≠ none) (hb : s.prop.source = .bridge)
    (hn : s.prop.phase = .normal) :
    ∃ t, exec .silenceLimitExpiry s = .next t ∧ SameStores s t ∧ t.prop.source = .bridge ∧ t.prop.latch = s.prop.latch ∧
      (0 < s.settings.backup.holdTimeS → t.prop.phase = .hold ∧ t.prop.lever = s.prop.lever ∧
        t.steer.helm = s.steer.helm ∧ t.prop.holdTimer = seconds s.settings.backup.holdTimeS) ∧
      (s.settings.backup.holdTimeS ≤ 0 → t.prop.phase = .zeroed ∧ t.prop.lever = 0 ∧ t.steer.helm = 0) := by
  have he : exec .silenceLimitExpiry s = .next (finish (silenceLimitExpiry s)) :=
    whenUp_of_up hup fun s => finish (silenceLimitExpiry s)
  have hs : SameStores s (finish (silenceLimitExpiry s)) := sameStores_finish (by simp [SameStores])
  refine ⟨_, he, hs, ?_⟩
  rw [silenceLimitExpiry_runs ht hb hn]
  split
  next hz =>
    obtain ⟨hphase, hlever, hhelm, hsource, hlatch, -⟩ := finish_zeroCommand (heldCommand s)
    rw [heldCommand_prop] at hsource hlatch
    exact ⟨hsource.trans hb, hlatch, fun hpos => by omega, fun _ => ⟨hphase, hlever, hhelm⟩⟩
  next hz =>
    have hp := (besidesLe_finish (heldCommand s))
    rw [SameBesidesLe, heldCommand_prop] at hp
    have hhelm : (finish (heldCommand s)).steer.helm = s.steer.helm := (finish_helm _).trans (by simp [heldCommand])
    rw [hp]
    exact ⟨hb, rfl, fun _ => ⟨rfl, rfl, hhelm, rfl⟩, fun hneg => absurd hneg hz⟩

/-- R63: the hold time runs out in HOLD. -/
theorem exec_holdTimeExpiry_runs (hup : s.up = true) (ht : s.prop.holdTimer ≠ none) (hh : s.prop.phase = .hold) :
    ∃ t, exec .holdTimeExpiry s = .next t ∧ SameStores s t ∧ t.prop.phase = .zeroed ∧ t.prop.lever = 0 ∧
      t.steer.helm = 0 ∧ t.prop.latch = s.prop.latch ∧ t.prop.holdTimer = none := by
  have he : exec .holdTimeExpiry s = .next (finish (holdTimeExpiry s)) :=
    whenUp_of_up hup fun s => finish (holdTimeExpiry s)
  have hc : (s.prop.holdTimer.isSome && s.prop.phase == .hold) = true := by simp [Option.isSome_iff_ne_none, ht, hh]
  have hz : holdTimeExpiry s = zeroCommand s := by simp only [holdTimeExpiry, hc, if_true]
  obtain ⟨hphase, hlever, hhelm, -, hlatch, hhold⟩ := finish_zeroCommand s
  rw [hz] at he
  exact ⟨_, he, sameStores_finish (by simp [SameStores]), hphase, hlever, hhelm, hlatch, hhold⟩

/-- R61: the answer to SET_LEVER, by the figures it was taken from. -/
theorem leverAnswer {p : Propulsion} {lever : Int} {latch : Bool} (hl : p.lever = lever) (hk : p.latch = latch) :
    accept (signed 2 p.lever ++ signed 2 p.sourceLever ++ yesNo p.latch) =
      ⟨.accepted, signed 2 lever ++ signed 2 (if latch then 0 else lever) ++ yesNo latch⟩ := by
  rw [Propulsion.sourceLever, hl, hk, accept]

/-- Settles O39: SET_LEVER by what it delivers, and the two timers by what they hold or zero; the rest of each command reaches Le alone. -/
theorem leverIsDeliveredOrFallsSilent : Obligations.LeverIsDeliveredOrFallsSilent := by
  unfold Obligations.LeverIsDeliveredOrFallsSilent
  refine ⟨fun s v hup => ⟨exec_setLever_backup v hup, fun hb => ?_⟩,
    fun s hup => ⟨exec_silenceLimitExpiry_runs hup, exec_holdTimeExpiry_runs hup⟩⟩
  have hp := (besidesLe_takeLever v s).trans (besidesLe_finish _)
  rw [SameBesidesLe, onProp_prop] at hp
  refine ⟨_, exec_setLever_bridge v hup hb, by simp [SameStores, State.answered], by simp [State.answered], ?_, ?_⟩
  · rw [State.answered, onPort_prop]
    exact hp
  · exact congrArg some (leverAnswer (congrArg Propulsion.lever hp) (congrArg Propulsion.latch hp))

end Sys2Proof.Machine
end

section
/-! ### R57 to R60: the takeover input -/

namespace Sys2Proof.Machine

variable {s t : State}

/-- R58, step 3 and what a command ends with: the engines and the end of the control period, after `s`. -/
def restOfControlPeriod (s : State) : State := finish (forAll allEngines engineControl (settle s))

theorem controlPeriodExpiry_eq (backup : Bool) (rawLever rawHelm : Nat) (s : State) :
    controlPeriodExpiry backup rawLever rawHelm s = restOfControlPeriod (deliverBackup rawLever rawHelm (followTakeover backup s)) := rfl

theorem kept_restOfControlPeriod (s : State) : Kept s (restOfControlPeriod s) :=
  kept_finish (kept_forAll (fun _ _ _ h => kept_engineControl h) (kept_settle (.refl s)))

theorem besidesLe_restOfControlPeriod (s : State) : SameBesidesLe s (restOfControlPeriod s) := by
  have he : SameBesidesLe s (forAll allEngines engineControl (settle s)) :=
    forAll_induct (P := SameBesidesLe s) allEngines engineControl (settle s) (fun e _ t h => h.trans (.of_eq (engineControl_frame e t).1))
      (besidesLe_settle s)
  exact he.trans (besidesLe_finish _)

/-- R59: the conversion as the rule states it, with the deadband on both sides. -/
theorem convertBackup_eq (raw : Nat) (mid span deadband : Int) : convertBackup raw mid span deadband =
    let v := max (-1000) (min 1000 (roundHalfAway ((raw - mid) * 1000) span))
    if -deadband ≤ v ∧ v ≤ deadband then 0 else v := by
  have hn (v : Int) : (v.natAbs : Int) ≤ deadband ↔ -deadband ≤ v ∧ v ≤ deadband := by omega
  simp only [convertBackup, clamp_eq_max_min (show (-1000 : Int) ≤ 1000 by decide), hn]

/-- R57: the source follows the takeover input; lever and latch stand. -/
theorem followTakeover_prop (backup : Bool) (s : State) : (followTakeover backup s).prop.source = (if backup then .backup else .bridge) ∧
    (followTakeover backup s).prop.lever = s.prop.lever ∧ (followTakeover backup s).prop.latch = s.prop.latch := by
  unfold followTakeover
  split
  next => simp
  next => simp [restartSilence_prop]
  next hb => simpa using hb
  next hb => simpa using hb

/-- R57: the takeover ends a silence that stands and its timers. -/
theorem followTakeover_toBackup (hs : s.prop.source = .bridge) :
    (followTakeover true s).prop.phase = .normal ∧ (followTakeover true s).prop.silenceTimer = none := by
  simp [followTakeover, hs]

/-- R57: the return to BRIDGE starts the silence timer afresh. -/
theorem followTakeover_toBridge (hs : s.prop.source = .backup) : (followTakeover false s).prop.phase = .normal ∧
    (followTakeover false s).prop.silenceTimer = seconds s.settings.backup.silenceLimitS := by
  simp [followTakeover, hs, restartSilence_prop, settings_eq]

/-- R59: the lever and the helm that BACKUP delivers. -/
def State.backupLever (s : State) (raw : Nat) : Int :=
  convertBackup raw s.settings.backup.leverMid s.settings.backup.leverSpan s.settings.backup.deadband

def State.backupHelm (s : State) (raw : Nat) : Int :=
  convertBackup raw s.settings.backup.helmMid s.settings.backup.helmSpan s.settings.backup.deadband

theorem deliverBackup_of_bridge (hs : s.prop.source = .bridge) (rawLever rawHelm : Nat) : deliverBackup rawLever rawHelm s = s := by
  simp [deliverBackup, hs]

theorem deliverBackup_of_backup (hs : s.prop.source = .backup) (rawLever rawHelm : Nat) :
    deliverBackup rawLever rawHelm s = setHelmTo (s.backupHelm rawHelm)
      (recomputeLe (clearLatch (s.backupLever rawLever) (s.onProp fun p => { p with lever := s.backupLever rawLever }))) := by
  simp only [deliverBackup, hs, if_true, State.backupHelm, State.backupLever]

/-- R59, R60: a delivered lever of 0 clears the latch, and Le is recomputed. -/
theorem besidesLe_deliverLever (l : Int) (s : State) :
    SameBesidesLe (s.onProp fun p => { p with lever := l, latch := p.latch && decide (l ≠ 0) })
    (recomputeLe (clearLatch l (s.onProp fun p => { p with lever := l }))) := by
  refine SameBesidesLe.trans (.of_eq ?_) (besidesLe_recomputeLe _)
  rw [clearLatch_prop]
  rfl

/-- R59, R60: what a control period in BACKUP leaves of lever, latch and helm. -/
theorem restOfControlPeriod_of_backup (hs : s.prop.source = .backup) (rawLever rawHelm : Nat) :
    let t := restOfControlPeriod (deliverBackup rawLever rawHelm s)
    t.steer.helm = s.backupHelm rawHelm ∧ SameBesidesLe (s.onProp fun p =>
      { p with lever := s.backupLever rawLever, latch := p.latch && decide (s.backupLever rawLever ≠ 0) }) t := by
  rw [deliverBackup_of_backup hs]
  exact ⟨(kept_restOfControlPeriod _).helm.trans (setHelmTo_helm _ _),
    ((besidesLe_deliverLever _ s).trans (.of_eq (by simp))).trans (besidesLe_restOfControlPeriod _)⟩

theorem exec_controlPeriodExpiry (hup : s.up = true) (backup : Bool) (rawLever rawHelm : Nat) :
    exec (.controlPeriodExpiry backup rawLever rawHelm) s = .next (controlPeriodExpiry backup rawLever rawHelm s) :=
  whenUp_of_up hup (controlPeriodExpiry backup rawLever rawHelm)

/-- Settles O40: the source, the lever and the helm are those that steps 1 and 2 of the period leave, and step 3 reaches Le alone of them. -/
theorem takeoverInputChoosesTheSource : Obligations.TakeoverInputChoosesTheSource := by
  unfold Obligations.TakeoverInputChoosesTheSource
  intro s backup rawLever rawHelm hup
  dsimp only
  refine ⟨_, exec_controlPeriodExpiry hup backup rawLever rawHelm, by simp [SameStores], ?_⟩
  obtain ⟨hsource, hlever, hlatch⟩ := followTakeover_prop backup s
  have hset : (followTakeover backup s).settings = s.settings := by simp [settings_eq]
  rw [controlPeriodExpiry_eq]
  cases backup with
  | true =>
    obtain ⟨hhelm, hp⟩ := restOfControlPeriod_of_backup hsource rawLever rawHelm
    rw [SameBesidesLe, onProp_prop, State.backupLever, hset, hlatch] at hp
    rw [State.backupHelm, hset] at hhelm
    refine ⟨fun _ => ?_, fun hb => by simp at hb, fun hto => ?_, fun hto => by simp at hto⟩
    · have hl := congrArg Propulsion.lever hp
      refine ⟨(congrArg Propulsion.source hp).trans hsource, hl.trans (convertBackup_eq ..), hhelm.trans (convertBackup_eq ..), ?_⟩
      rw [hl]
      exact congrArg Propulsion.latch hp
    · rw [hp]
      exact followTakeover_toBackup hto.1
  | false =>
    have hp := besidesLe_restOfControlPeriod (followTakeover false s)
    have hhelm : (restOfControlPeriod (followTakeover false s)).steer.helm = s.steer.helm :=
      (kept_restOfControlPeriod _).helm.trans (by simp)
    rw [deliverBackup_of_bridge hsource, hhelm, hp]
    exact ⟨fun hb => by simp at hb, fun _ => ⟨hsource, hlever, rfl, hlatch⟩, fun hto => by simp at hto,
      fun hto => followTakeover_toBridge (s := s) hto.1⟩

end Sys2Proof.Machine
end

section
/-! ### R68 to R74: demand and sync -/

namespace Sys2Proof.Machine

variable {s t : State} {e : Fin 4}

/-! #### One turn of each engine -/

/-- A pass over the engines takes `e` once: what holds up to its turn, and what its turn brings about. -/
theorem forAll_turn {f : Fin 4 → State → State} {before after : State → Prop} {l : List (Fin 4)} (hl : l.Nodup) (he : e ∈ l)
    (hbefore : ∀ d, d ≠ e → ∀ u, before u → before (f d u)) (hturn : ∀ u, before u → after (f e u))
    (hafter : ∀ d, d ≠ e → ∀ u, after u → after (f d u)) (hs : before s) : after (forAll l f s) := by
  induction l generalizing s with
  | nil => simp at he
  | cons d l ih =>
    obtain ⟨hd, hl⟩ := List.nodup_cons.1 hl
    show after (forAll l f (f d s))
    by_cases hde : d = e
    · subst hde
      exact forAll_induct l f _ (fun a ha u hu => hafter a (fun h => hd (h ▸ ha)) u hu) (hturn s hs)
    · exact ih hl ((List.mem_cons.1 he).resolve_left fun h => hde h.symm) (hbefore d hde s hs)

theorem forAllEngines_turn {f : Fin 4 → State → State} {before after : State → Prop} (e : Fin 4)
    (hbefore : ∀ d, d ≠ e → ∀ u, before u → before (f d u)) (hturn : ∀ u, before u → after (f e u))
    (hafter : ∀ d, d ≠ e → ∀ u, after u → after (f d u)) (hs : before s) : after (forAll allEngines f s) :=
  forAll_turn (l := allEngines) (by decide) (by fin_cases e <;> decide) hbefore hturn hafter hs

/-! #### What a gear shift leaves of the channels -/

/-- The figures of a channel that no gear shift touches. -/
def Channel.throttle (c : Channel) : Int × Int × Int × Int × EngineMode × Int :=
  (c.share, c.preSync, c.target, c.trim, c.mode, c.demand)

/-- The gear of engine `e` may have shifted, and nothing else about the channels changed of share, target, demand, trim and mode. -/
structure ShiftsOnly (e : Fin 4) (s t : State) : Prop where
  others : ∀ d, d ≠ e → t.chans[d] = s.chans[d]
  own : t.chans[e].throttle = s.chans[e].throttle

theorem ShiftsOnly.of_chans (h : t.chans = s.chans) : ShiftsOnly e s t := ⟨fun d _ => by rw [h], by rw [h]⟩

theorem ShiftsOnly.trans {u : State} (h : ShiftsOnly e s t) (h' : ShiftsOnly e t u) : ShiftsOnly e s u :=
  ⟨fun d hd => (h'.others d hd).trans (h.others d hd), h'.own.trans h.own⟩

theorem shiftsOnly_onChan {f : Channel → Channel} (hf : ∀ c, (f c).throttle = c.throttle) (h : ShiftsOnly e s t) :
    ShiftsOnly e s (t.onChan e f) :=
  h.trans ⟨fun _ hd => onChan_other t f hd, by rw [onChan_same, hf]⟩

theorem shiftsOnly_engineReport (h : ShiftsOnly e s t) : ShiftsOnly e s (engineReport e t) := h.trans (.of_chans (by simp))

theorem shiftsOnly_shift {f : Channel → Channel} (hf : ∀ c, (f c).throttle = c.throttle) (h : ShiftsOnly e s t) :
    ShiftsOnly e s (engineReport e (t.onChan e f)) := shiftsOnly_engineReport (shiftsOnly_onChan hf h)

theorem shiftsOnly_confirmGear (h : ShiftsOnly e s t) : ShiftsOnly e s (confirmGear e t) := by
  simp only [confirmGear]
  split
  · exact keeps_ite (shiftsOnly_shift (fun _ => rfl) h) h
  · exact keeps_ite (shiftsOnly_shift (fun _ => rfl) h) h
  · exact h

theorem shiftsOnly_engagementTest (h : ShiftsOnly e s t) : ShiftsOnly e s (engagementTest e t) := by
  simp only [engagementTest]
  refine keeps_ite ?_ h
  split
  · exact shiftsOnly_confirmGear (shiftsOnly_shift (fun _ => rfl) h)
  · exact shiftsOnly_confirmGear (shiftsOnly_shift (fun _ => rfl) h)
  · exact h

theorem shiftsOnly_dwellRunOut (h : ShiftsOnly e s t) : ShiftsOnly e s (dwellRunOut e t) := by
  have hu : ShiftsOnly e s (t.onChan e fun c => { c with dwellTimer := none }) := shiftsOnly_onChan (fun _ => rfl) h
  exact keeps_ite (shiftsOnly_engagementTest (shiftsOnly_shift (fun _ => rfl) hu)) hu

theorem shiftsOnly_disengage (h : ShiftsOnly e s t) : ShiftsOnly e s (disengage e t) := by
  simp only [disengage]
  exact keeps_ite (shiftsOnly_dwellRunOut (shiftsOnly_shift (fun _ => rfl) h)) (shiftsOnly_shift (fun _ => rfl) h)

theorem shiftsOnly_disengageTest (h : ShiftsOnly e s t) : ShiftsOnly e s (disengageTest e t) := by
  simp only [disengageTest]
  split
  · exact keeps_ite (shiftsOnly_disengage h) h
  · exact keeps_ite (shiftsOnly_disengage h) h
  · exact h

/-! #### R68 to R71: the demand of a control period -/

/-- What a control period makes of a channel rests on the channel, the Propulsion Controller, the trim, the class and the settings. -/
theorem rampedChannel_congr (hp : t.prop = s.prop) (ht : t.steer = s.steer) (hu : t.sup = s.sup) (hset : t.settings = s.settings)
    (hc : t.chans[e] = s.chans[e]) : t.rampedChannel e = s.rampedChannel e := by
  have hdir : t.dir = s.dir := by rw [State.dir, hp, State.dir]
  have habs : t.absLe = s.absLe := by rw [State.absLe, hp, State.absLe]
  have hhas : t.hasShare e = s.hasShare e := by
    unfold State.hasShare
    rw [hset, hc]
  have hshare : t.shareOf e = s.shareOf e := by
    unfold State.shareOf
    rw [hhas, hdir, habs, ht, hset]
  have hpre : t.preSyncOf e = s.preSyncOf e := by
    unfold State.preSyncOf
    rw [hhas, hshare, hset]
  have htarget : t.targetOf e = s.targetOf e := by
    unfold State.targetOf
    rw [hhas, hdir, hpre, hset, hc]
  have hdemand : t.rampedDemand e = s.rampedDemand e := by
    unfold State.rampedDemand
    rw [htarget, hset, hu, hc]
  unfold State.rampedChannel
  rw [hshare, hpre, htarget, hdemand, hc]

theorem engineControl_of_present (hp : s.settings.enginePresent e = true) :
    engineControl e s = disengageTest e (s.onChan e fun _ => s.rampedChannel e) := by
  rw [engineControl, if_pos hp, rampDemand_setTarget]

/-- R58, step 3: an engine's turn is its own. -/
theorem engineControl_other {d : Fin 4} (h : d ≠ e) (s : State) : (engineControl e s).chans[d] = s.chans[d] := by
  cases hp : s.settings.enginePresent e with
  | true =>
    rw [engineControl_of_present hp, (shiftsOnly_disengageTest (.of_chans rfl)).others d h, onChan_other _ _ h]
  | false => simp [engineControl, hp]

theorem engineControl_own (hp : s.settings.enginePresent e = true) :
    (engineControl e s).chans[e].throttle = (s.rampedChannel e).throttle := by
  rw [engineControl_of_present hp, (shiftsOnly_disengageTest (.of_chans rfl)).own, onChan_same]

/-- R68 to R71: the pass over the engines gives each present one the figures of `rampedChannel`, whatever the others did before it. -/
theorem forAll_engineControl_throttle (hp : s.settings.enginePresent e = true) :
    (forAll allEngines engineControl s).chans[e].throttle = (s.rampedChannel e).throttle := by
  refine forAllEngines_turn (before := fun u => u.settings = s.settings ∧ u.rampedChannel e = s.rampedChannel e)
    (after := fun u => u.chans[e].throttle = (s.rampedChannel e).throttle) e ?_ ?_ ?_ ⟨rfl, rfl⟩
  · rintro d hd u ⟨hset, hr⟩
    have hset' : (engineControl d u).settings = u.settings := by simp [settings_eq]
    exact ⟨hset'.trans hset,
      (rampedChannel_congr (by simp) (by simp) (by simp) hset' (engineControl_other hd.symm u)).trans hr⟩
  · rintro u ⟨hset, hr⟩
    rw [engineControl_own (hset ▸ hp), hr]
  · intro d hd u hu
    rw [engineControl_other hd.symm, hu]

/-- R58: at a control period in BRIDGE, with nothing left due, steps 1 and 2 change nothing. -/
theorem controlPeriodExpiry_bridge (hq : s.quiet) (hb : s.prop.source = .bridge) (rawLever rawHelm : Nat) :
    controlPeriodExpiry false rawLever rawHelm s = forAll allEngines engineControl s := by
  have hf : followTakeover false s = s := by simp [followTakeover, hb]
  have hq' : (forAll allEngines engineControl s).quiet :=
    forAll_induct (P := State.quiet) _ _ _ (fun e _ u hu => by simpa [State.quiet] using hu) hq
  rw [controlPeriodExpiry, hf, deliverBackup_of_bridge hb,
    settle_quiet s (congrArg Settling.analysis hq) (congrArg Settling.retest hq), finish_of_quiet hq']

theorem hasShare_iff (hp : s.settings.enginePresent e = true) : s.hasShare e = true ↔
    s.chans[e].mode = .inUse ∧ s.chans[e].gear ≠ .stopped ∧ s.chans[e].gear ≠ .fault := by
  simp [State.hasShare, hp, and_assoc]

theorem dir_ne_neutral_iff (s : State) : (s.dir != .neutral) = true ↔ s.prop.le ≠ 0 := by
  unfold State.dir dirOf
  split <;> [skip; split] <;> simp <;> omega

/-- R69: the gear has confirmed the direction of Le. -/
theorem gearFollows_iff (s : State) (g : Gear) :
    gearFollows s.dir g = true ↔ 0 < s.prop.le ∧ g = .ahead ∨ s.prop.le < 0 ∧ g = .astern := by
  simp only [State.dir, dirOf, gearFollows]
  rcases lt_trichotomy s.prop.le 0 with h | h | h
  · simp [h, h.not_gt]
  · simp [h]
  · simp [h, h.not_gt]

/-- R68: the share as the rule states it. -/
theorem shareOf_eq (hp : s.settings.enginePresent e = true) : s.shareOf e =
    if (s.chans[e].mode = .inUse ∧ s.chans[e].gear ≠ .stopped ∧ s.chans[e].gear ≠ .fault) ∧ s.prop.le ≠ 0 then
      clamp 0 1000 (if s.settings.engine.side[e] = 1 then (s.prop.le.natAbs : Int) + s.steer.trim
        else if s.settings.engine.side[e] = 3 then (s.prop.le.natAbs : Int) - s.steer.trim else (s.prop.le.natAbs : Int))
    else 0 := by
  simp only [State.shareOf, Bool.and_eq_true, hasShare_iff hp, dir_ne_neutral_iff, State.absLe]

/-- R69: the pre-sync target as the rule states it. -/
theorem preSyncOf_eq (hp : s.settings.enginePresent e = true) : s.preSyncOf e =
    if s.chans[e].mode = .inUse ∧ s.chans[e].gear ≠ .stopped ∧ s.chans[e].gear ≠ .fault then
      clamp s.settings.engine.idle[e] s.settings.engine.maxSpeed[e] (s.settings.engine.idle[e] +
        roundHalfUp (s.shareOf e * (s.settings.engine.maxSpeed[e] - s.settings.engine.idle[e])) 1000)
    else s.settings.engine.idle[e] := by
  simp only [State.preSyncOf, hasShare_iff hp, layOut]

/-- R69: the target as the rule states it. -/
theorem targetOf_eq (hp : s.settings.enginePresent e = true) : s.targetOf e =
    if (s.chans[e].mode = .inUse ∧ s.chans[e].gear ≠ .stopped ∧ s.chans[e].gear ≠ .fault) ∧
        (0 < s.prop.le ∧ s.chans[e].gear = .ahead ∨ s.prop.le < 0 ∧ s.chans[e].gear = .astern) then
      clamp s.settings.engine.idle[e] s.settings.engine.maxSpeed[e] (s.preSyncOf e + s.chans[e].trim)
    else s.settings.engine.idle[e] := by
  simp only [State.targetOf, Bool.and_eq_true, hasShare_iff hp, gearFollows_iff]

theorem enginePresent_iff (p : Settings) (e : Fin 4) : p.enginePresent e = true ↔ p.engine.present[e] = 1 := beq_iff_eq

/-- R68 to R71: the first part of O41, with the figures of `rampedChannel`. -/
theorem controlPeriod_demand (hup : s.up = true) (hq : s.quiet) (hb : s.prop.source = .bridge)
    (hp : s.settings.engine.present[e] = 1) (rawLever rawHelm : Nat) :
    ∃ t, exec (.controlPeriodExpiry false rawLever rawHelm) s = .next t ∧ SameStores s t ∧ t.fuel = s.fuel ∧ t.sup = s.sup ∧
      t.chans[e].share = s.shareOf e ∧ t.chans[e].preSync = s.preSyncOf e ∧ t.chans[e].target = s.targetOf e ∧
      t.chans[e].trim = s.chans[e].trim ∧ t.chans[e].mode = s.chans[e].mode ∧ t.chans[e].demand = s.rampedDemand e := by
  have hsup : (forAll allEngines engineControl s).sup = s.sup :=
    forAll_induct (P := fun u => u.sup = s.sup) _ _ _ (fun e _ u hu => by simpa using hu) rfl
  have hthrottle := forAll_engineControl_throttle ((enginePresent_iff s.settings e).2 hp)
  simp only [Channel.throttle, Prod.mk.injEq, State.rampedChannel] at hthrottle
  obtain ⟨hshare, hpre, htarget, htrim, hmode, hdemand⟩ := hthrottle
  refine ⟨_, exec_controlPeriodExpiry hup false rawLever rawHelm, by simp [SameStores], by simp, ?_⟩
  rw [controlPeriodExpiry_bridge hq hb]
  exact ⟨hsup, hshare, hpre, htarget, htrim, hmode, hdemand⟩

/-! #### R72 to R74: sync -/

/-- R72: engine `e` belongs to the sync group. -/
def State.inSync (s : State) (e : Fin 4) : Prop := s.prop.sync = true ∧ s.settings.engine.present[e] = 1 ∧ s.chans[e].mode = .inUse ∧
  (0 < s.prop.le ∧ s.chans[e].gear = .ahead ∨ s.prop.le < 0 ∧ s.chans[e].gear = .astern)

/-- R72: the sync group, in engine order; none with sync off. -/
def State.syncGroup (s : State) : List (Fin 4) := if s.prop.sync then s.syncCandidates else []

theorem mem_syncGroup : e ∈ s.syncGroup ↔ s.inSync e := by
  have he : e ∈ allEngines := by fin_cases e <;> decide
  unfold State.syncGroup State.inSync
  split
  next hs => simp [State.syncCandidates, he, hs, enginePresent_iff, gearFollows_iff, and_assoc]
  next hs => simp [hs]

theorem syncGroup_sorted (s : State) : s.syncGroup.Pairwise (· < ·) := by
  unfold State.syncGroup
  split
  · exact List.Pairwise.filter _ (by decide)
  · exact .nil

/-- R72: the lowest-numbered engine of the group leads it. -/
theorem syncGroup_of_lead {l : Fin 4} (hl : s.inSync l) (hmin : ∀ e, s.inSync e → l ≤ e) :
    ∃ rest, s.syncGroup = l :: rest ∧ ∀ e, e ≠ l → (e ∈ rest ↔ s.inSync e) := by
  have hsorted := syncGroup_sorted s
  have hmem : l ∈ s.syncGroup := mem_syncGroup.2 hl
  cases hg : s.syncGroup with
  | nil => simp [hg] at hmem
  | cons a rest =>
    rw [hg] at hsorted hmem
    have hla : l ≤ a := hmin a (mem_syncGroup.1 (by simp [hg]))
    have hal : a = l := by
      rcases List.mem_cons.1 hmem with h | h
      · exact h.symm
      · exact absurd (List.rel_of_pairwise_cons hsorted h) hla.not_gt
    subst hal
    refine ⟨rest, rfl, fun e he => ?_⟩
    rw [← mem_syncGroup, hg, List.mem_cons]
    exact ⟨.inr, fun h => h.resolve_left he⟩

/-- R73: the trim that a sync period gives an engine beside the lead `l`. -/
def State.syncTrim (s : State) (l : Fin 4) (rest : List (Fin 4)) (e : Fin 4) : Int :=
  if rest.contains e && s.follows l e then s.steppedTrim l e else 0

theorem syncPeriodExpiry_of_nil (h : s.syncGroup = []) : syncPeriodExpiry s = clearTrims (s.onProp fun p => { p with lead := 0 }) := by
  unfold State.syncGroup at h
  unfold syncPeriodExpiry
  rw [h]

theorem syncPeriodExpiry_of_cons {l : Fin 4} {rest : List (Fin 4)} (h : s.syncGroup = l :: rest) : syncPeriodExpiry s =
    forAll allEngines (fun e u => u.onChan e fun c => { c with trim := s.syncTrim l rest e })
      (s.onProp fun p => { p with lead := l.val + 1 }) := by
  unfold State.syncGroup at h
  unfold syncPeriodExpiry
  rw [h]
  rfl

/-- R73: the trims of a sync period with a lead. -/
theorem syncPeriodExpiry_chan {l : Fin 4} {rest : List (Fin 4)} (h : s.syncGroup = l :: rest) (e : Fin 4) :
    (syncPeriodExpiry s).chans[e] = { s.chans[e] with trim := s.syncTrim l rest e } := by
  rw [syncPeriodExpiry_of_cons h]
  refine forAllEngines_turn (before := fun u => u.chans[e] = s.chans[e])
    (after := fun u => u.chans[e] = { s.chans[e] with trim := s.syncTrim l rest e }) e ?_ ?_ ?_ rfl
  · intro d hd u hu
    rw [onChan_other _ _ hd.symm, hu]
  · intro u hu
    rw [onChan_same, hu]
  · intro d hd u hu
    rw [onChan_other _ _ hd.symm, hu]

/-- The lead and the channels are all that a sync period may change. -/
theorem syncPeriodExpiry_state (s : State) : syncPeriodExpiry s =
    { s with prop := { s.prop with lead := (syncPeriodExpiry s).prop.lead }, chans := (syncPeriodExpiry s).chans } := by
  cases h : s.syncGroup with
  | nil =>
    rw [syncPeriodExpiry_of_nil h]
    rfl
  | cons l rest =>
    rw [syncPeriodExpiry_of_cons h]
    exact forAll_induct (P := fun u => u = { s with prop := { s.prop with lead := u.prop.lead }, chans := u.chans }) _ _ _
      (fun e _ u hu => by rw [hu]; rfl) rfl

/-- R72 to R74: of a channel, a sync period changes the trim alone. -/
theorem syncPeriodExpiry_trim (s : State) (e : Fin 4) :
    (syncPeriodExpiry s).chans[e] = { s.chans[e] with trim := (syncPeriodExpiry s).chans[e].trim } := by
  cases h : s.syncGroup with
  | nil =>
    rw [syncPeriodExpiry_of_nil h, clearTrims_chan]
    rfl
  | cons l rest => rw [syncPeriodExpiry_chan h]

/-- R72: the lead of a sync period. -/
theorem syncPeriodExpiry_lead {l : Fin 4} {rest : List (Fin 4)} (h : s.syncGroup = l :: rest) :
    (syncPeriodExpiry s).prop.lead = l.val + 1 := by
  rw [syncPeriodExpiry_of_cons h]
  exact forAll_induct (P := fun u => u.prop.lead = l.val + 1) _ _ _ (fun _ _ _ hu => hu) rfl

/-- R72, R74: with no engine in the group. -/
theorem syncPeriod_without_group (h : ∀ e, ¬s.inSync e) :
    (syncPeriodExpiry s).prop.lead = 0 ∧ ∀ e : Fin 4, (syncPeriodExpiry s).chans[e].trim = 0 := by
  have hg : s.syncGroup = [] := List.eq_nil_iff_forall_not_mem.2 fun e he => h e (mem_syncGroup.1 he)
  rw [syncPeriodExpiry_of_nil hg]
  exact ⟨rfl, fun e => congrArg Channel.trim (clearTrims_chan e _)⟩

/-- R72, R73: the follower test and the step of a sync period under the lead `l`. -/
theorem syncPeriod_with_lead {l : Fin 4} (hl : s.inSync l) (hmin : ∀ e, s.inSync e → l ≤ e) :
    (syncPeriodExpiry s).prop.lead = l.val + 1 ∧ ∀ e : Fin 4,
      let near := e ≠ l ∧ s.inSync e ∧ ((s.chans[e].preSync - s.chans[l].preSync).natAbs : Int) ≤ s.settings.engine.syncWindow
      (¬near → (syncPeriodExpiry s).chans[e].trim = 0) ∧ (near → (syncPeriodExpiry s).chans[e].trim = s.steppedTrim l e) := by
  obtain ⟨rest, hg, hrest⟩ := syncGroup_of_lead hl hmin
  refine ⟨syncPeriodExpiry_lead hg, fun e => ?_⟩
  have hnear : (rest.contains e && s.follows l e) = true ↔
      e ≠ l ∧ s.inSync e ∧ ((s.chans[e].preSync - s.chans[l].preSync).natAbs : Int) ≤ s.settings.engine.syncWindow := by
    simp only [State.follows, Bool.and_eq_true, List.contains_iff_mem, bne_iff_ne, decide_eq_true_eq]
    constructor
    · rintro ⟨he, hne, hw⟩
      exact ⟨hne, (hrest e hne).1 he, hw⟩
    · rintro ⟨hne, hc, hw⟩
      exact ⟨(hrest e hne).2 hc, hne, hw⟩
  rw [syncPeriodExpiry_chan hg, State.syncTrim]
  exact ⟨fun hn => if_neg (mt hnear.1 hn), fun hn => if_pos (hnear.2 hn)⟩

/-- R74: SET_SYNC. -/
theorem exec_setSync (hup : s.up = true) (v : Nat) : exec (.setSync v) s = .next ((setSync v s).1.answered (setSync v s).2) :=
  answerRequest_of_up hup (setSync v)

/-- R74: SET_SYNC off clears the trims of a sync that was on. -/
theorem setSync_off (s : State) : (setSync 0 s).2 = accept [] ∧ (setSync 0 s).1.prop = { s.prop with sync := false } ∧
    (s.prop.sync = true → ∀ e : Fin 4, (setSync 0 s).1.chans[e] = { s.chans[e] with trim := 0 }) ∧
    (s.prop.sync = false → (setSync 0 s).1.chans = s.chans) := by
  cases hs : s.prop.sync with
  | true =>
    have he : setSync 0 s = (clearTrims (s.onProp fun p => { p with sync := false }), accept []) := by simp [setSync, hs]
    rw [he]
    exact ⟨rfl, rfl, fun _ e => clearTrims_chan e _, fun h => by simp at h⟩
  | false =>
    have he : setSync 0 s = (s, accept []) := by simp [setSync, hs]
    rw [he]
    exact ⟨rfl, by rw [← hs], fun h => by simp at h, fun _ => rfl⟩

theorem setSync_badValue {v : Nat} (h : 2 ≤ v) (s : State) : setSync v s = (s, ⟨.badValue, []⟩) := by
  rw [setSync, if_neg (by omega), if_neg (by omega)]
  rfl

/-- Settles O41: the pass over the engines by what each one's turn gives it, the sync period by its group, and SET_SYNC by its values. -/
theorem demandAndSyncFollowTheirPeriods : Obligations.DemandAndSyncFollowTheirPeriods := by
  unfold Obligations.DemandAndSyncFollowTheirPeriods
  refine ⟨fun s rawLever rawHelm e hup hq hb hp => ?_, fun s hup => ⟨?_, fun v hv => ?_, exec_setSync hup 1, ?_⟩⟩
  · have hp' := (enginePresent_iff s.settings e).2 hp
    obtain ⟨t, ht⟩ := controlPeriod_demand hup hq hb hp rawLever rawHelm
    rw [State.rampedDemand, targetOf_eq hp', preSyncOf_eq hp', shareOf_eq hp'] at ht
    exact ⟨t, ht⟩
  · exact ⟨_, whenUp_of_up hup syncPeriodExpiry, syncPeriodExpiry_state s, syncPeriodExpiry_trim s, syncPeriod_without_group,
      fun l => syncPeriod_with_lead⟩
  · rw [exec_setSync hup, setSync_badValue hv]
  · obtain ⟨hanswer, hprop, hon, hoff⟩ := setSync_off s
    exact ⟨_, exec_setSync hup 0, hprop, congrArg some hanswer, hon, hoff⟩

end Sys2Proof.Machine
end

section
/-! ### R79 to R96: what the operations of one engine channel act on, and what they make of it -/

namespace Sys2Proof.Machine

variable {s t u : State} {e : Fin 4}

/-! #### The rest of the state stands -/

/-- At most the port and the channel of engine `e` changed. -/
structure ActsOn (e : Fin 4) (s t : State) : Prop where
  state : t = { s with port := t.port, chans := t.chans }
  others : ∀ f : Fin 4, f ≠ e → t.chans[f] = s.chans[f]

theorem ActsOn.refl (s : State) : ActsOn e s s := ⟨rfl, fun _ _ => rfl⟩

theorem ActsOn.trans (h : ActsOn e s t) (h' : ActsOn e t u) : ActsOn e s u where
  state := h'.state.trans (by rw [h.state])
  others f hf := (h'.others f hf).trans (h.others f hf)

theorem ActsOn.prop (h : ActsOn e s t) : t.prop = s.prop := by rw [h.state]

theorem ActsOn.settings (h : ActsOn e s t) : t.settings = s.settings := by rw [h.state]; rfl

theorem actsOn_onChan {f : Channel → Channel} (h : ActsOn e s t) : ActsOn e s (t.onChan e f) :=
  h.trans ⟨rfl, fun _ hf => onChan_other t f hf⟩

theorem actsOn_report {k : ReportKind} {b : Subject} {d : List Byte} (h : ActsOn e s t) : ActsOn e s (report k b d t) :=
  h.trans ⟨rfl, fun _ _ => rfl⟩

theorem actsOn_engineReport (h : ActsOn e s t) : ActsOn e s (engineReport e t) := actsOn_report h

theorem actsOn_shift {f : Channel → Channel} (h : ActsOn e s t) : ActsOn e s (engineReport e (t.onChan e f)) :=
  actsOn_engineReport (actsOn_onChan h)

theorem actsOn_confirmGear (h : ActsOn e s t) : ActsOn e s (confirmGear e t) := by
  simp only [confirmGear]
  split
  · exact keeps_ite (actsOn_shift h) h
  · exact keeps_ite (actsOn_shift h) h
  · exact h

theorem actsOn_engagementTest (h : ActsOn e s t) : ActsOn e s (engagementTest e t) := by
  simp only [engagementTest]
  refine keeps_ite ?_ h
  split
  · exact actsOn_confirmGear (actsOn_shift h)
  · exact actsOn_confirmGear (actsOn_shift h)
  · exact h

theorem actsOn_enterNeutral (h : ActsOn e s t) : ActsOn e s (enterNeutral e t) := actsOn_engagementTest (actsOn_shift h)

theorem actsOn_dwellRunOut (h : ActsOn e s t) : ActsOn e s (dwellRunOut e t) :=
  keeps_ite (actsOn_enterNeutral (actsOn_onChan h)) (actsOn_onChan h)

theorem actsOn_disengage (h : ActsOn e s t) : ActsOn e s (disengage e t) :=
  keeps_ite (actsOn_dwellRunOut (actsOn_shift h)) (actsOn_shift h)

theorem actsOn_disengageTest (h : ActsOn e s t) : ActsOn e s (disengageTest e t) := by
  simp only [disengageTest]
  split
  · exact keeps_ite (actsOn_disengage h) h
  · exact keeps_ite (actsOn_disengage h) h
  · exact h

theorem actsOn_enterFault {k : FaultKind} (h : ActsOn e s t) : ActsOn e s (enterFault e k t) :=
  actsOn_engineReport (actsOn_report (actsOn_onChan h))

theorem actsOn_engineRuns (h : ActsOn e s t) : ActsOn e s (engineRuns e t) :=
  keeps_ite (keeps_ite (actsOn_enterNeutral h) (actsOn_shift h)) h

theorem actsOn_modeChanged {m : EngineMode} (h : ActsOn e s t) : ActsOn e s (modeChanged e m t) := by
  have hr : ActsOn e s (engineReport e (t.onChan e fun c => { c with mode := m })) := actsOn_shift h
  simp only [modeChanged]
  refine keeps_ite ?_ hr
  split
  · exact actsOn_engagementTest hr
  · exact actsOn_disengage hr
  · exact actsOn_disengage hr
  · exact actsOn_disengageTest hr
  · exact actsOn_disengageTest hr
  · exact actsOn_enterNeutral (actsOn_onChan hr)
  · exact hr

theorem actsOn_applyMode {mask m : Nat} (h : ActsOn e s t) : ActsOn e s (applyMode mask e m t) :=
  keeps_ite (actsOn_modeChanged h) h

theorem actsOn_followTest (h : ActsOn e s t) : ActsOn e s (followTest e t) :=
  keeps_ite (keeps_ite h (actsOn_onChan h)) (keeps_ite (actsOn_shift h) (actsOn_onChan h))

theorem actsOn_shaftTests (h : ActsOn e s t) : ActsOn e s (shaftTests e t) := by
  have hw : ActsOn e s (followTest e (wrongWayTest e t)) := actsOn_followTest (keeps_ite (actsOn_onChan h) (actsOn_onChan h))
  unfold shaftTests
  split
  · exact h
  · exact h
  · exact keeps_ite (actsOn_enterFault h) hw
  · exact keeps_ite (actsOn_enterFault h) hw
  · exact keeps_ite (actsOn_enterFault h) h

theorem actsOn_shaftWindow (h : ActsOn e s t) : ActsOn e s (shaftWindow e t) := by
  have ht := actsOn_shaftTests (actsOn_onChan h (f := fun c =>
    { c with rpm := roundHalfAway (c.count * 120) t.settings.engine.ppr[e], count := 0, countHeld := false }))
  exact keeps_ite (keeps_ite (actsOn_enterNeutral ht) ht) h

theorem actsOn_inputFilterExpiry {i : EngineInput} (h : ActsOn e s t) : ActsOn e s (inputFilterExpiry e i t) := by
  simp only [inputFilterExpiry]
  refine keeps_ite ?_ h
  cases i
  · exact keeps_ite (actsOn_engineRuns (actsOn_onChan h)) (actsOn_shift (actsOn_onChan h))
  · exact actsOn_confirmGear (actsOn_onChan h)
  · exact actsOn_confirmGear (actsOn_onChan h)

theorem neutralOutcome_congr (hp : t.prop = s.prop) (hs : t.settings = s.settings) (e : Fin 4) :
    neutralOutcome t e = neutralOutcome s e := by
  unfold neutralOutcome
  rw [hp, hs]

/-! #### The channel itself -/

/-- R98: a CHANGE report leaves the channel as it was put. -/
theorem shift_chan (s : State) (e : Fin 4) (f : Channel → Channel) : (engineReport e (s.onChan e f)).chans[e] = f s.chans[e] :=
  onChan_same s e f

/-- R86: the feedbacks of an engaging channel confirm its direction. -/
def Channel.confirms (c : Channel) : Bool :=
  c.gear == .engagingAhead && c.confirmsAhead || c.gear == .engagingAstern && c.confirmsAstern

theorem Channel.confirms_iff (c : Channel) : c.confirms = true ↔
    (c.gear = .engagingAhead ∧ c.aheadFb.level = true ∧ c.asternFb.level = false) ∨
      (c.gear = .engagingAstern ∧ c.asternFb.level = true ∧ c.aheadFb.level = false) := by
  simp [Channel.confirms, Channel.confirmsAhead, Channel.confirmsAstern]

/-- R86: a channel whose feedbacks confirm is engaged. -/
def Channel.confirmed (c : Channel) : Channel :=
  if c.confirms then { c with gear := if c.gear = .engagingAhead then .ahead else .astern, engageTimer := none } else c

theorem confirmGear_of_not_confirms (h : s.chans[e].confirms = false) : confirmGear e s = s := by
  simp only [Channel.confirms, Bool.or_eq_false_iff] at h
  obtain ⟨hahead, hastern⟩ := h
  simp only [confirmGear]
  split
  next hg => rw [hg] at hahead; exact if_neg (Bool.not_eq_true _ ▸ hahead)
  next hg => rw [hg] at hastern; exact if_neg (Bool.not_eq_true _ ▸ hastern)
  next => rfl

theorem confirmGear_chan (e : Fin 4) (s : State) : (confirmGear e s).chans[e] = s.chans[e].confirmed := by
  cases h : s.chans[e].confirms with
  | false => simp only [confirmGear_of_not_confirms h, Channel.confirmed, h, Bool.false_eq_true, if_false]
  | true =>
    simp only [Channel.confirmed, h, if_true]
    simp only [Channel.confirms, Bool.or_eq_true, Bool.and_eq_true, beq_iff_eq] at h
    rcases h with ⟨hg, hc⟩ | ⟨hg, hc⟩
    · simp only [confirmGear, hg, hc, if_true, shift_chan]
    · simp only [confirmGear, hg, hc, if_true, shift_chan, reduceCtorEq, if_false]

/-- A channel in a gear state, with an engage-confirm timer. -/
def Channel.inGear (g : Gear) (x : Timer) (c : Channel) : Channel := { c with gear := g, engageTimer := x }

theorem Channel.inGear_self {c : Channel} {g : Gear} (h : c.gear = g) : c = c.inGear g c.engageTimer := by
  rw [← h]
  rfl

theorem Channel.confirmed_ahead (c : Channel) (x : Timer) :
    ∃ y, (c.inGear .engagingAhead x).confirmed = c.inGear (if c.confirmsAhead then .ahead else .engagingAhead) y := by
  have h : (c.inGear .engagingAhead x).confirms = c.confirmsAhead := Bool.or_false _
  cases hc : c.confirmsAhead
  · exact ⟨x, by simp [Channel.confirmed, h, hc]⟩
  · exact ⟨none, if_pos (h.trans hc)⟩

theorem Channel.confirmed_astern (c : Channel) (x : Timer) :
    ∃ y, (c.inGear .engagingAstern x).confirmed = c.inGear (if c.confirmsAstern then .astern else .engagingAstern) y := by
  have h : (c.inGear .engagingAstern x).confirms = c.confirmsAstern := Bool.false_or _
  cases hc : c.confirmsAstern
  · exact ⟨x, by simp [Channel.confirmed, h, hc]⟩
  · exact ⟨none, if_pos (h.trans hc)⟩

/-- R85: the gear state that entry into NEUTRAL brings the channel to, as it stands. -/
def State.outcome (s : State) (e : Fin 4) : Gear :=
  neutralOutcome s e s.chans[e].mode s.chans[e].aheadFb.level s.chans[e].asternFb.level

theorem outcome_engineReport (e : Fin 4) (s : State) : (engineReport e s).outcome e = s.outcome e := rfl

theorem outcome_onChan {f : Channel → Channel}
    (hf : ∀ c, (f c).mode = c.mode ∧ (f c).aheadFb = c.aheadFb ∧ (f c).asternFb = c.asternFb) (s : State) :
    (s.onChan e f).outcome e = s.outcome e := by
  obtain ⟨hm, ha, hb⟩ := hf s.chans[e]
  rw [State.outcome, onChan_same, hm, ha, hb]
  rfl

/-- R66, R85: the outcome by D. -/
theorem outcome_of_dir (hp : s.settings.engine.present[e] = 1) (hm : s.chans[e].mode = .inUse) : s.outcome e = match s.dir with
    | .ahead => if s.chans[e].confirmsAhead then .ahead else .engagingAhead
    | .astern => if s.chans[e].confirmsAstern then .astern else .engagingAstern
    | .neutral => .neutral := by
  rw [State.outcome, neutralOutcome, if_pos ⟨hp, hm⟩, State.dir, dirOf]
  split
  · rfl
  · split <;> rfl

/-- R85: an engine that is absent or not IN_USE stays in NEUTRAL. -/
theorem outcome_of_idle (h : ¬(s.settings.engine.present[e] = 1 ∧ s.chans[e].mode = .inUse)) : s.outcome e = .neutral := if_neg h

/-- R85, R86: the engagement test of a NEUTRAL channel acts on its gear state and its engage-confirm timer alone. -/
theorem engagementTest_chan (hg : s.chans[e].gear = .neutral) :
    ∃ x, (engagementTest e s).chans[e] = s.chans[e].inGear (s.outcome e) x := by
  have stays (h : s.outcome e = .neutral) : ∃ x, s.chans[e] = s.chans[e].inGear (s.outcome e) x :=
    ⟨_, Channel.inGear_self (hg.trans h.symm)⟩
  by_cases hc : (s.settings.enginePresent e && s.chans[e].gear == .neutral && s.chans[e].mode == .inUse) = true
  · obtain ⟨hp, hm⟩ : s.settings.engine.present[e] = 1 ∧ s.chans[e].mode = .inUse := by
      simpa only [hg, beq_self_eq_true, Bool.and_true, Bool.and_eq_true, beq_iff_eq, enginePresent_iff] using hc
    have ho := outcome_of_dir hp hm
    cases hd : s.dir with
    | ahead =>
      simp only [engagementTest, hc, if_true, ho, hd, confirmGear_chan, shift_chan]
      exact Channel.confirmed_ahead _ _
    | astern =>
      simp only [engagementTest, hc, if_true, ho, hd, confirmGear_chan, shift_chan]
      exact Channel.confirmed_astern _ _
    | neutral =>
      simp only [engagementTest, hc, if_true, hd]
      exact stays (by rw [ho, hd])
  · simp only [engagementTest, hc, Bool.false_eq_true, if_false]
    refine stays (outcome_of_idle fun ⟨hp, hm⟩ => hc ?_)
    simp only [hg, hm, (enginePresent_iff _ _).2 hp, beq_self_eq_true, Bool.and_self]

/-- R85, R89: entry into NEUTRAL. -/
theorem enterNeutral_chan (e : Fin 4) (s : State) : ∃ x, (enterNeutral e s).chans[e] =
    { s.chans[e].inGear (s.outcome e) x with dwellTimer := none, dwellTimeout := none } := by
  obtain ⟨x, hx⟩ := engagementTest_chan (e := e) (s := engineReport e (s.onChan e fun c =>
    { c with gear := .neutral, dwellTimer := none, dwellTimeout := none })) (by rw [shift_chan])
  rw [shift_chan, outcome_engineReport, outcome_onChan] at hx
  · exact ⟨x, hx⟩
  · exact fun _ => ⟨rfl, rfl, rfl⟩

/-- R96: the channel of an engine that enters FAULT. -/
def Channel.faulted (c : Channel) (k : FaultKind) (ni : Int) : Channel :=
  { c.timersStopped with gear := .fault, fault := k, follow := false, demand := ni }

theorem enterFault_chan (e : Fin 4) (k : FaultKind) (s : State) :
    (enterFault e k s).chans[e] = s.chans[e].faulted k s.settings.engine.idle[e] :=
  onChan_same s e fun c => c.faulted k s.settings.engine.idle[e]

theorem enterStopped_chan (e : Fin 4) (s : State) : (enterStopped e s).chans[e] =
    { s.chans[e].timersStopped with gear := .stopped, follow := false, demand := s.settings.engine.idle[e] } := by
  rw [enterStopped, shift_chan]

/-- R87, R88: the channel of an engine that disengages, with a neutral dwell above 0. -/
theorem disengage_chan (h : 0 < s.settings.engine.neutralDwellMs) : (disengage e s).chans[e] = { s.chans[e].timersStopped with
    gear := .disengaging, follow := false, dwellTimer := millis s.settings.engine.neutralDwellMs,
    dwellTimeout := seconds s.settings.engine.dwellTimeoutS } := by
  simp only [disengage, if_neg (not_le.2 h), shift_chan]

end Sys2Proof.Machine
end

section
/-! ### R81, R89 to R95: clutches, shaft and governor -/

namespace Sys2Proof.Machine

variable {s t u : State} {e : Fin 4}

/-- R81: a clutch is driven in two gear states of a present engine. -/
theorem clutch_iff (hup : s.up = true) (hp : s.settings.engine.present[e] = 1) (g h : Gear) :
    (s.up && s.settings.enginePresent e && (s.chans[e].gear == g || s.chans[e].gear == h)) = true ↔
      s.chans[e].gear = g ∨ s.chans[e].gear = h := by
  rw [hup, (enginePresent_iff _ _).2 hp, Bool.true_and, Bool.true_and, Bool.or_eq_true, beq_iff_eq, beq_iff_eq]

/-- Settles O43: each clutch has two gear states of its own. -/
theorem clutchesFollowTheGearState : Obligations.ClutchesFollowTheGearState := by
  unfold Obligations.ClutchesFollowTheGearState
  refine fun s e => ⟨fun hup hp => ⟨clutch_iff hup hp _ _, clutch_iff hup hp _ _⟩, ?_⟩
  rintro ⟨hahead, hastern⟩
  simp only [State.aheadClutch, State.asternClutch, Bool.and_eq_true, Bool.or_eq_true, beq_iff_eq] at hahead hastern
  obtain ⟨-, ha⟩ := hahead
  obtain ⟨-, hb⟩ := hastern
  rcases ha with ha | ha <;> rw [ha] at hb <;> exact absurd hb (by decide)

/-! #### R89 to R95: the shaft -/

theorem Channel.counted_eq (c : Channel) (d : Int) : c.counted d =
    if c.countHeld = true then c
    else if c.count + d < -32767 ∨ 32767 < c.count + d then { c with countHeld := true } else { c with count := c.count + d } := by
  simp only [Channel.counted, or_comm]

/-- R91: the channel at a shaft window, before the tests. -/
def Channel.turned (c : Channel) (ppr : Int) : Channel :=
  { c with rpm := roundHalfAway (c.count * 120) ppr, count := 0, countHeld := false }

/-- R89, R93 to R95: the tests of a shaft window, made on the rpm just measured. -/
def windowTests (e : Fin 4) (s : State) : State := windowInDisengaging e (shaftTests e s)

theorem shaftWindow_of_present (hp : s.settings.engine.present[e] = 1) : ∃ u, shaftWindow e s = windowTests e u ∧
    u.settings = s.settings ∧ u.port = s.port ∧ u.outcome e = s.outcome e ∧
      u.chans[e] = s.chans[e].turned s.settings.engine.ppr[e] := by
  refine ⟨s.onChan e fun c => c.turned s.settings.engine.ppr[e], ?_, rfl, rfl, ?_, onChan_same _ _ _⟩
  · rw [shaftWindow, if_pos ((enginePresent_iff _ _).2 hp)]
    rfl
  · rw [outcome_onChan]
    exact fun _ => ⟨rfl, rfl, rfl⟩

theorem windowInDisengaging_of_ne (h : s.chans[e].gear ≠ .disengaging) : windowInDisengaging e s = s := by
  simp only [windowInDisengaging, beq_eq_false_iff_ne.2 h, Bool.false_and, Bool.false_eq_true, if_false]

/-- R93: no shaft test is made in STOPPED and in FAULT. -/
theorem windowTests_of_idle (h : s.chans[e].gear = .stopped ∨ s.chans[e].gear = .fault) : windowTests e s = s := by
  have ht : shaftTests e s = s := by rcases h with h | h <;> simp only [shaftTests, h]
  rw [windowTests, ht, windowInDisengaging_of_ne (by rcases h with h | h <;> rw [h] <;> exact nofun)]

/-- R93: a speed past the overspeed limit. -/
theorem windowTests_of_overspeed (hs : s.chans[e].gear ≠ .stopped) (hf : s.chans[e].gear ≠ .fault) (ho : s.overspeeds e = true) :
    windowTests e s = enterFault e .overspeed s := by
  have ht : shaftTests e s = enterFault e .overspeed s := by
    unfold shaftTests
    split
    next h => exact absurd h hs
    next h => exact absurd h hf
    all_goals rw [if_pos ho]
  rw [windowTests, ht, windowInDisengaging_of_ne (by rw [enterFault_chan]; exact nofun)]

theorem windowTests_of_out_of_gear (h : s.chans[e].gear = .neutral ∨ s.chans[e].gear = .engagingAhead ∨ s.chans[e].gear = .engagingAstern)
    (ho : s.overspeeds e = false) : windowTests e s = s := by
  have ht : shaftTests e s = s := by rcases h with h | h | h <;> simp only [shaftTests, h, ho, Bool.false_eq_true, if_false]
  rw [windowTests, ht, windowInDisengaging_of_ne (by rcases h with h | h | h <;> rw [h] <;> exact nofun)]

theorem windowTests_of_disengaging (h : s.chans[e].gear = .disengaging) (ho : s.overspeeds e = false) :
    windowTests e s = if s.chans[e].dwellTimer = none ∧ (s.chans[e].rpm.natAbs : Int) ≤ s.settings.engine.shaftStop
      then enterNeutral e s else s := by
  have ht : shaftTests e s = s := by simp only [shaftTests, h, ho, Bool.false_eq_true, if_false]
  rw [windowTests, ht, windowInDisengaging]
  simp only [h, beq_self_eq_true, Bool.true_and, Bool.and_eq_true, Option.isNone_iff_eq_none, State.shaftStopped, decide_eq_true_eq]

/-- R89: with the dwell run out, a window that shows the shaft stopped brings NEUTRAL. -/
theorem windowTests_ends_dwell (h : s.chans[e].gear = .disengaging) (ho : s.overspeeds e = false) (hd : s.chans[e].dwellTimer = none)
    (hr : (s.chans[e].rpm.natAbs : Int) ≤ s.settings.engine.shaftStop) :
    (windowTests e s).chans[e].dwellTimer = none ∧ (windowTests e s).chans[e].dwellTimeout = none ∧
      (windowTests e s).chans[e].demand = s.chans[e].demand ∧ (windowTests e s).chans[e].gear = s.outcome e := by
  obtain ⟨x, hx⟩ := enterNeutral_chan e s
  rw [windowTests_of_disengaging h ho, if_pos ⟨hd, hr⟩, hx]
  exact ⟨rfl, rfl, rfl, rfl⟩

theorem windowTests_keeps_dwell (h : s.chans[e].gear = .disengaging) (ho : s.overspeeds e = false)
    (hd : s.chans[e].dwellTimer ≠ none ∨ s.settings.engine.shaftStop < (s.chans[e].rpm.natAbs : Int)) : windowTests e s = s := by
  rw [windowTests_of_disengaging h ho, if_neg]
  rintro ⟨hn, hr⟩
  exact hd.elim (fun h => h hn) (not_lt.2 hr)

theorem overspeeds_eq_false_iff (s : State) (e : Fin 4) : s.overspeeds e = false ↔
    (s.chans[e].rpm.natAbs : Int) * 100 ≤ s.settings.engine.maxSpeed[e] * (100 + s.settings.engine.overspeedMargin) :=
  decide_eq_false_iff_not.trans not_lt

theorem overspeeds_iff (s : State) (e : Fin 4) : s.overspeeds e = true ↔
    s.settings.engine.maxSpeed[e] * (100 + s.settings.engine.overspeedMargin) < (s.chans[e].rpm.natAbs : Int) * 100 :=
  decide_eq_true_iff

/-- A timer that a window starts where it is stopped. -/
theorem Timer.or_eq (x : Timer) (n : Nat) : Option.or x (some n) = if x = none then some n else x := by
  cases x <;> rfl

/-- R94: the wrong-way timer after a window. -/
def State.wrongWayAfter (s : State) (e : Fin 4) : Timer :=
  let c := s.chans[e]
  if s.settings.engine.shaftStop < (c.rpm.natAbs : Int) ∧ (c.gear = .ahead ∧ c.rpm < 0 ∨ c.gear = .astern ∧ 0 < c.rpm)
    then (if c.wrongWayTimer = none then millis s.settings.engine.wrongWayMs else c.wrongWayTimer) else none

theorem wrongWay_iff (s : State) (e : Fin 4) : s.wrongWay e = true ↔ s.settings.engine.shaftStop < (s.chans[e].rpm.natAbs : Int) ∧
    (s.chans[e].gear = .ahead ∧ s.chans[e].rpm < 0 ∨ s.chans[e].gear = .astern ∧ 0 < s.chans[e].rpm) := by
  simp only [State.wrongWay, Bool.and_eq_true, Bool.or_eq_true, decide_eq_true_eq, beq_iff_eq, gt_iff_lt]

theorem wrongWayTest_eq (e : Fin 4) (s : State) :
    wrongWayTest e s = s.onChan e fun c => { c with wrongWayTimer := s.wrongWayAfter e } := by
  simp only [wrongWayTest, wrongWay_iff, State.wrongWayAfter]
  split
  · simp only [State.onChan, millis, Timer.or_eq]
  · rfl

/-- A channel that an update leaves as it is. -/
theorem onChan_self {f : Channel → Channel} (h : f s.chans[e] = s.chans[e]) : s.onChan e f = s := by
  rw [State.onChan, h]
  simp

theorem onChan_onChan (s : State) (e : Fin 4) (f g : Channel → Channel) :
    (s.onChan e f).onChan e g = s.onChan e fun c => g (f c) := by
  simp [State.onChan]

/-- R95: the follow timer after a window. -/
def State.followAfter (s : State) (e : Fin 4) : Timer :=
  let c := s.chans[e]
  if ¬s.offDemand e = true then none
  else if c.followTimer = none ∧ c.follow = false then seconds s.settings.engine.followTimeS else c.followTimer

/-- R95: the channel after the follow test of a window. -/
def State.followed (s : State) (e : Fin 4) : State := s.onChan e fun c =>
  { c with follow := c.follow && s.offDemand e, followTimer := s.followAfter e }

/-- R95: a CHANGE is queued where a FOLLOW that stands is cleared. -/
theorem followTest_eq (e : Fin 4) (s : State) : followTest e s =
    if s.chans[e].follow = true ∧ ¬s.offDemand e = true then engineReport e (s.followed e) else s.followed e := by
  cases ho : s.offDemand e <;> cases hf : s.chans[e].follow
  case true.true =>
    have hs : s.followed e = s := onChan_self (by
      simp only [State.followAfter, ho, hf, Bool.and_true, reduceCtorEq, and_false, not_true, if_false]
      rw [← hf])
    simp only [hs, followTest, ho, hf, if_true, not_true, and_false, if_false]
  case true.false =>
    simp only [followTest, State.followed, State.followAfter, State.onChan, ho, hf, seconds, Timer.or_eq, Bool.false_eq_true, if_true,
      Bool.and_true, and_true, not_true, and_false, if_false]
  all_goals simp only [followTest, State.followed, State.followAfter, ho, hf, Bool.false_eq_true, if_false, if_true, Bool.and_false,
    and_true, not_false_eq_true]

/-- R94, R95: the channel after the tests of a window in AHEAD and ASTERN. -/
def State.watched (s : State) (e : Fin 4) : State := s.onChan e fun c =>
  { c with wrongWayTimer := s.wrongWayAfter e, follow := c.follow && s.offDemand e, followTimer := s.followAfter e }

theorem followTest_wrongWayTest (e : Fin 4) (s : State) : followTest e (wrongWayTest e s) =
    if s.chans[e].follow = true ∧ ¬s.offDemand e = true then engineReport e (s.watched e) else s.watched e := by
  have hoff : (wrongWayTest e s).offDemand e = s.offDemand e := by
    rw [wrongWayTest_eq, State.offDemand, onChan_same]
    rfl
  have hafter : (wrongWayTest e s).followAfter e = s.followAfter e := by
    rw [State.followAfter, hoff, wrongWayTest_eq, onChan_same]
    rfl
  have hw : (wrongWayTest e s).followed e = s.watched e := by
    rw [State.followed, hoff, hafter, wrongWayTest_eq, onChan_onChan]
    rfl
  rw [followTest_eq, hw, hoff, wrongWayTest_eq, onChan_same]

theorem windowTests_of_engaged (h : s.chans[e].gear = .ahead ∨ s.chans[e].gear = .astern) (ho : s.overspeeds e = false) :
    windowTests e s =
      if s.chans[e].follow = true ∧ ¬s.offDemand e = true then engineReport e (s.watched e) else s.watched e := by
  have ht : shaftTests e s = followTest e (wrongWayTest e s) := by
    rcases h with h | h <;> simp only [shaftTests, h, ho, Bool.false_eq_true, if_false]
  have hg : (followTest e (wrongWayTest e s)).chans[e].gear = s.chans[e].gear := by
    rw [followTest_wrongWayTest, State.watched]
    split <;> simp only [shift_chan, onChan_same]
  rw [windowTests, ht, windowInDisengaging_of_ne (by rw [hg]; rcases h with h | h <;> rw [h] <;> exact nofun), followTest_wrongWayTest]

theorem windowTests_engaged_chan (h : s.chans[e].gear = .ahead ∨ s.chans[e].gear = .astern) (ho : s.overspeeds e = false) :
    (windowTests e s).chans[e] = { s.chans[e] with
      wrongWayTimer := s.wrongWayAfter e, follow := s.chans[e].follow && s.offDemand e, followTimer := s.followAfter e } := by
  rw [windowTests_of_engaged h ho, State.watched]
  split <;> simp only [shift_chan, onChan_same]

theorem windowTests_engaged_port (h : s.chans[e].gear = .ahead ∨ s.chans[e].gear = .astern) (ho : s.overspeeds e = false) :
    (windowTests e s).port = if s.chans[e].follow = true ∧ ¬s.offDemand e = true
      then (engineReport e { windowTests e s with port := s.port }).port else s.port := by
  rw [windowTests_of_engaged h ho]
  split <;> rfl

/-- The figures of the shaft that the tests of a window read and leave. -/
def Channel.shaft (c : Channel) : Int × Int × Bool := (c.rpm, c.count, c.countHeld)

/-- R91: the tests leave the measured rpm and the count. -/
theorem windowTests_shaft (e : Fin 4) (s : State) : (windowTests e s).chans[e].shaft = s.chans[e].shaft := by
  by_cases hi : s.chans[e].gear = .stopped ∨ s.chans[e].gear = .fault
  · rw [windowTests_of_idle hi]
  · obtain ⟨hs, hf⟩ := not_or.1 hi
    cases ho : s.overspeeds e with
    | true =>
      rw [windowTests_of_overspeed hs hf ho, enterFault_chan]
      rfl
    | false =>
      cases hg : s.chans[e].gear with
      | stopped => exact absurd hg hs
      | fault => exact absurd hg hf
      | neutral => rw [windowTests_of_out_of_gear (.inl hg) ho]
      | engagingAhead => rw [windowTests_of_out_of_gear (.inr (.inl hg)) ho]
      | engagingAstern => rw [windowTests_of_out_of_gear (.inr (.inr hg)) ho]
      | disengaging =>
        rw [windowTests_of_disengaging hg ho]
        split
        · obtain ⟨x, hx⟩ := enterNeutral_chan e s
          rw [hx]
          rfl
        · rfl
      | ahead =>
        rw [windowTests_engaged_chan (.inl hg) ho]
        rfl
      | astern =>
        rw [windowTests_engaged_chan (.inr hg) ho]
        rfl

/-- R90: a pulse counts. -/
theorem shaftPulse_of_present (hp : s.settings.engine.present[e] = 1) (high : Bool) :
    shaftPulse e high s = s.onChan e fun c => c.counted (if high then -1 else 1) :=
  if_pos ((enginePresent_iff _ _).2 hp)

/-- R92: the governor latch. -/
theorem governorPeriodEnd_of_present (hp : s.settings.engine.present[e] = 1) : governorPeriodEnd e s =
    s.onChan e fun c => { c with duty := dutyOf c.demand s.settings.engine.idle[e] s.settings.engine.maxSpeed[e] } :=
  if_pos ((enginePresent_iff _ _).2 hp)

/-- An update of one channel, as the statements put it. -/
theorem onChan_only (s : State) (e : Fin 4) (f : Channel → Channel) : s.onChan e f = { s with chans := (s.onChan e f).chans } ∧
    (∀ d : Fin 4, d ≠ e → (s.onChan e f).chans[d] = s.chans[d]) ∧ (s.onChan e f).chans[e] = f s.chans[e] :=
  ⟨rfl, fun _ hd => onChan_other s f hd, onChan_same s e f⟩

/-- Settles O46: a pulse and a governor latch are one update each; a window is one, and then the tests of its gear state. -/
theorem shaftAndGovernorAreMeasured : Obligations.ShaftAndGovernorAreMeasured := by
  unfold Obligations.ShaftAndGovernorAreMeasured
  refine fun s e hup hp => ⟨fun high => ?_, ⟨shaftWindow e s, whenUp_of_up hup _, (actsOn_shaftWindow (.refl s)).state,
    (actsOn_shaftWindow (.refl s)).others, ?_⟩, ⟨_, whenUp_of_up hup (governorPeriodEnd e), ?_⟩⟩
  · obtain ⟨hstate, hothers, hchan⟩ := onChan_only s e fun c => c.counted (if high then -1 else 1)
    refine ⟨_, whenUp_of_up hup (shaftPulse e high), ?_⟩
    rw [shaftPulse_of_present hp]
    exact ⟨hstate, hothers, hchan.trans (Channel.counted_eq _ _)⟩
  · obtain ⟨u, hw, hset, hport, hout, hc⟩ := shaftWindow_of_present hp
    have hgear : u.chans[e].gear = s.chans[e].gear := by rw [hc]; rfl
    have hfast := overspeeds_iff u e
    have hslow := overspeeds_eq_false_iff u e
    have hshaft := windowTests_shaft e u
    rw [hc, hset] at hfast hslow
    rw [hc] at hshaft
    simp only [Channel.shaft, Prod.mk.injEq] at hshaft
    obtain ⟨hrpm, hcount, hheld⟩ := hshaft
    rw [hw]
    dsimp only
    refine ⟨hrpm, hcount, hheld, ?_⟩
    rw [hrpm]
    refine ⟨fun hs hf ho => ?_, fun hi => ?_, fun ht hg => ?_, fun ht hg => ?_, fun ht hg => ⟨fun hd hr => ?_, fun hd => ?_⟩⟩
    · rw [← hgear] at hs hf
      rw [windowTests_of_overspeed hs hf (hfast.2 ho), enterFault_chan, hset]
      exact ⟨rfl, rfl, rfl⟩
    · rw [← hgear] at hi
      rw [windowTests_of_idle hi]
      exact hc
    · rw [← hgear] at hg
      rw [windowTests_of_out_of_gear hg (hslow.2 ht)]
      exact hc
    · rw [← hgear] at hg
      have hchan := windowTests_engaged_chan hg (hslow.2 ht)
      have hqueue := windowTests_engaged_port hg (hslow.2 ht)
      simp only [State.wrongWayAfter, State.followAfter, State.offDemand, decide_eq_true_eq, hc, hset, hport] at hchan hqueue
      exact ⟨hchan, hqueue⟩
    · rw [← hgear] at hg
      have hends := windowTests_ends_dwell hg (hslow.2 ht) (by rw [hc]; exact hd) (by rw [hc, hset]; exact hr)
      rw [hc, hout] at hends
      exact hends
    · rw [← hgear] at hg
      rw [windowTests_keeps_dwell hg (hslow.2 ht) (by rw [hc, hset]; exact hd)]
      exact hc
  · rw [governorPeriodEnd_of_present hp]
    exact onChan_only s e _

end Sys2Proof.Machine
end

section
/-! ### R85 to R96: the timers of an engine channel -/

namespace Sys2Proof.Machine

variable {s t : State} {e : Fin 4}

/-- R176: what the port holds after a report rests on the port and the voyage clock. -/
theorem report_port_congr (hp : t.port = s.port) (hc : t.clock = s.clock) (k : ReportKind) (b : Subject) (d : List Byte) :
    (report k b d t).port = (report k b d s).port := by
  rw [report_eq, report_eq, hp, hc]

/-- R98, with log entries 10 and 11: the body of an engine's CHANGE; 0 stands for the gear state of an absent engine. -/
def Channel.changeBody (here : Bool) (c : Channel) : List Byte :=
  yesNo here ++ [if c.mode = .inUse then 1 else 2] ++ unsigned 1 (if here then c.gear.code else 0) ++ unsigned 1 c.fault.code ++
    yesNo c.follow

theorem engineReport_eq (e : Fin 4) (s : State) : engineReport e s =
    report .change (.engine (e.val + 1)) (s.chans[e].changeBody (decide (s.settings.engine.present[e] = 1))) s := by
  have hm : unsigned 1 s.chans[e].mode.code = [if s.chans[e].mode = .inUse then 1 else 2] := by
    cases s.chans[e].mode <;> decide
  rw [engineReport, hm]
  rfl

/-- R95, R96: a change of a channel with an alarm, and then the CHANGE of the engine. -/
theorem alarm_state (e : Fin 4) (f : Channel → Channel) (k : ReportKind) (d : List Byte) (s : State) :
    let t := engineReport e (report k (.engine (e.val + 1)) d (s.onChan e f))
    t = { s with port := t.port, chans := t.chans } ∧ (∀ g : Fin 4, g ≠ e → t.chans[g] = s.chans[g]) ∧ t.chans[e] = f s.chans[e] ∧
      t.port = (report .change (.engine (e.val + 1)) ((f s.chans[e]).changeBody (decide (s.settings.engine.present[e] = 1)))
        (report k (.engine (e.val + 1)) d s)).port := by
  have ha : ActsOn e s (engineReport e (report k (.engine (e.val + 1)) d (s.onChan e f))) :=
    actsOn_engineReport (actsOn_report (actsOn_onChan (.refl s)))
  have hc : (report k (.engine (e.val + 1)) d (s.onChan e f)).chans[e] = f s.chans[e] := onChan_same s e f
  refine ⟨ha.state, ha.others, hc, ?_⟩
  rw [engineReport_eq, hc]
  exact report_port_congr rfl rfl _ _ _

theorem enterFault_eq (e : Fin 4) (k : FaultKind) (s : State) : enterFault e k s = engineReport e
    (report k.alarm (.engine (e.val + 1)) (signed 2 s.chans[e].rpm) (s.onChan e fun c => c.faulted k s.settings.engine.idle[e])) := by
  have hr : (s.onChan e fun c => c.faulted k s.settings.engine.idle[e]).chans[e].rpm = s.chans[e].rpm := by rw [onChan_same]; rfl
  rw [← hr]
  rfl

theorem followExpiry_eq (h : s.chans[e].followTimer ≠ none) : followExpiry e s = engineReport e
    (report .follow (.engine (e.val + 1)) (signed 2 s.chans[e].rpm ++ signed 2 s.chans[e].demand)
      (s.onChan e fun c => { c with followTimer := none, follow := true })) := by
  simp only [followExpiry, Option.isSome_iff_ne_none.2 h, if_true, onChan_same]

theorem faulted_body {k : FaultKind} {code : Byte} (hk : unsigned 1 k.code = [code]) (c : Channel) (ni : Int) (here : Bool) :
    (c.faulted k ni).changeBody here = yesNo here ++ [if c.mode = .inUse then 1 else 2, if here then 8 else 0, code, 0] := by
  have hgear : unsigned 1 (if here then Gear.fault.code else 0) = [if here then 8 else 0] := by cases here <;> decide
  show yesNo here ++ _ ++ unsigned 1 (if here then Gear.fault.code else 0) ++ unsigned 1 k.code ++ yesNo false = _
  rw [hgear, hk]
  rfl

/-- R96: what entry into FAULT makes of the state, with the code of the fault kind. -/
theorem enterFault_state {k : FaultKind} {code : Byte} (hk : unsigned 1 k.code = [code]) (e : Fin 4) (s : State) :
    enterFault e k s = { s with port := (enterFault e k s).port, chans := (enterFault e k s).chans } ∧
    (∀ f : Fin 4, f ≠ e → (enterFault e k s).chans[f] = s.chans[f]) ∧
    (enterFault e k s).chans[e] = s.chans[e].faulted k s.settings.engine.idle[e] ∧
    (enterFault e k s).port = (report .change (.engine (e.val + 1))
      (yesNo (decide (s.settings.engine.present[e] = 1)) ++ [if s.chans[e].mode = .inUse then 1 else 2,
        if decide (s.settings.engine.present[e] = 1) then 8 else 0, code, 0])
      (report k.alarm (.engine (e.val + 1)) (signed 2 s.chans[e].rpm) s)).port := by
  rw [enterFault_eq, ← faulted_body hk s.chans[e] s.settings.engine.idle[e]]
  exact alarm_state e (fun c => c.faulted k s.settings.engine.idle[e]) _ _ s

/-- R85, R89: what entry into NEUTRAL makes of the state. -/
theorem enterNeutral_state (e : Fin 4) (s : State) :
    enterNeutral e s = { s with port := (enterNeutral e s).port, chans := (enterNeutral e s).chans } ∧
    (∀ f : Fin 4, f ≠ e → (enterNeutral e s).chans[f] = s.chans[f]) ∧
    (enterNeutral e s).chans[e].gear = s.outcome e ∧ (enterNeutral e s).chans[e].dwellTimer = none ∧
    (enterNeutral e s).chans[e].dwellTimeout = none ∧ (enterNeutral e s).chans[e].demand = s.chans[e].demand := by
  have ha : ActsOn e s (enterNeutral e s) := actsOn_enterNeutral (.refl s)
  obtain ⟨x, hx⟩ := enterNeutral_chan e s
  refine ⟨ha.state, ha.others, ?_⟩
  rw [hx]
  exact ⟨rfl, rfl, rfl, rfl⟩

/-- R89: the neutral dwell runs out with the shaft stopped, and with it turning. -/
theorem dwellRunOut_stopped (h : (s.chans[e].rpm.natAbs : Int) ≤ s.settings.engine.shaftStop) :
    dwellRunOut e s = enterNeutral e (s.onChan e fun c => { c with dwellTimer := none }) := by
  have hs : (s.onChan e fun c => { c with dwellTimer := none }).shaftStopped e = true := by
    rw [State.shaftStopped, onChan_same, decide_eq_true_eq]
    exact h
  rw [dwellRunOut, if_pos hs]

theorem dwellRunOut_turning (h : s.settings.engine.shaftStop < (s.chans[e].rpm.natAbs : Int)) :
    dwellRunOut e s = s.onChan e fun c => { c with dwellTimer := none } := by
  have hs : ¬(s.onChan e fun c => { c with dwellTimer := none }).shaftStopped e = true := by
    rw [State.shaftStopped, onChan_same, decide_eq_true_eq]
    exact not_le.2 h
  rw [dwellRunOut, if_neg hs]

/-- Settles O45: each timer that runs out enters FAULT or NEUTRAL, raises FOLLOW, or stops. -/
theorem channelTimersEndTheirWaits : Obligations.ChannelTimersEndTheirWaits := by
  unfold Obligations.ChannelTimersEndTheirWaits
  refine ⟨fun s e hup => ⟨fun ht => ?_, fun ht => ?_, fun ht => ?_, rfl, rfl, rfl⟩,
    fun s e hup => ⟨fun ht => ?_, fun ht hr => ?_, fun ht hr => ?_⟩⟩
  · refine ⟨_, whenUp_of_up hup (engageConfirmExpiry e), ?_⟩
    rw [engageConfirmExpiry, if_pos (Option.isSome_iff_ne_none.2 ht)]
    exact enterFault_state (by decide) e s
  · refine ⟨_, whenUp_of_up hup (wrongWayExpiry e), ?_⟩
    rw [wrongWayExpiry, if_pos (Option.isSome_iff_ne_none.2 ht)]
    exact enterFault_state (by decide) e s
  · refine ⟨_, whenUp_of_up hup (followExpiry e), ?_⟩
    rw [followExpiry_eq ht]
    exact alarm_state e (fun c => { c with followTimer := none, follow := true }) _ _ s
  · refine ⟨_, whenUp_of_up hup (dwellTimeoutExpiry e), ?_⟩
    rw [dwellTimeoutExpiry, if_pos (Option.isSome_iff_ne_none.2 ht)]
    exact enterNeutral_state e s
  · refine ⟨_, whenUp_of_up hup (neutralDwellExpiry e), ?_⟩
    rw [neutralDwellExpiry, if_pos (Option.isSome_iff_ne_none.2 ht), dwellRunOut_stopped hr]
    obtain ⟨hstate, hothers, hgear, hdwell, htimeout, hdemand⟩ := enterNeutral_state e (s.onChan e fun c => { c with dwellTimer := none })
    rw [onChan_same] at hdemand
    rw [outcome_onChan] at hgear
    · exact ⟨hstate, fun f hf => (hothers f hf).trans (onChan_other s _ hf), hgear, hdwell, htimeout, hdemand⟩
    · exact fun _ => ⟨rfl, rfl, rfl⟩
  · refine ⟨_, whenUp_of_up hup (neutralDwellExpiry e), ?_⟩
    rw [neutralDwellExpiry, if_pos (Option.isSome_iff_ne_none.2 ht), dwellRunOut_turning hr]
    exact onChan_only s e _

end Sys2Proof.Machine
end

section
/-! ### R80 to R88: modes and inputs of the engine channels -/

namespace Sys2Proof.Machine

variable {s t u : State} {e : Fin 4} {m : EngineMode}

/-! #### A change of mode -/

theorem shift_settings (s : State) (e : Fin 4) (f : Channel → Channel) : (engineReport e (s.onChan e f)).settings = s.settings := rfl

/-- R87, R88: the channel of an engine that disengages. -/
def Channel.disengaged (c : Channel) (p : EngineSettings) : Channel :=
  { c.timersStopped with
    gear := .disengaging, follow := false, dwellTimer := millis p.neutralDwellMs, dwellTimeout := seconds p.dwellTimeoutS }

/-- R87, R88: in DISENGAGING both dwell timers run, and no other. -/
theorem disengaged_fields {c d : Channel} {p : EngineSettings} (h : d = c.disengaged p) : d.gear = .disengaging ∧ d.follow = false ∧
    d.engageTimer = none ∧ d.dwellTimer = millis p.neutralDwellMs ∧ d.dwellTimeout = seconds p.dwellTimeoutS ∧
    d.wrongWayTimer = none ∧ d.followTimer = none := by
  rw [h]
  exact ⟨rfl, rfl, rfl, rfl, rfl, rfl, rfl⟩

/-- R88: an engaged channel in STANDBY disengages at idle. -/
theorem disengageTest_of_standby (hm : s.chans[e].mode = .standby) (hg : s.chans[e].gear = .ahead ∨ s.chans[e].gear = .astern) :
    disengageTest e s = if s.chans[e].demand = s.settings.engine.idle[e] then disengage e s else s := by
  rcases hg with hg | hg <;>
    simp only [disengageTest, hg, hm, beq_self_eq_true, Bool.or_true, Bool.and_true, beq_iff_eq]

/-- R83: what a change of mode leaves: the other channels, and share, target, demand and trim of its own. -/
theorem shiftsOnly_modeChanged (e : Fin 4) (m : EngineMode) (s : State) :
    ShiftsOnly e (s.onChan e fun c => { c with mode := m }) (modeChanged e m s) := by
  have hr : ShiftsOnly e (s.onChan e fun c => { c with mode := m }) (engineReport e (s.onChan e fun c => { c with mode := m })) :=
    .of_chans rfl
  simp only [modeChanged]
  refine keeps_ite ?_ hr
  split
  · exact shiftsOnly_engagementTest hr
  · exact shiftsOnly_disengage hr
  · exact shiftsOnly_disengage hr
  · exact shiftsOnly_disengageTest hr
  · exact shiftsOnly_disengageTest hr
  · exact shiftsOnly_engagementTest (shiftsOnly_shift (fun _ => rfl) (shiftsOnly_onChan (fun _ => rfl) hr))
  · exact hr

theorem modeChanged_mode (e : Fin 4) (m : EngineMode) (s : State) :
    (modeChanged e m s).chans[e].mode = m ∧ (modeChanged e m s).chans[e].demand = s.chans[e].demand := by
  have h := (shiftsOnly_modeChanged e m s).own
  rw [onChan_same] at h
  simp only [Channel.throttle, Prod.mk.injEq] at h
  obtain ⟨-, -, -, -, hmode, hdemand⟩ := h
  exact ⟨hmode, hdemand⟩

section
variable (hp : s.settings.enginePresent e = true)
include hp

theorem modeChanged_inUse_neutral (hg : s.chans[e].gear = .neutral) : (modeChanged e .inUse s).chans[e].gear =
    neutralOutcome s e .inUse s.chans[e].aheadFb.level s.chans[e].asternFb.level := by
  obtain ⟨x, hx⟩ := engagementTest_chan (e := e) (s := engineReport e (s.onChan e fun c => { c with mode := .inUse }))
    (by rw [shift_chan]; exact hg)
  simp only [modeChanged, shift_settings, shift_chan, hp, hg, if_true, hx, Channel.inGear, State.outcome]
  rfl

theorem modeChanged_inUse_fault (hg : s.chans[e].gear = .fault) : (modeChanged e .inUse s).chans[e].fault = .none ∧
    (modeChanged e .inUse s).chans[e].gear = neutralOutcome s e .inUse s.chans[e].aheadFb.level s.chans[e].asternFb.level := by
  obtain ⟨x, hx⟩ := enterNeutral_chan e ((engineReport e (s.onChan e fun c => { c with mode := .inUse })).onChan e fun c =>
    { c with fault := .none })
  simp only [modeChanged, shift_settings, shift_chan, hp, hg, if_true, hx, Channel.inGear, State.outcome, onChan_same,
    true_and]
  rfl

theorem modeChanged_inUse_else (hn : s.chans[e].gear ≠ .neutral) (hf : s.chans[e].gear ≠ .fault) :
    (modeChanged e .inUse s).chans[e] = { s.chans[e] with mode := .inUse } := by
  cases hg : s.chans[e].gear
  case neutral => exact absurd hg hn
  case fault => exact absurd hg hf
  all_goals simp only [modeChanged, shift_settings, shift_chan, hp, hg, if_true]

theorem modeChanged_standby_quiet (hg : s.chans[e].gear = .stopped ∨ s.chans[e].gear = .neutral ∨ s.chans[e].gear = .disengaging ∨
    s.chans[e].gear = .fault) : (modeChanged e .standby s).chans[e] = { s.chans[e] with mode := .standby } := by
  rcases hg with hg | hg | hg | hg <;> simp only [modeChanged, shift_settings, shift_chan, hp, hg, if_true]

theorem modeChanged_standby_engaging (hd : 0 < s.settings.engine.neutralDwellMs)
    (hg : s.chans[e].gear = .engagingAhead ∨ s.chans[e].gear = .engagingAstern) :
    (modeChanged e .standby s).chans[e] = ({ s.chans[e] with mode := .standby }).disengaged s.settings.engine := by
  have hc := disengage_chan (e := e) (s := engineReport e (s.onChan e fun c => { c with mode := .standby })) hd
  rcases hg with hg | hg <;> simp only [modeChanged, shift_settings, shift_chan, hp, hg, if_true, hc] <;> rfl

theorem modeChanged_standby_engaged (hg : s.chans[e].gear = .ahead ∨ s.chans[e].gear = .astern) :
    (0 < s.settings.engine.neutralDwellMs → s.chans[e].demand = s.settings.engine.idle[e] →
      (modeChanged e .standby s).chans[e] = ({ s.chans[e] with mode := .standby }).disengaged s.settings.engine) ∧
    (s.chans[e].demand ≠ s.settings.engine.idle[e] → (modeChanged e .standby s).chans[e] = { s.chans[e] with mode := .standby }) := by
  obtain ⟨v, hv⟩ : ∃ v, v = engineReport e (s.onChan e fun c => { c with mode := .standby }) := ⟨_, rfl⟩
  have hset : v.settings = s.settings := by rw [hv]; rfl
  have hc : v.chans[e] = { s.chans[e] with mode := .standby } := by rw [hv, shift_chan]
  have ht : modeChanged e .standby s = disengageTest e v := by
    rw [hv]
    rcases hg with hg | hg <;> simp only [modeChanged, shift_settings, shift_chan, hp, hg, if_true]
  rw [ht, disengageTest_of_standby (by rw [hc]) (by rw [hc]; exact hg), hset, hc]
  refine ⟨fun hd hi => ?_, fun hi => ?_⟩
  · rw [if_pos hi, disengage_chan (by rw [hset]; exact hd), hset, hc]
    rfl
  · rw [if_neg hi, hc]

end

/-! #### R82: SET_ENGINE_MODES -/

/-- R82: the mode of a mode value. -/
def modeOf (n : Nat) : EngineMode := if n = 1 then .inUse else .standby

theorem applyMode_unmasked {mask : Nat} (h : mask.testBit e.val = false) (n : Nat) (s : State) : applyMode mask e n s = s := by
  simp only [applyMode, h, Bool.false_and, Bool.false_eq_true, if_false]

theorem applyMode_same {n : Nat} (h : s.chans[e].mode = modeOf n) (mask : Nat) : applyMode mask e n s = s := by
  have hb : (s.chans[e].mode != (if n = 1 then .inUse else .standby)) = false := bne_eq_false_iff_eq.2 h
  simp only [applyMode, hb, Bool.and_false, Bool.false_eq_true, if_false]

theorem applyMode_changes {mask n : Nat} (hb : mask.testBit e.val = true) (h : s.chans[e].mode ≠ modeOf n) :
    applyMode mask e n s = modeChanged e (modeOf n) s := by
  have hn : (s.chans[e].mode != (if n = 1 then .inUse else .standby)) = true := bne_iff_ne.2 h
  simp only [applyMode, hb, hn, Bool.and_self, if_true]
  rfl

theorem applyMode_mode {mask : Nat} (hb : mask.testBit e.val = true) (n : Nat) (s : State) :
    (applyMode mask e n s).chans[e].mode = modeOf n := by
  by_cases h : s.chans[e].mode = modeOf n
  · rw [applyMode_same h, h]
  · rw [applyMode_changes hb h]
    exact (modeChanged_mode e _ s).1

theorem applyMode_demand (mask n : Nat) (e : Fin 4) (s : State) : (applyMode mask e n s).chans[e].demand = s.chans[e].demand := by
  cases hb : mask.testBit e.val with
  | false => rw [applyMode_unmasked hb]
  | true =>
    by_cases h : s.chans[e].mode = modeOf n
    · rw [applyMode_same h]
    · rw [applyMode_changes hb h]
      exact (modeChanged_mode e _ s).2

/-- R82: a masked engine carries a value that is no mode. -/
theorem badMode_iff (mask m1 m2 m3 m4 : Nat) :
    (badMode mask 0 m1 || badMode mask 1 m2 || badMode mask 2 m3 || badMode mask 3 m4) = true ↔
      ∃ e : Fin 4, mask.testBit e.val = true ∧ #v[m1, m2, m3, m4][e] ≠ 1 ∧ #v[m1, m2, m3, m4][e] ≠ 2 := by
  simp [badMode, Fin.exists_fin_succ, or_assoc]

/-- Log entry 50: the engines take their modes in order. -/
theorem setEngineModes_accept {mask m1 m2 m3 m4 : Nat}
    (h : ¬∃ e : Fin 4, mask.testBit e.val = true ∧ #v[m1, m2, m3, m4][e] ≠ 1 ∧ #v[m1, m2, m3, m4][e] ≠ 2) :
    (setEngineModes mask m1 m2 m3 m4 s).1 = forAll allEngines (fun e => applyMode mask e #v[m1, m2, m3, m4][e]) s := by
  rw [setEngineModes, if_neg (mt (badMode_iff mask m1 m2 m3 m4).1 h)]
  rfl

/-- R82: an accepted SET_ENGINE_MODES is one turn of each engine, which finds its channel as it stood. -/
theorem exec_setEngineModes {mask m1 m2 m3 m4 : Nat} (hup : s.up = true)
    (h : ¬∃ e : Fin 4, mask.testBit e.val = true ∧ #v[m1, m2, m3, m4][e] ≠ 1 ∧ #v[m1, m2, m3, m4][e] ≠ 2) :
    ∃ t, exec (.setEngineModes mask m1 m2 m3 m4) s = .next t ∧ t = { s with port := t.port, chans := t.chans } ∧
      ∀ e : Fin 4, ∃ u, u.settings = s.settings ∧ u.prop = s.prop ∧ u.chans[e] = s.chans[e] ∧
        t.chans[e] = (applyMode mask e #v[m1, m2, m3, m4][e] u).chans[e] := by
  refine ⟨_, answerRequest_of_up hup (setEngineModes mask m1 m2 m3 m4), ?_⟩
  rw [setEngineModes_accept h]
  refine ⟨?_, fun e => ?_⟩
  · have hs : forAll allEngines (fun e => applyMode mask e #v[m1, m2, m3, m4][e]) s = { s with
        port := (forAll allEngines (fun e => applyMode mask e #v[m1, m2, m3, m4][e]) s).port,
        chans := (forAll allEngines (fun e => applyMode mask e #v[m1, m2, m3, m4][e]) s).chans } :=
      forAll_induct (P := fun u => u = { s with port := u.port, chans := u.chans }) _ _ _
        (fun e _ u hu => (actsOn_applyMode (e := e) (.refl u)).state.trans (by rw [hu])) rfl
    rw [hs]
    rfl
  · refine forAllEngines_turn (before := fun u => u.settings = s.settings ∧ u.prop = s.prop ∧ u.chans[e] = s.chans[e])
      (after := fun v => ∃ u : State, u.settings = s.settings ∧ u.prop = s.prop ∧ u.chans[e] = s.chans[e] ∧
        v.chans[e] = (applyMode mask e #v[m1, m2, m3, m4][e] u).chans[e]) e ?_ ?_ ?_ ⟨rfl, rfl, rfl⟩
    · rintro d hd u ⟨hset, hprop, hc⟩
      have ha : ActsOn d u (applyMode mask d #v[m1, m2, m3, m4][d] u) := actsOn_applyMode (.refl u)
      exact ⟨ha.settings.trans hset, ha.prop.trans hprop, (ha.others e hd.symm).trans hc⟩
    · rintro u ⟨hset, hprop, hc⟩
      exact ⟨u, hset, hprop, hc, rfl⟩
    · rintro d hd v ⟨u, hset, hprop, hc, hv⟩
      have ha : ActsOn d v (applyMode mask d #v[m1, m2, m3, m4][d] v) := actsOn_applyMode (.refl v)
      exact ⟨u, hset, hprop, hc, (ha.others e hd.symm).trans hv⟩

/-! #### R80, R84, R86: the inputs -/

/-- R80: a level change at a pin of a present engine. -/
theorem engineInputChange_of_present (hup : s.up = true) (hp : s.settings.enginePresent e = true) (i : EngineInput) (level : Bool) :
    engineInputChange e i level s = s.onChan e fun c => c.setInput ⟨level, (c.input i).level, level != (c.input i).level⟩ i := by
  simp only [engineInputChange, hup, hp, rawLevel, Bool.and_self, Bool.true_and]

/-- R80: the channel with the raw level of an input taken. -/
def Channel.taken (c : Channel) (i : EngineInput) : Channel := c.setInput ⟨(c.input i).raw, (c.input i).raw, false⟩ i

theorem taken_gear (c : Channel) (i : EngineInput) : (c.taken i).gear = c.gear := by cases i <;> rfl

/-- R86: the feedbacks, with the level taken, confirm the gear state. -/
theorem taken_confirms_iff (c : Channel) (i : EngineInput) : (c.taken i).confirms = true ↔
    (c.gear = .engagingAhead ∧ (c.taken i).aheadFb.level = true ∧ (c.taken i).asternFb.level = false) ∨
      (c.gear = .engagingAstern ∧ (c.taken i).asternFb.level = true ∧ (c.taken i).aheadFb.level = false) := by
  rw [Channel.confirms_iff, taken_gear]

section
variable (hp : s.settings.enginePresent e = true)
include hp

theorem inputFilterExpiry_feedback {i : EngineInput} (hi : i ≠ .running) (hh : (s.chans[e].input i).holding = true) :
    inputFilterExpiry e i s = confirmGear e (s.onChan e fun c => c.taken i) := by
  cases i
  case running => exact absurd rfl hi
  all_goals
    simp only [inputFilterExpiry, hp, hh, Bool.and_self, if_true]
    rfl

theorem inputFilterExpiry_running (hh : s.chans[e].running.holding = true) : inputFilterExpiry e .running s =
    if s.chans[e].running.raw then engineRuns e (s.onChan e fun c => c.taken .running)
    else enterStopped e (s.onChan e fun c => c.taken .running) := by
  simp only [inputFilterExpiry, Channel.input, hp, hh, Bool.and_self, if_true]
  rfl

end

/-- R84: the running input taken on. -/
theorem engineRuns_chan (e : Fin 4) (s : State) : (engineRuns e s).chans[e].running = s.chans[e].running ∧
    (s.chans[e].gear = .stopped → (engineRuns e s).chans[e].gear = if s.chans[e].fault = .none then s.outcome e else .fault) := by
  by_cases hg : s.chans[e].gear = .stopped
  · by_cases hf : s.chans[e].fault = .none
    · have hn : engineRuns e s = enterNeutral e s := by simp only [engineRuns, hg, hf, beq_self_eq_true, if_true]
      obtain ⟨x, hx⟩ := enterNeutral_chan e s
      rw [hn, hx]
      exact ⟨rfl, fun _ => (if_pos hf).symm⟩
    · have hn : engineRuns e s = engineReport e (s.onChan e fun c => { c with gear := .fault }) := by
        simp only [engineRuns, hg, beq_self_eq_true, beq_eq_false_iff_ne.2 hf, Bool.false_eq_true, if_true, if_false]
      rw [hn, shift_chan]
      exact ⟨rfl, fun _ => (if_neg hf).symm⟩
  · have hn : engineRuns e s = s := by simp only [engineRuns, beq_eq_false_iff_ne.2 hg, Bool.false_eq_true, if_false]
    rw [hn]
    exact ⟨rfl, fun h => absurd h hg⟩

/-- R80, R84: the hold of a running input ends. -/
theorem inputFilterExpiry_running_chan (hp : s.settings.enginePresent e = true) (hh : s.chans[e].running.holding = true) :
    let c := s.chans[e]
    let d := (inputFilterExpiry e .running s).chans[e]
    d.running = ⟨c.running.raw, c.running.raw, false⟩ ∧
    (c.running.raw = false → d = { (c.taken .running).timersStopped with
      gear := .stopped, follow := false, demand := s.settings.engine.idle[e] }) ∧
    (c.running.raw = true → c.gear = .stopped → d.gear = if c.fault = .none then s.outcome e else .fault) := by
  obtain ⟨w, hw⟩ : ∃ w, w = s.onChan e fun c => c.taken .running := ⟨_, rfl⟩
  have hset : w.settings = s.settings := by rw [hw]; rfl
  have hc : w.chans[e] = s.chans[e].taken .running := by rw [hw, onChan_same]
  have hout : w.outcome e = s.outcome e := by
    rw [hw, outcome_onChan]
    exact fun _ => ⟨rfl, rfl, rfl⟩
  dsimp only
  rw [inputFilterExpiry_running hp hh, ← hw]
  by_cases hr : s.chans[e].running.raw = true
  · obtain ⟨hrunning, hgear⟩ := engineRuns_chan e w
    rw [if_pos hr]
    refine ⟨hrunning.trans (by rw [hc]; rfl), fun h => absurd hr (Bool.eq_false_iff.1 h), fun _ hg => ?_⟩
    rw [hgear (by rw [hc]; exact hg), hout, hc]
    rfl
  · rw [if_neg hr, enterStopped_chan, hset, hc]
    exact ⟨rfl, fun _ => rfl, fun h => absurd h hr⟩

/-- Settles O44: a turn of SET_ENGINE_MODES by the mode and the gear state it finds, and the end of a hold by the input. -/
theorem modesAndInputsActOnTheirChannels : Obligations.ModesAndInputsActOnTheirChannels := by
  unfold Obligations.ModesAndInputsActOnTheirChannels
  refine ⟨fun s mask m1 m2 m3 m4 hup => ⟨fun hbad => ?_, fun hgood => ?_⟩, fun s e hup hp => ⟨fun i level => ?_, fun hh => ?_⟩,
    fun s e i hup hp hi hh => ?_, fun s mask m1 m2 m3 m4 e hup hp hgood hb hd => ?_⟩
  · exact exec_of_refusal hup (o := setEngineModes mask m1 m2 m3 m4) rfl (if_pos ((badMode_iff mask m1 m2 m3 m4).2 hbad))
  · obtain ⟨t, ht, hstate, hturn⟩ := exec_setEngineModes hup hgood
    refine ⟨t, ht, hstate, fun e => ?_⟩
    obtain ⟨u, hset, hprop, hc, htc⟩ := hturn e
    rw [htc, ← hc, ← hset, ← neutralOutcome_congr hprop hset]
    refine ⟨applyMode_demand _ _ _ _, fun hb => by rw [applyMode_unmasked hb], fun hb => applyMode_mode hb _ _,
      fun hb (hm : #v[m1, m2, m3, m4][e] = 1) hmode hg hp => ?_⟩
    rw [hm, applyMode_changes hb (by rw [hmode]; decide)]
    exact modeChanged_inUse_fault ((enginePresent_iff _ _).2 hp) hg
  · obtain ⟨hstate, hothers, hchan⟩ := onChan_only s e fun c =>
      c.setInput ⟨level, (c.input i).level, level != (c.input i).level⟩ i
    refine ⟨_, rfl, ?_⟩
    rw [engineInputChange_of_present hup ((enginePresent_iff _ _).2 hp)]
    exact ⟨hstate, hothers, hchan⟩
  · have ha : ActsOn e s (inputFilterExpiry e .running s) := actsOn_inputFilterExpiry (.refl s)
    obtain ⟨hrunning, hoff, hon⟩ := inputFilterExpiry_running_chan ((enginePresent_iff _ _).2 hp) hh
    refine ⟨_, whenUp_of_up hup (inputFilterExpiry e .running), ha.state, ha.others, hrunning, fun hr => ?_, hon⟩
    rw [hoff hr]
    exact ⟨rfl, rfl, rfl, rfl, rfl, rfl, rfl, rfl, rfl⟩
  · have ha : ActsOn e s (inputFilterExpiry e i s) := actsOn_inputFilterExpiry (.refl s)
    have hf := inputFilterExpiry_feedback ((enginePresent_iff _ _).2 hp) hi hh
    refine ⟨_, whenUp_of_up hup (inputFilterExpiry e i), ha.state, ha.others, fun hc => ?_, fun hc => ?_⟩
    · have hconf := (taken_confirms_iff s.chans[e] i).2 hc
      rw [hf, confirmGear_chan, onChan_same, Channel.confirmed, if_pos hconf, taken_gear]
      rfl
    · have hconf := Bool.eq_false_iff.2 (mt (taken_confirms_iff s.chans[e] i).1 hc)
      rw [hf, confirmGear_of_not_confirms (by rw [onChan_same]; exact hconf)]
      exact ⟨onChan_same s e fun c => c.taken i, rfl⟩
  · have hgood' : ¬∃ f : Fin 4, mask.testBit f.val = true ∧ #v[m1, m2, m3, m4][f] ≠ 1 ∧ #v[m1, m2, m3, m4][f] ≠ 2 :=
      fun ⟨f, hf, h1, h2⟩ => (hgood f hf).elim h1 h2
    obtain ⟨t, ht, -, hturn⟩ := exec_setEngineModes hup hgood'
    obtain ⟨u, hset, hprop, hc, htc⟩ := hturn e
    refine ⟨t, ht, ?_⟩
    dsimp only
    rw [htc, ← hc, ← hset, ← neutralOutcome_congr hprop hset]
    rw [← hset, ← enginePresent_iff] at hp
    rw [← hset] at hd
    refine ⟨fun hm hmode => ?_, fun hm hmode => ?_⟩
    · have ha : applyMode mask e 2 u = modeChanged e .standby u := applyMode_changes hb (by rw [hmode]; decide)
      rw [hm, ha]
      exact ⟨modeChanged_standby_quiet hp, fun hg => disengaged_fields (modeChanged_standby_engaging hp hd hg), fun hg =>
        ⟨fun hi => disengaged_fields ((modeChanged_standby_engaged hp hg).1 hd hi), (modeChanged_standby_engaged hp hg).2⟩⟩
    · have ha : applyMode mask e 1 u = modeChanged e .inUse u := applyMode_changes hb (by rw [hmode]; decide)
      rw [hm, ha]
      exact ⟨modeChanged_inUse_neutral hp, modeChanged_inUse_else hp⟩

end Sys2Proof.Machine
end

section
/-! ### R103, R107, R112: passes over the rudders, the steering recomputation and the degraded test -/

namespace Sys2Proof.Machine

variable {s t u : State} {r : Fin 8} {g : Rudder → Rudder}

/-! #### One turn of each rudder -/

/-- The rudders may have changed, and reports may have been queued; the rest of the state stands. -/
def BesidesRudders (s t : State) : Prop :=
  t = { s with port := t.port, steer := { s.steer with rudders := t.steer.rudders } }

/-- The turn of rudder `r` in a pass: it becomes what `g` makes of it, and reports may be queued. -/
def TurnsRudder (r : Fin 8) (g : Rudder → Rudder) (s t : State) : Prop := t = { s.onRudder r g with port := t.port }

theorem BesidesRudders.refl (s : State) : BesidesRudders s s := rfl

theorem BesidesRudders.trans (h : BesidesRudders s t) (h' : BesidesRudders t u) : BesidesRudders s u := by
  unfold BesidesRudders at *
  rw [h', h]

theorem BesidesRudders.settings (h : BesidesRudders s t) : t.settings = s.settings := by
  rw [h]
  rfl

theorem turnsRudder_stays (hg : ∀ x, x = s.steer.rudders[r] → g x = x) : TurnsRudder r g s s := by
  simp [TurnsRudder, State.onRudder, State.onSteer, hg]

theorem turnsRudder_onRudder {f g : Rudder → Rudder} (hf : f s.steer.rudders[r] = g s.steer.rudders[r]) :
    TurnsRudder r g s (s.onRudder r f) := by
  have he : s.onRudder r f = s.onRudder r g := by simp only [State.onRudder, State.onSteer, hf]
  rw [TurnsRudder, he]

theorem TurnsRudder.report {k : ReportKind} {b : Subject} {d : List Byte} (h : TurnsRudder r g s t) :
    TurnsRudder r g s (report k b d t) := by
  unfold TurnsRudder at *
  rw [report_eq, h]

theorem TurnsRudder.besides (h : TurnsRudder r g s t) : BesidesRudders s t := by
  unfold BesidesRudders
  rw [h]
  rfl

theorem TurnsRudder.own (h : TurnsRudder r g s t) : t.steer.rudders[r] = g s.steer.rudders[r] := by
  rw [h]
  exact onRudder_same s r g

theorem TurnsRudder.other (h : TurnsRudder r g s t) {q : Fin 8} (hq : q ≠ r) : t.steer.rudders[q] = s.steer.rudders[q] := by
  rw [h]
  exact onRudder_other s g hq

/-- A pass over distinct rudders takes each of them once, and acts on nothing else. -/
theorem forAll_turnsRudder {f : Fin 8 → State → State} {g : Fin 8 → Rudder → Rudder} {l : List (Fin 8)} (hl : l.Nodup)
    (hturn : ∀ r u, BesidesRudders s u → TurnsRudder r (g r) u (f r u)) (hs : BesidesRudders s t) :
    BesidesRudders s (forAll l f t) ∧
      ∀ r, (forAll l f t).steer.rudders[r] = if r ∈ l then g r t.steer.rudders[r] else t.steer.rudders[r] := by
  induction l generalizing t with
  | nil => exact ⟨hs, fun r => by simp⟩
  | cons a l ih =>
    obtain ⟨ha, hl⟩ := List.nodup_cons.1 hl
    have hta := hturn a t hs
    obtain ⟨hb, hr⟩ := ih hl (hs.trans hta.besides)
    refine ⟨hb, fun r => (hr r).trans ?_⟩
    by_cases h : r = a
    · subst h
      simp [ha, hta.own]
    · simp [h, hta.other h]

theorem forAllRudders_turns {f : Fin 8 → State → State} {g : Fin 8 → Rudder → Rudder}
    (hturn : ∀ r u, BesidesRudders s u → TurnsRudder r (g r) u (f r u)) :
    BesidesRudders s (forAll allRudders f s) ∧ ∀ r, (forAll allRudders f s).steer.rudders[r] = g r s.steer.rudders[r] := by
  obtain ⟨hb, hr⟩ := forAll_turnsRudder (l := allRudders) (by decide) hturn (.refl s)
  exact ⟨hb, fun r => (hr r).trans (if_pos (by fin_cases r <;> decide))⟩

/-! #### R106: the turn of a control period -/

/-- R106 to R110: what a control period makes of a present rudder. -/
def Rudder.period (p : SteeringSettings) (r : Fin 8) (raw : Nat) (x : Rudder) : Rudder :=
  let y := x.sampled p r raw
  if y.sampleValid = false ∧ y.state ≠ .feedbackLost then y.loseFeedback
  else if y.state = .ok then y.followUp p
  else y

theorem Rudder.followUp_target (p : SteeringSettings) (x : Rudder) : (x.followUp p).target = x.target := by
  simp only [Rudder.followUp]
  repeat' split
  all_goals rfl

theorem Rudder.sampled_target (p : SteeringSettings) (r : Fin 8) (raw : Nat) (x : Rudder) :
    (x.sampled p r raw).target = x.target := by
  unfold Rudder.sampled
  split <;> rfl

theorem Rudder.period_target (p : SteeringSettings) (r : Fin 8) (raw : Nat) (x : Rudder) : (x.period p r raw).target = x.target := by
  simp only [Rudder.period]
  repeat' split
  · exact x.sampled_target p r raw
  · exact (Rudder.followUp_target p _).trans (x.sampled_target p r raw)
  · exact x.sampled_target p r raw

theorem onRudder_onRudder (s : State) (r : Fin 8) (f g : Rudder → Rudder) :
    (s.onRudder r f).onRudder r g = s.onRudder r fun x => g (f x) := by
  simp [State.onRudder, State.onSteer]

theorem rudderPeriod_present {raw : Nat} (hp : s.settings.rudderPresent r = true) :
    TurnsRudder r (Rudder.period s.settings.steering r raw) s (rudderPeriod r raw s) := by
  have hset (f : Rudder → Rudder) : (s.onRudder r f).settings = s.settings := rfl
  simp only [rudderPeriod, hp, if_true, onRudder_onRudder, onRudder_same, hset, Bool.and_eq_true, Bool.not_eq_true', bne_iff_ne,
    beq_iff_eq]
  split
  next hlost => exact (turnsRudder_onRudder (by simp only [Rudder.period, if_pos hlost])).report
  next hkept =>
    split
    next hok =>
      have hturn : TurnsRudder r (Rudder.period s.settings.steering r raw) s
          (s.onRudder r fun x => Rudder.followUp s.settings.steering (x.sampled s.settings.steering r raw)) :=
        turnsRudder_onRudder (by simp only [Rudder.period, if_neg hkept, if_pos hok])
      exact keeps_ite hturn.report hturn
    next hfault => exact turnsRudder_onRudder (by simp only [Rudder.period, if_neg hkept, if_neg hfault])

/-- What a control period makes of a rudder: an absent one stands. -/
def Settings.periodOf (t : Settings) (r : Fin 8) (raw : Nat) (x : Rudder) : Rudder :=
  if t.rudderPresent r then x.period t.steering r raw else x

theorem Settings.periodOf_target (t : Settings) (r : Fin 8) (raw : Nat) (x : Rudder) : (t.periodOf r raw x).target = x.target := by
  unfold Settings.periodOf
  split
  · exact x.period_target t.steering r raw
  · rfl

/-- R106: the turn of a rudder in a control period. -/
theorem rudderPeriod_turns (r : Fin 8) (raw : Nat) (s : State) :
    TurnsRudder r (s.settings.periodOf r raw) s (rudderPeriod r raw s) := by
  by_cases hp : s.settings.rudderPresent r = true
  · have hg : s.settings.periodOf r raw = Rudder.period s.settings.steering r raw := funext fun _ => if_pos hp
    exact hg ▸ rudderPeriod_present hp
  · have hstays : rudderPeriod r raw s = s := if_neg hp
    rw [hstays]
    exact turnsRudder_stays fun _ _ => if_neg hp

/-! #### R103, R107: the recomputation -/

theorem rudderTarget_of_besides (h : BesidesRudders s t) (r : Fin 8) : t.rudderTarget r = s.rudderTarget r := by
  rw [h]
  rfl

/-- R107: each present rudder takes its target. -/
theorem setTargets_turns (s : State) : BesidesRudders s (setTargets s) ∧ ∀ r, (setTargets s).steer.rudders[r] =
    if s.settings.rudderPresent r then { s.steer.rudders[r] with target := s.rudderTarget r } else s.steer.rudders[r] := by
  refine forAllRudders_turns (g := fun r x => if s.settings.rudderPresent r then { x with target := s.rudderTarget r } else x)
    fun r u hu => ?_
  rw [hu.settings]
  split
  next h => exact turnsRudder_onRudder (by simp [rudderTarget_of_besides hu])
  next h => exact turnsRudder_stays fun x _ => by simp

/-- R103: what the recomputation writes. -/
theorem steeringRecompute_eq (s : State) : steeringRecompute s = { s with steer := { s.steer with
    rudders := (setTargets s).steer.rudders, trim := s.trimNow, bowDemand := s.bowDemandNow } } := by
  have hp : (setTargets s).port = s.port := (setTargets_frame s).1
  rw [steeringRecompute, (setTargets_turns s).1, hp]
  rfl

theorem steeringRecompute_rudder (s : State) (r : Fin 8) : (steeringRecompute s).steer.rudders[r] =
    if s.settings.rudderPresent r then { s.steer.rudders[r] with target := s.rudderTarget r } else s.steer.rudders[r] := by
  rw [steeringRecompute_eq]
  exact (setTargets_turns s).2 r

/-! #### R112: the degraded test -/

/-- Rudders, degraded mark, trim and bow demand may have changed, and reports may have been queued; the rest of the state stands. -/
def SteersOnly (s t : State) : Prop := t = { s with
  port := t.port, steer := { t.steer with helm := s.steer.helm, mode := s.steer.mode, bows := s.steer.bows } }

theorem SteersOnly.trans (h : SteersOnly s t) (h' : SteersOnly t u) : SteersOnly s u := by
  unfold SteersOnly at *
  rw [h', h]

theorem BesidesRudders.steersOnly (h : BesidesRudders s t) : SteersOnly s t := by
  unfold SteersOnly
  rw [h]

theorem SteersOnly.settings (h : SteersOnly s t) : t.settings = s.settings := by
  rw [h]
  rfl

theorem SteersOnly.state (h : SteersOnly s t) : t = { s with port := t.port, steer := t.steer } := by
  rw [h]

theorem SteersOnly.kept (h : SteersOnly s t) :
    t.steer.helm = s.steer.helm ∧ t.steer.mode = s.steer.mode ∧ t.steer.bows = s.steer.bows := by
  rw [h]
  exact ⟨rfl, rfl, rfl⟩

theorem steersOnly_steeringRecompute (s : State) : SteersOnly s (steeringRecompute s) := by
  rw [SteersOnly, steeringRecompute_eq]

/-- R112: no present steering rudder is in OK. -/
theorem noSteeringRudder_iff (s : State) : s.noSteeringRudder = true ↔
    ∀ r : Fin 8, r.val < 4 → s.settings.rudderPresent r = true → s.steer.rudders[r].state ≠ .ok := by
  have hm (r : Fin 8) : r ∈ allRudders := by fin_cases r <;> decide
  simp only [State.noSteeringRudder, List.all_eq_true, hm, forall_const, Bool.not_eq_true', Bool.and_eq_false_iff, decide_eq_false_iff_not,
    beq_eq_false_iff_ne, ne_eq]
  refine forall_congr' fun r => ?_
  rw [← Bool.not_eq_true]
  tauto

/-- Targets, degraded mark, trim and bow demand may have changed, and reports may have been queued; the rest of the state stands. -/
structure Retargets (s t : State) : Prop where
  steers : SteersOnly s t
  rudder : ∀ r : Fin 8, ∃ v, t.steer.rudders[r] =
    if s.settings.rudderPresent r then { s.steer.rudders[r] with target := v } else s.steer.rudders[r]

theorem retargets_of_rudders (hs : SteersOnly s t) (hr : t.steer.rudders = s.steer.rudders) : Retargets s t :=
  ⟨hs, fun r => ⟨s.steer.rudders[r].target, by rw [hr, ite_self]⟩⟩

theorem Retargets.trans (h : Retargets s t) (h' : Retargets t u) : Retargets s u where
  steers := h.steers.trans h'.steers
  rudder r := by
    obtain ⟨v, hv⟩ := h.rudder r
    obtain ⟨w, hw⟩ := h'.rudder r
    refine ⟨w, ?_⟩
    rw [hw, hv, h.steers.settings]
    split <;> rfl

theorem Retargets.state (h : Retargets s t) (r : Fin 8) : t.steer.rudders[r].state = s.steer.rudders[r].state := by
  obtain ⟨v, hv⟩ := h.rudder r
  rw [hv]
  split <;> rfl

theorem Retargets.noSteeringRudder (h : Retargets s t) : t.noSteeringRudder = s.noSteeringRudder := by
  unfold State.noSteeringRudder
  simp only [h.steers.settings, h.state]

theorem retargets_steeringRecompute (s : State) : Retargets s (steeringRecompute s) :=
  ⟨steersOnly_steeringRecompute s, fun r => ⟨_, steeringRecompute_rudder s r⟩⟩

theorem steeringRecompute_degraded (s : State) : (steeringRecompute s).steer.degraded = s.steer.degraded := by
  rw [steeringRecompute_eq]

theorem retargets_degradedTest (s : State) : Retargets s (degradedTest s) := by
  have marked (b : Bool) : Retargets s (s.onSteer fun x => { x with degraded := b }) := retargets_of_rudders rfl rfl
  have reported {t : State} {k : ReportKind} {b : Subject} {d : List Byte} : Retargets t (report k b d t) := retargets_of_rudders rfl rfl
  simp only [degradedTest]
  repeat' split
  · exact retargets_of_rudders rfl rfl
  · exact ((marked true).trans reported).trans (retargets_steeringRecompute _)
  · exact (marked false).trans (retargets_steeringRecompute _)
  · exact retargets_of_rudders rfl rfl

/-- R112: steering is degraded exactly when no present steering rudder is in OK. -/
theorem degradedTest_degraded (s : State) : (degradedTest s).steer.degraded = s.noSteeringRudder := by
  simp only [degradedTest]
  repeat' split
  next hn hd => rw [hd, hn]
  next hn _ =>
    rw [steeringRecompute_degraded, hn]
    rfl
  next hn _ =>
    rw [steeringRecompute_degraded, Bool.eq_false_iff.2 hn]
    rfl
  next hn hd => rw [Bool.eq_false_iff.2 hd, Bool.eq_false_iff.2 hn]

end Sys2Proof.Machine
end

section
/-! ### R103, R107, R114, R118: targets, trim and bow demand follow what they are made of -/

namespace Sys2Proof.Machine

variable {s t : State}

theorem dir_astern (s : State) : (s.dir == .astern) = decide (s.prop.le < 0) := by
  unfold State.dir dirOf
  rcases lt_trichotomy s.prop.le 0 with h | h | h
  · simp [h, h.not_gt]
  · simp [h]
  · simp [h, h.not_gt]

theorem trimNow_eq (s : State) : s.trimNow = if s.prop.le = 0 ∨ (s.steer.mode = .rudder ∧ s.steer.degraded = false) then 0
    else if 0 < s.prop.le then s.trimAhead else -s.trimAhead := by
  have hd : (s.steer.mode == .rudder && !s.steer.degraded) = decide (s.steer.mode = .rudder ∧ s.steer.degraded = false) := by
    cases s.steer.mode <;> simp
  unfold State.trimNow State.dir dirOf
  rw [hd]
  rcases lt_trichotomy s.prop.le 0 with h | h | h
  · simp [h, h.ne, h.not_gt]
  · simp [h]
  · simp [h, h.ne']

theorem steeringOk_iff (s : State) : SteeringOk s ↔ s.steer.trim = s.trimNow ∧ s.steer.bowDemand = s.bowDemandNow ∧
    ∀ r : Fin 8, s.settings.rudderPresent r = true → s.steer.rudders[r].target = s.rudderTarget r := by
  have hb : s.bowDemandNow = if s.steer.mode = .full ∨ s.steer.degraded = true then
      clamp (-1000) 1000 (roundHalfAway (s.steer.helm * s.settings.steering.bowGain) 1000) else 0 := by
    simp [State.bowDemandNow, State.bowsUsed]
  have ht (r : Fin 8) : s.rudderTarget r = if r.val < 4 then roundHalfAway (s.steer.helm * s.settings.steering.maxSteering) 1000
      else if s.prop.le < 0 then roundHalfAway (-s.steer.helm * s.settings.steering.maxFlanking) 1000 else 0 := by
    simp only [State.rudderTarget, dir_astern, decide_eq_true_eq]
  simp only [trimNow_eq, hb, ht]
  exact Iff.rfl

/-- The figures of the Steering Controller that R103 relates: what targets, trim and bow demand are made of, and they themselves. -/
def Steering.figures (x : Steering) : Int × SteerMode × Bool × Int × Int × Vector Int 8 :=
  (x.helm, x.mode, x.degraded, x.trim, x.bowDemand, x.rudders.map (·.target))

/-- What targets, trim and bow demand take from the STEERING settings. -/
def SteeringSettings.figures (p : SteeringSettings) : Int × Int × Int × Int × Int × Int :=
  (p.steeringCount, p.flankingCount, p.maxSteering, p.maxFlanking, p.diffGain, p.bowGain)

/-- Targets, trim and bow demand, and what they are made of, are as they were. -/
structure SameSteering (s t : State) : Prop where
  dir : t.dir = s.dir := by simp [State.dir]
  steer : t.steer.figures = s.steer.figures := by simp
  settings : t.settings.steering.figures = s.settings.steering.figures := by simp [settings_eq]

theorem SteeringOk.of_same (hs : SteeringOk s) (h : SameSteering s t) : SteeringOk t := by
  obtain ⟨hdir, hsteer, hset⟩ := h
  simp only [Steering.figures, Prod.mk.injEq] at hsteer
  simp only [SteeringSettings.figures, Prod.mk.injEq] at hset
  obtain ⟨hhelm, hmode, hdegraded, htrim, hbow, htargets⟩ := hsteer
  obtain ⟨hsc, hfc, hmaxs, hmaxf, hdg, hbg⟩ := hset
  have htarget (r : Fin 8) : t.steer.rudders[r].target = s.steer.rudders[r].target := by
    simpa using congrArg (fun v : Vector Int 8 => v[r]) htargets
  have htrims : t.trimNow = s.trimNow := by
    rw [State.trimNow, State.trimAhead, State.gain, hdir, hhelm, hmode, hdegraded, hdg, State.trimNow, State.trimAhead, State.gain]
  have hbows : t.bowDemandNow = s.bowDemandNow := by
    rw [State.bowDemandNow, State.bowsUsed, hhelm, hmode, hdegraded, hbg, State.bowDemandNow, State.bowsUsed]
  have hpresent (r : Fin 8) : t.settings.rudderPresent r = s.settings.rudderPresent r := by
    rw [Settings.rudderPresent, hsc, hfc, Settings.rudderPresent]
  have hnow (r : Fin 8) : t.rudderTarget r = s.rudderTarget r := by
    rw [State.rudderTarget, hdir, hhelm, hmaxs, hmaxf, State.rudderTarget]
  rw [steeringOk_iff] at hs ⊢
  rw [htrim, hbow, htrims, hbows]
  exact ⟨hs.1, hs.2.1, fun r hr => (htarget r).trans ((hs.2.2 r (hpresent r ▸ hr)).trans (hnow r).symm)⟩

/-- R103: the recomputation makes every figure what the rest gives. -/
theorem steeringRecompute_steeringOk (s : State) : SteeringOk (steeringRecompute s) := by
  have hset : (steeringRecompute s).settings = s.settings := by simp [settings_eq]
  have htarget (r : Fin 8) : (steeringRecompute s).rudderTarget r = s.rudderTarget r := by
    rw [steeringRecompute_eq]
    rfl
  refine (steeringOk_iff _).2 ⟨?_, ?_, fun r hr => ?_⟩
  · rw [steeringRecompute_eq]
    rfl
  · rw [steeringRecompute_eq]
    rfl
  · rw [hset] at hr
    rw [htarget, steeringRecompute_rudder, if_pos hr]

/-! #### R67, R101, R106, R112: what brings a recomputation -/

/-- R67: a recomputation of Le brings the steering recomputation where D changes. -/
theorem recomputeLe_steeringOk (h : SteeringOk s) : SteeringOk (recomputeLe s) := by
  have turned (u : State) : SteeringOk (directionChanged u) :=
    forAll_induct _ _ _ (fun _ _ _ hu => hu.of_same {}) (steeringRecompute_steeringOk _)
  simp only [recomputeLe]
  split
  · exact h
  · split
    next hd => exact h.of_same { dir := hd }
    next => exact turned _

/-- R101: a changed helm brings the steering recomputation. -/
theorem setHelmTo_steeringOk (x : Int) (h : SteeringOk s) : SteeringOk (setHelmTo x s) :=
  keeps_ite h (steeringRecompute_steeringOk _)

/-- R112: a degraded mark that changes brings the steering recomputation. -/
theorem degradedTest_steeringOk (h : SteeringOk s) : SteeringOk (degradedTest s) :=
  keeps_ite (keeps_ite h (steeringRecompute_steeringOk _)) (keeps_ite (steeringRecompute_steeringOk _) h)

/-- R106: a turn that leaves the target of its rudder leaves the figures. -/
theorem TurnsRudder.figures {r : Fin 8} {g : Rudder → Rudder} (h : TurnsRudder r g s t) (hg : ∀ x, (g x).target = x.target) :
    t.steer.figures = s.steer.figures := by
  have htargets : (s.steer.rudders.set r (g s.steer.rudders[r])).map (·.target) = s.steer.rudders.map (·.target) := by
    refine Vector.ext fun i hi => ?_
    by_cases hr : r.val = i
    · subst hr
      simp [hg]
    · simp [hr]
  have hrudders : t.steer = { s.steer with rudders := s.steer.rudders.set r (g s.steer.rudders[r]) } := by
    rw [h]
    rfl
  rw [hrudders, Steering.figures, htargets]
  rfl

end Sys2Proof.Machine
end

section
/-! ### R103: targets, trim and bow demand follow the helm, the direction and the mode, after any step

An operation keeps the invariant where it leaves the figures, where it recomputes Le, or where it ends in the steering recomputation. -/

namespace Sys2Proof.Machine

variable {s t : State}

/-! #### The Bow Unit List, tables and orders -/

@[simp] theorem onBow_figures (n : Nat) (f : BowUnit → BowUnit) (s : State) :
    (s.onBow n f).steer.figures = s.steer.figures := rfl

@[simp] theorem addBow_figures (u : BowUnit) (s : State) : (addBow u s).steer.figures = s.steer.figures := rfl

@[simp] theorem dropBow_figures (p : Pos) (s : State) : (dropBow p s).steer.figures = s.steer.figures := rfl

/-- The operations of the Barge Line act on the Bow Unit List alone of the Steering Controller's figures. -/
theorem line_steeringOk : LineKeeps SteeringOk where
  report _ _ _ h := h.of_same {}
  node _ _ _ h := h.of_same {}
  bow _ _ h := h.of_same {}
  freed _ h := h.of_same {}
  requeued _ _ _ _ _ h := h.of_same {}
  started _ _ _ _ h := h.of_same {}
  command _ _ _ h := h.of_same {}
  coupling _ _ _ _ h := h.of_same {}
  line _ _ h := h.of_same {}
  struck _ h := h.of_same {}
  joined _ _ _ h := h.of_same {}
  classified _ _ h := h.of_same {}
  tension _ _ _ _ h := h.of_same {}
  cast _ h := h.of_same {}

theorem ccapRecompute_steeringOk (b : Bool) (h : SteeringOk s) : SteeringOk (ccapRecompute b s) := by
  have ht : SteeringOk (if s.ccapNow = s.sup.ccap then s else recomputeLe (s.onSup fun u => { u with ccap := s.ccapNow })) :=
    keeps_ite h (recomputeLe_steeringOk h)
  unfold ccapRecompute
  exact keeps_ite (ht.of_same {}) ht

theorem fcapRecompute_steeringOk (h : SteeringOk s) : SteeringOk (fcapRecompute s) := by
  have ht : SteeringOk (if s.fcapNow = s.fuel.fcap then s else recomputeLe (s.onFuel fun f => { f with fcap := s.fcapNow })) :=
    keeps_ite h (recomputeLe_steeringOk h)
  have tested {u : State} (hu : SteeringOk u) : SteeringOk (reserveTest u) := hu.of_same {}
  unfold fcapRecompute
  exact tested (keeps_ite (ht.of_same {}) ht)

theorem settle_steeringOk (h : SteeringOk s) : SteeringOk (settle s) :=
  SettleKeeps.settle (N := fun _ => True)
    { toStartKeeps := line_steeringOk.toStartKeeps
      due := fun _ h => h
      analysed := fun h => ccapRecompute_steeringOk _ (h.of_same {}) } h

theorem finish_steeringOk (h : SteeringOk s) : SteeringOk (finish s) := by
  have hs := settle_steeringOk h
  unfold finish
  exact hs.of_same {}

/-! #### Lever, helm and silence -/

theorem zeroCommand_steeringOk (h : SteeringOk s) : SteeringOk (zeroCommand s) := by
  have hz : SteeringOk (recomputeLe (setHelmTo 0 (s.onProp fun p => { p with phase := .zeroed, holdTimer := none, lever := 0 }))) :=
    recomputeLe_steeringOk (setHelmTo_steeringOk 0 h)
  unfold zeroCommand
  exact hz.of_same {}

theorem silenceLimitExpiry_steeringOk (h : SteeringOk s) : SteeringOk (silenceLimitExpiry s) := by
  have held (x : Timer) (d : List Byte) : SteeringOk (sourceReport (report .bridgeSilent .nothing d
      (s.onProp fun p => { p with phase := .hold, silenceTimer := none, holdTimer := x }))) := h.of_same {}
  unfold silenceLimitExpiry
  exact keeps_ite (keeps_ite (zeroCommand_steeringOk (held _ _)) (held _ _)) h

theorem sameSteering_clearLatch (l : Int) (s : State) : SameSteering s (clearLatch l s) where
  dir := by rw [State.dir, clearLatch_prop]; rfl

theorem sameSteering_endSilence (s : State) : SameSteering s (endSilence s) where
  dir := by rw [State.dir, endSilence_prop]; rfl

theorem restartSilence_steeringOk (h : SteeringOk s) : SteeringOk (restartSilence s) := h

theorem takeLever_steeringOk (v : Int) (h : SteeringOk s) : SteeringOk (takeLever v s) := by
  have hv (l : Int) : SteeringOk (clearLatch l (s.onProp fun p => { p with lever := l })) :=
    SteeringOk.of_same (s := s.onProp fun p => { p with lever := l }) h (sameSteering_clearLatch l _)
  exact recomputeLe_steeringOk ((restartSilence_steeringOk (hv _)).of_same (sameSteering_endSilence _))

theorem setHelm_steeringOk (v : Int) (h : SteeringOk s) : SteeringOk (setHelm v s).1 := by
  unfold setHelm
  split
  · exact h
  · exact (restartSilence_steeringOk (setHelmTo_steeringOk _ h)).of_same (sameSteering_endSilence _)

theorem controlPeriodExpiry_steeringOk (b : Bool) (x y : Nat) (h : SteeringOk s) : SteeringOk (controlPeriodExpiry b x y s) := by
  have hf : SteeringOk (followTakeover b s) := by
    unfold followTakeover
    split
    · exact h.of_same {}
    · exact h.of_same { dir := by simp [State.dir, restartSilence] }
    · exact h
    · exact h
  have hd {u : State} (hu : SteeringOk u) : SteeringOk (deliverBackup x y u) := by
    have hl (l : Int) : SteeringOk (clearLatch l (u.onProp fun p => { p with lever := l })) :=
      SteeringOk.of_same (s := u.onProp fun p => { p with lever := l }) hu (sameSteering_clearLatch l _)
    unfold deliverBackup
    exact keeps_ite (setHelmTo_steeringOk _ (recomputeLe_steeringOk (hl _))) hu
  exact finish_steeringOk (forAll_induct _ _ _ (fun _ _ _ hu => hu.of_same {}) (settle_steeringOk (hd hf)))

/-! #### The rudders -/

theorem steeringControlPeriod_steeringOk (v : Vector Nat 8) (h : SteeringOk s) : SteeringOk (steeringControlPeriod v s) := by
  have hp : SteeringOk (forAll allRudders (fun r s => rudderPeriod r v[r] s) s) :=
    forAll_induct _ _ _ (fun r _ _ hu => hu.of_same { steer := (rudderPeriod_turns r _ _).figures (Settings.periodOf_target _ r _) }) h
  unfold steeringControlPeriod
  exact keeps_ite hp (degradedTest_steeringOk hp)

/-- R104: SET_STEER_MODE ends in the steering recomputation. -/
theorem setSteerMode_steeringOk (m : Nat) (h : SteeringOk s) : SteeringOk (setSteerMode m s).1 := by
  unfold setSteerMode
  split
  · exact h
  · exact steeringRecompute_steeringOk _

end Sys2Proof.Machine
end

section
/-! ### R103: the requests and events that bring no change of the helm or the mode, and every step -/

namespace Sys2Proof.Machine

variable {s t : State}

/-! #### Writing a setting -/

theorem steeringPut_figures {num : Nat} (h : num ∉ [1, 2, 7, 8, 12, 13]) (p : SteeringSettings) (idx : Nat) (v : Int) :
    (p.put num idx v).figures = p.figures := by
  unfold SteeringSettings.put
  split <;> first | rfl | simp at h

/-- R107, R112, R121: a STEERING write that reaches targets, trim or bow demand brings the steering recomputation. -/
theorem steeringWrite_steeringOk (num idx : Nat) (v : Int) (was : Settings) (h : SteeringOk s) :
    SteeringOk (ownerSteering was num (storeValue .steering num idx v s)) := by
  unfold ownerSteering
  split
  · exact steeringRecompute_steeringOk _
  · split
    · exact steeringRecompute_steeringOk _
    · next hcount hgain =>
      have hput : (storeValue .steering num idx v s).settings.steering = s.settings.steering.put num idx v := rfl
      exact h.of_same ⟨rfl, rfl, hput ▸ steeringPut_figures (by simp; omega) _ _ _⟩

/-- R185: the other owners reach the Steering Controller by Le alone. -/
theorem ownerActs_steeringOk {c : Sec} (hc : c ≠ .steering) (num idx : Nat) (old v : Int) (was : Settings) (h : SteeringOk s) :
    SteeringOk (ownerActs c num idx old v was s) := by
  cases c
  case steering => exact absurd rfl hc
  case engine =>
    simp only [ownerActs, ownerEngine]
    repeat' split
    · exact h
    · exact h.of_same {}
    · exact h.of_same {}
    · exact recomputeLe_steeringOk h
    · exact h
  case coupling =>
    simp only [ownerActs, ownerCoupling]
    repeat' split
    · exact h
    · exact ccapRecompute_steeringOk _ h
    · exact h
    · exact h
  case fuel =>
    simp only [ownerActs, ownerFuel]
    repeat' split
    · exact fcapRecompute_steeringOk h
    · exact fcapRecompute_steeringOk (h.of_same {})
    · exact h.of_same {}
    · exact h.of_same {}
    · exact fcapRecompute_steeringOk h
    · exact fcapRecompute_steeringOk h
    · exact h
  case backup => exact h

theorem storeValue_steeringOk {c : Sec} (hc : c ≠ .steering) (num idx : Nat) (v : Int) (h : SteeringOk s) :
    SteeringOk (storeValue c num idx v s) := by
  cases c
  case steering => exact absurd rfl hc
  all_goals exact h

theorem writeSetting_steeringOk (sec num idx : Nat) (v : Int) (h : SteeringOk s) : SteeringOk (writeSetting sec num idx v s).1 := by
  unfold writeSetting
  split
  · exact h
  · next c old _ =>
    split
    · exact h
    · dsimp only
      refine finish_steeringOk ?_
      by_cases hc : c = .steering
      · subst hc
        exact steeringWrite_steeringOk num idx v _ h
      · exact ownerActs_steeringOk hc _ _ _ _ _ (storeValue_steeringOk hc num idx v h)

/-! #### Declarations and removals -/

theorem dueAnalysis_steeringOk (h : SteeringOk s) : SteeringOk (dueAnalysis s) := h

theorem addBarge_steeringOk (p : Pos) (hull light cargo : Nat) (bow : Option Nat) (h : SteeringOk s) :
    SteeringOk (addBarge p hull light cargo bow s) := by
  have hb : SteeringOk (askCheckpoint (bargeReport p (s.onSup fun u =>
      { u with barges := insertBarge ⟨p, hull, light, cargo, bow, .expected, true, false⟩ u.barges }))) := h.of_same {}
  refine dueAnalysis_steeringOk ?_
  unfold claimBow
  split
  · exact line_steeringOk.newClaim _ (hb.of_same {})
  · exact hb

theorem removeRecord_steeringOk (p : Pos) (cs : List Coupling) (h : SteeringOk s) : SteeringOk (removeRecord p cs s) := by
  simp only [removeRecord]
  refine line_steeringOk.giveDepartures _ (dueAnalysis_steeringOk ?_)
  exact h.of_same {}

theorem breakaway_steeringOk (p : Pos) (h : SteeringOk s) : SteeringOk (breakaway p s) := by
  have ho : SteeringOk (forAll (s.liveOrders.filter fun x => s.orderEndsAt p x.2)
      (fun x => completeOrder x.1 (.ofWire .cancelled none)) s) :=
    forAll_induct _ _ s (fun _ _ _ hu => line_steeringOk.completeOrder _ _ hu) h
  have hr {u : State} (hu : SteeringOk u) : SteeringOk (u.onSettling fun x => { x with makeup := true }) := hu
  exact hr (removeRecord_steeringOk p (s.couplingsAt p) ho)

/-! #### Fuel orders and intervals -/

theorem testTransfer_steeringOk (h : SteeringOk s) : SteeringOk (testTransfer s) := by
  simp only [testTransfer]
  split
  · exact h
  · exact keeps_ite (line_steeringOk.completeOrder _ _ (h.of_same {})) (h.of_same {})

theorem testBunker_steeringOk (h : SteeringOk s) : SteeringOk (testBunker s) := by
  simp only [testBunker]
  split
  · exact h
  · refine keeps_ite (line_steeringOk.completeOrder _ _ h) ?_
    split
    · exact line_steeringOk.completeOrder _ _ (h.of_same {})
    · exact h.of_same {}

theorem accountingInterval_steeringOk (v : Vector (Option Int) 10) (h : SteeringOk s) : SteeringOk (accountingInterval v s) := by
  have hb : SteeringOk (bookBunker (bookTransfer (forAll allEngines bookEngine (forAll allMeters correctMeter
      (forAll allMeters (fun m => takeTemperature m v[m]) s))))) := h.of_same {}
  have tested {u : State} (hu : SteeringOk u) : SteeringOk (forAll allTanks tankTests u) := hu.of_same {}
  exact finish_steeringOk (fcapRecompute_steeringOk (tested (testBunker_steeringOk (testTransfer_steeringOk hb))))

/-! #### Requests and events -/

theorem postOrder_steeringOk (n : Nat) (x : OrderSpec) (h : SteeringOk s) : SteeringOk (postOrder n x s).1 := by
  unfold postOrder
  split
  · exact h
  · exact h
  · dsimp only
    exact finish_steeringOk (line_steeringOk.placeOrder _ _ _ _ fun _ => h.of_same {})

theorem abortOrder_steeringOk (n : Nat) (h : SteeringOk s) : SteeringOk (abortOrder n s).1 := by
  have put (i : Fin 16) (p : Option Order) : SteeringOk (s.setSlot i p) := h
  have wound (i : Fin 16) (o : Order) : SteeringOk (windDown i o s) := by
    unfold windDown
    split
    · exact line_steeringOk.commandLeaves _ (put _ _)
    · exact line_steeringOk.commandLeaves _ (put _ _)
    · exact put _ _
    · exact put _ _
  unfold abortOrder
  repeat' split
  · exact h
  · exact line_steeringOk.completeOrder _ _ h
  · exact line_steeringOk.completeOrder _ _ h
  · exact wound _ _
  · exact h

theorem removeBarge_steeringOk (p : Pos) (h : SteeringOk s) : SteeringOk (removeBarge p s).1 := by
  unfold removeBarge
  repeat' split
  · exact h
  · exact h
  · exact h
  · dsimp only
    exact finish_steeringOk (breakaway_steeringOk p h)
  · exact h
  · dsimp only
    exact finish_steeringOk (removeRecord_steeringOk p _ h)

/-- R118: a poll stores the demand it carries in the Bow Unit List alone. -/
theorem startNext_steeringOk (h : SteeringOk s) : SteeringOk (startNext s) := by
  have polled (d : Node) (b : Bool) {u : State} (hu : SteeringOk u) : SteeringOk (poll d b u) := by
    unfold poll send storeBowDemand
    exact line_steeringOk.line _ (fun _ => rfl) (keeps_ite (hu.of_same {}) hu)
  simp only [startNext]
  repeat' split
  · exact polled _ _ h
  · exact polled _ _ h
  · exact h.of_same {}

theorem owner_steeringOk {c : Instr} {o : State → State × Answer} (ho : ownerOf c = some o) (h : SteeringOk s) :
    SteeringOk (o s).1 := by
  cases c <;> cases ho
  case setLever.refl v =>
    unfold setLever
    split
    · exact h
    · dsimp only
      exact finish_steeringOk (takeLever_steeringOk v h)
  case setHelm.refl v => exact setHelm_steeringOk v h
  case setSteerMode.refl m => exact setSteerMode_steeringOk m h
  case declareBarge.refl p hull light cargo bow =>
    unfold declareBarge
    split
    · exact h
    · dsimp only
      exact finish_steeringOk (addBarge_steeringOk p hull light cargo bow h)
  case removeBarge.refl p => exact removeBarge_steeringOk p h
  case declareCoupling.refl n a b serial channel winchEnd cls =>
    unfold declareCoupling
    repeat' split
    · exact h
    · exact h
    · exact h
    · dsimp only
      exact finish_steeringOk (dueAnalysis_steeringOk (line_steeringOk.newClaim _ (SteeringOk.of_same (s := s) h {})))
  case withdrawCoupling.refl n =>
    unfold withdrawCoupling
    repeat' split
    · exact h
    · exact h
    · exact h
    · dsimp only
      refine finish_steeringOk (line_steeringOk.giveDepartures _ (dueAnalysis_steeringOk ?_))
      exact h.of_same {}
  case forgetNode.refl n =>
    unfold forgetNode
    repeat' split
    · exact h
    · dsimp only
      exact finish_steeringOk (line_steeringOk.removeNode n h)
    · exact h
  case postOrder.refl n x => exact postOrder_steeringOk n x h
  case abortOrder.refl n => exact abortOrder_steeringOk n h
  case setSounding.refl n q =>
    unfold setSounding
    repeat' split
    · exact h
    · exact h
    · exact h
    · exact h
    · dsimp only
      have reported {u : State} (i : Fin 8) (hu : SteeringOk u) : SteeringOk (tankReport i u) := hu
      exact finish_steeringOk (reported _ (fcapRecompute_steeringOk (h.of_same {})))
  case writeSetting.refl a b c v => exact writeSetting_steeringOk a b c v h
  all_goals
    simp only [echo, readStatus, fetchReports, restart, setEngineModes, setSync, readPropulsion, readEngine, readSteering,
      readBarge, readCoupling, listMakeup, readNode, listNodes, listOrders, readTank, readMeters, closeLegRequest, readLeg,
      releaseLeg, setVoyageClock, readSetting, saveSettings]
    repeat' split
  all_goals exact h.of_same {}

theorem event_steeringOk {c : Instr} {f : State → State} (hf : eventOf c = some f) (h : SteeringOk s) : SteeringOk (f s) := by
  cases c <;> simp only [eventOf, reduceCtorEq, Option.some.injEq] at hf <;> subst hf
  case checkpointPeriodExpiry => exact finish_steeringOk (h.of_same {})
  case controlPeriodExpiry b x y => exact controlPeriodExpiry_steeringOk b x y h
  case silenceLimitExpiry => exact finish_steeringOk (silenceLimitExpiry_steeringOk h)
  case holdTimeExpiry => exact finish_steeringOk (keeps_ite (zeroCommand_steeringOk h) h)
  case steeringControlPeriod v => exact steeringControlPeriod_steeringOk v h
  case masterFrameSent => exact finish_steeringOk (line_steeringOk.masterFrameSent h)
  case echoFailure => exact finish_steeringOk (line_steeringOk.echoFailure h)
  case rejoinTimerExpiry n => exact finish_steeringOk (line_steeringOk.rejoinTimerExpiry n h)
  case bargeFrameReceived l b => exact finish_steeringOk (line_steeringOk.bargeFrameReceived l b h)
  case bargeFrameSilence => exact finish_steeringOk (line_steeringOk.bargeFrameSilence h)
  case accountingIntervalExpiry v => exact accountingInterval_steeringOk v h
  case replyWindowExpiry =>
    unfold replyWindowExpiry
    split
    · next tx _ =>
      have hx := finish_steeringOk (line_steeringOk.exchangeMiss tx (line_steeringOk.turnaround h))
      exact startNext_steeringOk hx
    all_goals exact h
  case turnaroundExpiry => exact keeps_ite (startNext_steeringOk h) h
  case haulTimerExpiry n =>
    refine finish_steeringOk ?_
    unfold haulTimerExpiry
    split
    · exact keeps_ite (line_steeringOk.endActive _ _ _ _ h) h
    · exact h
  case releaseTimerExpiry n =>
    refine finish_steeringOk ?_
    unfold releaseTimerExpiry
    split
    · exact keeps_ite (line_steeringOk.endActive _ _ _ _ (line_steeringOk.classified _ _ h)) h
    · exact h
  case releaseWaitExpiry n =>
    refine finish_steeringOk ?_
    unfold releaseWaitExpiry
    repeat' split
    all_goals first | exact h | exact line_steeringOk.completeOrder _ _ h
  case saveComplete d => exact h.of_same { settings := by rw [settings_eq, settings_eq, saveComplete_working] }
  case syncPeriodExpiry => exact h.of_same { dir := by rw [State.dir, syncPeriodExpiry_prop]; rfl }
  all_goals exact h.of_same {}

/-- R122: after a start the helm is 0, and so are the targets, the trim and the bow demand. -/
theorem startPart_steeringOk (cause : StartCause) (x : StartInputs) (s : State) : SteeringOk (startPart cause x s) := by
  obtain ⟨bs, hsteer⟩ := startPart_steer cause x s
  have hle : (startPart cause x s).prop.le = 0 := by rw [startPart_prop]
  unfold SteeringOk
  rw [hsteer, hle]
  refine ⟨by simp [startSteering], by simp [startSteering], fun r _ => ?_⟩
  have ht : (startSteering bs).rudders[r].target = 0 := by fin_cases r <;> rfl
  rw [ht]
  simp [startSteering, roundHalfAway]

theorem stepKeeps_steeringOk : StepKeeps SteeringOk where
  pending _ _ h := h
  port _ _ h := h
  control _ _ h := h
  clock _ h := h.of_same {}
  input _ _ _ _ h := h.of_same {}
  begins x s h := by
    unfold start
    repeat' split
    · exact h
    · exact h
    · exact startPart_steeringOk _ x s
  owner _ _ _ ho h := owner_steeringOk ho h
  event _ _ _ he h := event_steeringOk he h

/-- Settles O47: every part of a step leaves the figures, or recomputes them as it changes what they are made of. -/
theorem steeringOutputsFollowTheHelm : Obligations.SteeringOutputsFollowTheHelm := by
  unfold Obligations.SteeringOutputsFollowTheHelm
  intro s t h hstep
  exact stepKeeps_steeringOk.step h hstep

end Sys2Proof.Machine
end

section
/-! ### R101, R104, R111, R112: SET_HELM and SET_STEER_MODE -/

namespace Sys2Proof.Machine

variable {s t : State} {r : Fin 8}

/-! #### R101: SET_HELM -/

theorem steersOnly_setHelmTo (x : Int) (s : State) : SteersOnly (s.onSteer fun t => { t with helm := x }) (setHelmTo x s) := by
  unfold setHelmTo
  split
  next h =>
    rw [SteersOnly, ← h]
    rfl
  next => exact steersOnly_steeringRecompute _

theorem setHelmTo_degraded (x : Int) (s : State) : (setHelmTo x s).steer.degraded = s.steer.degraded := by
  unfold setHelmTo
  split
  · rfl
  · exact steeringRecompute_degraded _

/-- R64: the end of a silence acts on the Propulsion Controller, and may queue a report. -/
theorem endSilence_eq (s : State) : endSilence s = { s with port := (endSilence s).port, prop := (endSilence s).prop } := by
  unfold endSilence
  split <;> rfl

/-- R101: a helm taken from the bridge, with what the acceptance does to a silence. -/
def State.steered (s : State) (v : Int) : State := endSilence (restartSilence (setHelmTo (clamp (-1000) 1000 v) s))

/-- R62, R64, R101: what an accepted helm leaves. -/
theorem steered_leaves (s : State) (v : Int) : let t := s.steered v
    t = { s with port := t.port, prop := t.prop, steer := t.steer } ∧ t.steer.helm = max (-1000) (min 1000 v) ∧
      t.steer.mode = s.steer.mode ∧ t.steer.degraded = s.steer.degraded ∧ t.steer.bows = s.steer.bows ∧
      t.prop = { s.prop with
        phase := .normal, silenceTimer := seconds s.settings.backup.silenceLimitS,
        holdTimer := if s.prop.phase = .normal then s.prop.holdTimer else none } := by
  obtain ⟨w, hw⟩ : ∃ w, w = setHelmTo (clamp (-1000) 1000 v) s := ⟨_, rfl⟩
  have hsteers : SteersOnly (s.onSteer fun t => { t with helm := clamp (-1000) 1000 v }) w := hw ▸ steersOnly_setHelmTo _ s
  have hdegraded : w.steer.degraded = s.steer.degraded := hw ▸ setHelmTo_degraded _ s
  obtain ⟨hhelm, hmode, hbows⟩ := hsteers.kept
  have hprop : w.prop = s.prop := by rw [hsteers.state]; rfl
  have ht : s.steered v = endSilence (restartSilence w) := by rw [hw, State.steered]
  have hsteer : (s.steered v).steer = w.steer := by rw [ht, endSilence_eq]; rfl
  dsimp only
  refine ⟨?_, ?_, ?_, ?_, ?_, ?_⟩
  · rw [ht, endSilence_eq, hsteers.state]
    rfl
  · rw [hsteer, hhelm]
    exact clamp_eq_max_min (by decide) v
  · rw [hsteer, hmode]
    rfl
  · rw [hsteer, hdegraded]
  · rw [hsteer, hbows]
    rfl
  · rw [ht, endSilence_prop, restartSilence_prop, hsteers.settings, hprop]
    rfl

theorem exec_setHelm_bridge (v : Int) (hup : s.up = true) (hb : s.prop.source = .bridge) :
    exec (.setHelm v) s = .next ((s.steered v).answered (accept (signed 2 (s.steered v).steer.helm ++
      unsigned 1 (s.steered v).steer.mode.code ++ yesNo (s.steered v).steer.degraded ++ signed 2 (s.steered v).steer.trim ++
      signed 2 (s.steered v).steer.bowDemand))) := exec_of_accept hup (o := setHelm v) rfl (if_neg (by simp [hb]))

/-! #### R104: SET_STEER_MODE -/

/-- R111: what the return of the faulted rudders makes of a rudder. -/
def Settings.returned (p : Settings) (r : Fin 8) (x : Rudder) : Rudder :=
  if p.rudderPresent r = true ∧ x.state ≠ .ok ∧ x.sampleValid = true then { x with state := .ok, stallRef := none, stallCount := 0 }
  else x

theorem rudderReturns_turns (r : Fin 8) (s : State) : TurnsRudder r (s.settings.returned r) s (rudderReturns r s) := by
  simp only [rudderReturns, Bool.and_eq_true, bne_iff_ne, and_assoc]
  split
  next h => exact turnsRudder_onRudder (by simp only [Settings.returned, if_pos h])
  next h => exact turnsRudder_stays fun x hx => if_neg (hx ▸ h)

theorem Settings.returned_state (p : Settings) (r : Fin 8) (x : Rudder) : (p.returned r x).state =
    if p.rudderPresent r = true ∧ x.sampleValid = true then .ok else x.state := by
  unfold Settings.returned
  by_cases hx : x.state = .ok
  · simp [hx]
  · by_cases h : p.rudderPresent r = true ∧ x.sampleValid = true
    · rw [if_pos ⟨h.1, hx, h.2⟩, if_pos h]
    · rw [if_neg fun hc => h ⟨hc.1, hc.2.2⟩, if_neg h]

/-- R111: the rudders after the return of the faulted ones. -/
theorem rudderReturns_all (s : State) : BesidesRudders s (forAll allRudders rudderReturns s) ∧
    ∀ r, (forAll allRudders rudderReturns s).steer.rudders[r] = s.settings.returned r s.steer.rudders[r] :=
  forAllRudders_turns fun r u hu => hu.settings ▸ rudderReturns_turns r u

/-- R104, R111, R112: what SET_STEER_MODE leaves of an allowed mode. -/
theorem setSteerMode_leaves {n : Nat} {m : SteerMode} (h : steerModeOf n = some m) (s : State) :
    ∃ t body, setSteerMode n s = (t, accept body) ∧ SteersOnly (s.onSteer fun x => { x with mode := m }) t ∧
      (∀ r : Fin 8, t.steer.rudders[r].state = if s.settings.rudderPresent r = true ∧ s.steer.rudders[r].sampleValid = true then .ok
        else s.steer.rudders[r].state) ∧ t.steer.degraded = t.noSteeringRudder := by
  obtain ⟨w, hw⟩ : ∃ w, w = forAll allRudders rudderReturns (s.onSteer fun x => { x with mode := m }) := ⟨_, rfl⟩
  obtain ⟨hbesides, hreturned⟩ := rudderReturns_all (s.onSteer fun x => { x with mode := m })
  have hretargets := (retargets_degradedTest w).trans (retargets_steeringRecompute _)
  have howner : ∃ body, setSteerMode n s = (steeringRecompute (degradedTest w), accept body) := by
    rw [hw, setSteerMode, h]
    exact ⟨_, rfl⟩
  obtain ⟨body, hbody⟩ := howner
  rw [← hw] at hbesides hreturned
  refine ⟨_, body, hbody, hbesides.steersOnly.trans hretargets.steers, fun r => ?_, ?_⟩
  · rw [hretargets.state, hreturned, Settings.returned_state]
    rfl
  · rw [hretargets.noSteeringRudder, steeringRecompute_degraded, degradedTest_degraded]

/-- Settles O48: SET_HELM by the helm and the silence it leaves, SET_STEER_MODE by the returned rudders and the degraded test. -/
theorem helmAndSteeringModeAreStored : Obligations.HelmAndSteeringModeAreStored := by
  unfold Obligations.HelmAndSteeringModeAreStored
  refine ⟨fun s v hup => ⟨fun hb => exec_of_refusal hup (o := setHelm v) rfl (if_pos hb), fun hb => ?_⟩,
    fun s m hup => ⟨fun hm => ?_, fun hm => ?_⟩⟩
  · obtain ⟨hstate, hhelm, hmode, hdegraded, hbows, hprop⟩ := steered_leaves s v
    refine ⟨_, exec_setHelm_bridge v hup hb, ?_, hhelm, hmode, hdegraded, hbows, hprop, rfl⟩
    rw [hstate]
    rfl
  · have hnone : steerModeOf m = none := by
      unfold steerModeOf
      split <;> first | rfl | omega
    exact exec_of_refusal hup (o := setSteerMode m) rfl (by rw [setSteerMode, hnone])
  · have hmode : steerModeOf m = some (if m = 1 then .rudder else if m = 2 then .rudderDiff else .full) := by
      obtain rfl | rfl | rfl : m = 1 ∨ m = 2 ∨ m = 3 := by omega
      all_goals rfl
    obtain ⟨t, body, hbody, hsteers, hrudders, hdegraded⟩ := setSteerMode_leaves hmode s
    refine ⟨_, exec_of_accept hup (o := setSteerMode m) rfl hbody, ?_, hsteers.kept.2.1, hsteers.kept.1, hrudders, ?_⟩
    · rw [hsteers.state]
      rfl
    · have hset : t.settings = s.settings := hsteers.settings
      rw [State.answered, onPort_steer, hdegraded, noSteeringRudder_iff, hset]

end Sys2Proof.Machine
end

section
/-! ### R106 to R112: a steering control period -/

namespace Sys2Proof.Machine

variable {s t : State} {p : SteeringSettings} {r : Fin 8} {raw : Nat} {x : Rudder} {v : Valve}

/-! #### R108, R109: the follow-up and the stall test -/

theorem followUp_at_target (h : x.wantedValve p = .none) :
    x.followUp p = { x with valve := .none, stallRef := none, stallCount := 0 } := if_pos h

theorem followUp_turns (hv : x.wantedValve p = v) (h0 : v ≠ .none) (hx : x.valve ≠ v) :
    x.followUp p = { x with valve := v, stallRef := some x.angle, stallCount := 0 } := by
  simp only [Rudder.followUp, hv, if_neg h0, if_pos hx.symm]

theorem followUp_moves (hv : x.wantedValve p = v) (h0 : v ≠ .none) (hx : x.valve = v) (hm : p.stallMovement ≤ x.progress v) :
    x.followUp p = { x with stallRef := some x.angle, stallCount := 0 } := by
  simp only [Rudder.followUp, hv, if_neg h0, hx, ne_eq, not_true_eq_false, if_false, if_pos hm]

theorem followUp_stalls (hv : x.wantedValve p = v) (h0 : v ≠ .none) (hx : x.valve = v) (hm : x.progress v < p.stallMovement)
    (hc : p.stallTimeMs ≤ (x.stallCount + 1 : Int) * 100) : x.followUp p =
      { x with state := .stalled, valve := .none, stallRef := none, stallCount := x.stallCount + 1 } := by
  simp only [Rudder.followUp, hv, if_neg h0, hx, ne_eq, not_true_eq_false, if_false, if_neg hm.not_ge, if_pos hc]

theorem followUp_waits (hv : x.wantedValve p = v) (h0 : v ≠ .none) (hx : x.valve = v) (hm : x.progress v < p.stallMovement)
    (hc : (x.stallCount + 1 : Int) * 100 < p.stallTimeMs) : x.followUp p = { x with stallCount := x.stallCount + 1 } := by
  simp only [Rudder.followUp, hv, if_neg h0, hx, ne_eq, not_true_eq_false, if_false, if_neg hm.not_ge, if_neg hc.not_ge]

/-- R108: past the deadband one of the two valves is wanted. -/
theorem wantedValve_past (h : p.deadband < x.target - x.angle ∨ x.target - x.angle < -p.deadband) :
    x.wantedValve p = if p.deadband < x.target - x.angle then .starboard else .port := by
  unfold Rudder.wantedValve
  split
  · rfl
  next hs => exact if_pos (h.resolve_left hs)

/-- R108, R109: the follow-up of an OK rudder, by its error, its valve, its progress and its stall count. -/
theorem followUp_of_ok (hx : x.state = .ok) (y : Rudder) (hy : y = x.followUp p) :
    let err := x.target - x.angle
    let want : Valve := if p.deadband < err then .starboard else .port
    let gone := if want = .starboard then x.angle - x.stallRef.getD x.angle else x.stallRef.getD x.angle - x.angle
    (¬p.deadband < err → ¬err < -p.deadband → y.state = .ok ∧ y.valve = .none ∧ y.stallRef = none ∧ y.stallCount = 0) ∧
    (p.deadband < err ∨ err < -p.deadband →
      (x.valve ≠ want → y.state = .ok ∧ y.valve = want ∧ y.stallRef = some x.angle ∧ y.stallCount = 0) ∧
      (x.valve = want → p.stallMovement ≤ gone → y.state = .ok ∧ y.valve = want ∧ y.stallRef = some x.angle ∧ y.stallCount = 0) ∧
      (x.valve = want → gone < p.stallMovement → p.stallTimeMs ≤ (x.stallCount + 1 : Int) * 100 →
        y.state = .stalled ∧ y.valve = .none ∧ y.stallRef = none) ∧
      (x.valve = want → gone < p.stallMovement → (x.stallCount + 1 : Int) * 100 < p.stallTimeMs →
        y.state = .ok ∧ y.valve = want ∧ y.stallRef = x.stallRef ∧ y.stallCount = x.stallCount + 1)) := by
  intro err want gone
  have hgone : x.progress want = gone := by simp only [Rudder.progress, beq_iff_eq, gone]
  have h0 : want ≠ .none := by
    dsimp only [want]
    split <;> decide
  refine ⟨fun hs hp => ?_, fun hpast => ?_⟩
  · have hv : x.wantedValve p = .none := (if_neg hs).trans (if_neg hp)
    rw [hy, followUp_at_target hv]
    exact ⟨hx, rfl, rfl, rfl⟩
  · have hv : x.wantedValve p = want := wantedValve_past hpast
    refine ⟨fun hc => ?_, fun hc hm => ?_, fun hc hm hn => ?_, fun hc hm hn => ?_⟩
    · rw [hy, followUp_turns hv h0 hc]
      exact ⟨hx, rfl, rfl, rfl⟩
    · rw [hy, followUp_moves hv h0 hc (hgone ▸ hm)]
      exact ⟨hx, hc, rfl, rfl⟩
    · rw [hy, followUp_stalls hv h0 hc (hgone ▸ hm) hn]
      exact ⟨rfl, rfl, rfl⟩
    · rw [hy, followUp_waits hv h0 hc (hgone ▸ hm) hn]
      exact ⟨hx, hc, rfl, rfl⟩

/-! #### R106, R110: the sample and the feedback test -/

theorem validSample_iff : p.validSample r raw = true ↔ p.windowLow[r] ≤ raw ∧ (raw : Int) ≤ p.windowHigh[r] := by
  simp [SteeringSettings.validSample]

theorem sampled_of_valid (h : p.validSample r raw = true) (x : Rudder) :
    x.sampled p r raw = { x with raw := raw, sampleValid := true, angle := p.angleOf r raw } := if_pos h

theorem sampled_of_invalid (h : p.validSample r raw ≠ true) (x : Rudder) :
    x.sampled p r raw = { x with raw := raw, sampleValid := false } := if_neg h

/-- R110: an invalid sample loses the feedback of a rudder that had it. -/
theorem period_of_invalid (h : p.validSample r raw ≠ true) (x : Rudder) : x.period p r raw =
    if x.state = .feedbackLost then { x with raw := raw, sampleValid := false }
    else { x with raw := raw, sampleValid := false, state := .feedbackLost, valve := .none, stallRef := none } := by
  simp only [Rudder.period, sampled_of_invalid h]
  by_cases hx : x.state = .feedbackLost
  · simp [hx]
  · simp [hx, Rudder.loseFeedback]

/-- R108: a rudder that is not OK takes the sample and is not followed up. -/
theorem period_of_faulted (h : p.validSample r raw = true) (hx : x.state ≠ .ok) :
    x.period p r raw = { x with raw := raw, sampleValid := true, angle := p.angleOf r raw } := by
  simp [Rudder.period, sampled_of_valid h, hx]

theorem period_of_ok (h : p.validSample r raw = true) (hx : x.state = .ok) :
    x.period p r raw = Rudder.followUp p { x with raw := raw, sampleValid := true, angle := p.angleOf r raw } := by
  simp [Rudder.period, sampled_of_valid h, hx]

theorem followUp_sample (p : SteeringSettings) (x : Rudder) : (x.followUp p).raw = x.raw ∧ (x.followUp p).angle = x.angle ∧
    (x.followUp p).sampleValid = x.sampleValid := by
  simp only [Rudder.followUp]
  repeat' split
  all_goals exact ⟨rfl, rfl, rfl⟩

/-- R106: the sample that a control period leaves. -/
theorem period_sample (p : SteeringSettings) (r : Fin 8) (raw : Nat) (x : Rudder) : (x.period p r raw).raw = raw ∧
    (x.period p r raw).angle = (if p.validSample r raw = true then p.angleOf r raw else x.angle) ∧
    (x.period p r raw).sampleValid = p.validSample r raw := by
  by_cases hv : p.validSample r raw = true
  · by_cases hx : x.state = .ok
    · rw [period_of_ok hv hx, if_pos hv, hv]
      exact followUp_sample p _
    · rw [period_of_faulted hv hx, if_pos hv, hv]
      exact ⟨rfl, rfl, rfl⟩
  · rw [period_of_invalid hv, if_neg hv, Bool.eq_false_iff.2 hv]
    split <;> exact ⟨rfl, rfl, rfl⟩

/-! #### The eight channels, and the degraded test -/

/-- R106: the rudders after their turns. -/
theorem rudderPeriods_all (samples : Vector Nat 8) (s : State) :
    BesidesRudders s (forAll allRudders (fun r s => rudderPeriod r samples[r] s) s) ∧ ∀ r,
      (forAll allRudders (fun r s => rudderPeriod r samples[r] s) s).steer.rudders[r] =
        s.settings.periodOf r samples[r] s.steer.rudders[r] :=
  forAllRudders_turns (g := fun r => s.settings.periodOf r samples[r]) fun r u hu => hu.settings ▸ rudderPeriod_turns r samples[r] u

theorem Retargets.rudderStates (h : Retargets s t) : t.rudderStates = s.rudderStates := by
  unfold State.rudderStates
  refine List.ext_getElem (by simp) fun i hi _ => ?_
  simpa using h.state ⟨i, by simpa using hi⟩

/-- R106, R112: what a control period leaves: the turned rudders but for their targets, and the degraded mark, tested where a state
changed. -/
theorem steeringControlPeriod_leaves (samples : Vector Nat 8) (s : State) : let t := steeringControlPeriod samples s
    SteersOnly s t ∧ (t.steer.degraded = if t.rudderStates = s.rudderStates then s.steer.degraded else t.noSteeringRudder) ∧
      ∀ r : Fin 8, if s.settings.rudderPresent r = true
        then ∃ v, t.steer.rudders[r] = { s.steer.rudders[r].period s.settings.steering r samples[r] with target := v }
        else t.steer.rudders[r] = s.steer.rudders[r] := by
  obtain ⟨w, hw⟩ : ∃ w, w = forAll allRudders (fun r s => rudderPeriod r samples[r] s) s := ⟨_, rfl⟩
  obtain ⟨hbesides, hturned⟩ := rudderPeriods_all samples s
  rw [← hw] at hbesides hturned
  have ht : steeringControlPeriod samples s = if w.rudderStates = s.rudderStates then w else degradedTest w := by
    rw [hw, steeringControlPeriod]
  have hmark : w.steer.degraded = s.steer.degraded := by rw [hbesides]
  have htested := retargets_degradedTest w
  have hretargets : Retargets w (steeringControlPeriod samples s) := by
    rw [ht]
    exact keeps_ite (P := Retargets w) (retargets_of_rudders rfl rfl) htested
  dsimp only
  refine ⟨hbesides.steersOnly.trans hretargets.steers, ?_, fun r => ?_⟩
  · rw [hretargets.rudderStates, hretargets.noSteeringRudder, ht]
    split
    · exact hmark
    · exact degradedTest_degraded w
  · obtain ⟨v, hv⟩ := hretargets.rudder r
    rw [hbesides.settings, hturned] at hv
    by_cases hp : s.settings.rudderPresent r = true
    · rw [if_pos hp]
      rw [if_pos hp, Settings.periodOf, if_pos hp] at hv
      exact ⟨v, hv⟩
    · rw [if_neg hp]
      rw [if_neg hp, Settings.periodOf, if_neg hp] at hv
      exact hv

/-- Settles O49: each rudder by its turn, case by case of the sample, the state and the follow-up. -/
theorem followUpDrivesRuddersOrStalls : Obligations.FollowUpDrivesRuddersOrStalls := by
  unfold Obligations.FollowUpDrivesRuddersOrStalls
  intro s samples hup
  obtain ⟨hsteers, hdegraded, hrudder⟩ := steeringControlPeriod_leaves samples s
  obtain ⟨hhelm, hmode, hbows⟩ := hsteers.kept
  refine ⟨_, whenUp_of_up hup (steeringControlPeriod samples), hsteers.state, hhelm, hmode, hbows, hdegraded, fun r hp => ?_,
    fun r hp => ?_⟩
  · simpa [hp] using hrudder r
  · have hr := hrudder r
    rw [if_pos hp] at hr
    obtain ⟨target, hy⟩ := hr
    rw [hy]
    intro p x y raw valid angle err want gone
    have hvalid : p.validSample r samples[r] = true ↔ valid := validSample_iff
    obtain ⟨hraw, hangle, hsample⟩ := period_sample p r samples[r] x
    simp only [hvalid] at hangle
    refine ⟨hraw, hangle, by rw [← hvalid]; exact iff_of_eq (congrArg (· = true) hsample), fun hv => ?_, fun hv hx => ?_,
      fun hv hx => ?_, fun hv hx => ?_⟩
    · show (x.period p r samples[r]).state = .feedbackLost
      rw [period_of_invalid (mt hvalid.1 hv)]
      split
      next hx => exact hx
      next => rfl
    · show (x.period p r samples[r]).valve = .none
      rw [period_of_invalid (mt hvalid.1 hv), if_neg hx]
    · show (x.period p r samples[r]).state = x.state ∧ (x.period p r samples[r]).valve = x.valve
      rw [period_of_faulted (hvalid.2 hv) hx]
      exact ⟨rfl, rfl⟩
    · have ha : angle = p.angleOf r samples[r] := if_pos hv
      clear_value angle
      subst ha
      exact followUp_of_ok (x := { x with raw := samples[r], sampleValid := true, angle := p.angleOf r samples[r] }) hx
        (x.period p r samples[r]) (period_of_ok (hvalid.2 hv) hx)

end Sys2Proof.Machine
end

section
/-! ### R117, R118: the demand of a bow poll -/

namespace Sys2Proof.Machine

variable {s : State} {u : BowUnit} {b : Barge} {m serial : Nat}

/-- R117: the head row so far, with one more barge. -/
def rowWith (m : Option Nat) (b : Barge) : Option Nat := if b.state == .inTow then some (max (m.getD 0) b.pos.row) else m

theorem rowWith_inTow (h : b.state = .inTow) (m : Option Nat) : rowWith m b = some (max (m.getD 0) b.pos.row) := by simp [rowWith, h]

theorem rowWith_other (h : b.state ≠ .inTow) (m : Option Nat) : rowWith m b = m := by simp [rowWith, h]

theorem le_headRow (l : List Barge) : ∀ a ∈ l, a.state = .inTow → ∃ m, l.foldl rowWith none = some m ∧ a.pos.row ≤ m := by
  induction l using List.reverseRecOn with
  | nil => simp
  | append_singleton l b ih =>
    intro a ha hs
    rw [List.foldl_concat]
    rcases List.mem_append.1 ha with hl | hb
    · obtain ⟨m, hm, hle⟩ := ih a hl hs
      by_cases hb : b.state = .inTow
      · exact ⟨_, rowWith_inTow hb _, by rw [hm]; exact hle.trans (le_max_left _ _)⟩
      · exact ⟨m, (rowWith_other hb _).trans hm, hle⟩
    · obtain rfl := List.mem_singleton.1 hb
      exact ⟨_, rowWith_inTow hs _, le_max_right _ _⟩

theorem headRow_mem (l : List Barge) : ∀ m, l.foldl rowWith none = some m → ∃ a ∈ l, a.state = .inTow ∧ a.pos.row = m := by
  induction l using List.reverseRecOn with
  | nil => simp
  | append_singleton l b ih =>
    intro m hm
    rw [List.foldl_concat] at hm
    by_cases hb : b.state = .inTow
    · rw [rowWith_inTow hb, Option.some.injEq] at hm
      have hlast : b ∈ l ++ [b] := List.mem_append_right _ (List.mem_singleton_self b)
      cases hl : l.foldl rowWith none with
      | none => exact ⟨b, hlast, hb, by simpa [hl] using hm⟩
      | some n =>
        rw [hl, Option.getD_some] at hm
        rcases max_choice n b.pos.row with hn | hr
        · obtain ⟨a, ha, hs, hr⟩ := ih n hl
          exact ⟨a, List.mem_append_left _ ha, hs, hr.trans (hn.symm.trans hm)⟩
        · exact ⟨b, hlast, hb, hr.symm.trans hm⟩
    · obtain ⟨a, ha, hs, hr⟩ := ih m ((rowWith_other hb _).symm.trans hm)
      exact ⟨a, List.mem_append_left _ ha, hs, hr⟩

/-- R117: the head row is the highest row of an IN_TOW barge. -/
theorem headRow_eq_some_iff : s.headRow = some m ↔ (∃ a ∈ s.sup.barges, a.state = .inTow ∧ a.pos.row = m) ∧
    ∀ a ∈ s.sup.barges, a.state = .inTow → a.pos.row ≤ m := by
  have hf : s.headRow = s.sup.barges.foldl rowWith none := rfl
  rw [hf]
  constructor
  · refine fun h => ⟨headRow_mem _ m h, fun a ha hs => ?_⟩
    obtain ⟨n, hn, hle⟩ := le_headRow _ a ha hs
    exact (Option.some.inj (hn.symm.trans h)) ▸ hle
  · rintro ⟨⟨a, ha, hs, rfl⟩, hmax⟩
    obtain ⟨n, hn, hle⟩ := le_headRow _ a ha hs
    obtain ⟨c, hc, hcs, rfl⟩ := headRow_mem _ n hn
    rw [hn, le_antisymm (hmax c hc hcs) hle]

/-- R117: the five conditions of availability. -/
theorem bowAvailable_iff : s.bowAvailable u = true ↔
    (∃ b, s.barge? u.pos = some b ∧ b.state = .inTow ∧ b.held = true) ∧ s.headRow = some u.pos.row ∧
      u.nodeState = some .active ∧ u.nodeKind = some .bow ∧ u.running = some true := by
  cases hb : s.barge? u.pos <;> simp [State.bowAvailable, State.bowConditions, hb, and_assoc]

theorem bowsUsed_iff : s.bowsUsed = true ↔ s.steer.mode = .full ∨ s.steer.degraded = true := by simp [State.bowsUsed]

theorem barge?_some {q : Pos} (h : s.barge? q = some b) : b ∈ s.sup.barges ∧ b.pos = q :=
  ⟨List.mem_of_find?_eq_some h, by simpa using List.find?_some h⟩

/-- R118: an available unit is given the bow demand while the bow units are used. -/
theorem bowDemandFor_eq (h : s.steer.bows.find? (·.serial == serial) = some u) :
    s.bowDemandFor serial = if s.bowAvailable u = true ∧ s.bowsUsed = true then s.steer.bowDemand else 0 := by
  simp only [State.bowDemandFor, h, Bool.and_eq_true]

/-- Settles O50: the first entry of the serial, by the conditions of its availability. -/
theorem bowDemandNeedsAnAvailableUnit : Obligations.BowDemandNeedsAnAvailableUnit := by
  unfold Obligations.BowDemandNeedsAnAvailableUnit
  refine ⟨fun s serial hne => ?_, fun s u b hu hstate hkind hrun hb htow hheld hmax hused => ?_⟩
  · cases hu : s.steer.bows.find? (·.serial == serial) with
    | none => exact absurd (by simp only [State.bowDemandFor, hu]) hne
    | some u =>
      have hd := bowDemandFor_eq hu
      split at hd
      next hc =>
        obtain ⟨⟨b, hb, htow, hheld⟩, hrow, hstate, hkind, hrun⟩ := bowAvailable_iff.1 hc.1
        obtain ⟨hmem, hpos⟩ := barge?_some hb
        exact ⟨hd, bowsUsed_iff.1 hc.2, u, List.mem_of_find?_eq_some hu, by simpa using List.find?_some hu, hstate, hkind, hrun,
          b, hmem, hpos, htow, hheld, (headRow_eq_some_iff.1 hrow).2⟩
      next => exact absurd hd hne
  · obtain ⟨hmem, hpos⟩ := barge?_some hb
    have hrow : s.headRow = some u.pos.row := headRow_eq_some_iff.2 ⟨⟨b, hmem, htow, by rw [hpos]⟩, hmax⟩
    have ha : s.bowAvailable u = true := bowAvailable_iff.2 ⟨⟨b, hb, htow, hheld⟩, hrow, hstate, hkind, hrun⟩
    exact (bowDemandFor_eq hu).trans (if_pos ⟨ha, bowsUsed_iff.2 hused⟩)

end Sys2Proof.Machine
end

section
/-! ### R123, R147, R155: pulses of the meters and the log, and the seconds of the voyage clock -/

namespace Sys2Proof.Machine

variable {s : State}

@[simp] theorem onMeter_same (s : State) (m : Fin 10) (f : Meter → Meter) :
    (s.onMeter m f).fuel.meters[m] = f s.fuel.meters[m] := by
  simp [State.onMeter]

theorem onMeter_other (s : State) {m n : Fin 10} (f : Meter → Meter) (h : n ≠ m) :
    (s.onMeter m f).fuel.meters[n] = s.fuel.meters[n] := by
  simp [State.onMeter, Fin.val_inj, Ne.symm h]

/-- The manual's units of volume: a figure that fits an accumulator stands in it as it is. -/
theorem fit64_of_fits {x : Int} (h : -2 ^ 63 ≤ x) (h' : x < 2 ^ 63) : fit64 x = x := if_pos ⟨h, h'⟩

theorem fitNat64_of_fits {x : Int} (h : 0 ≤ x) (h' : x < 2 ^ 63) : fitNat64 x = x := if_pos ⟨h, h'⟩

/-- R147: a log pulse whose sums fit. -/
theorem logPulse_of_fits {d : Int} (hd : d = s.settings.fuel.logDistanceMm) (hdist : 0 ≤ s.legs.current.distance + d)
    (hdist' : s.legs.current.distance + d < 2 ^ 63) (htmm : 0 ≤ s.legs.current.tmm + s.sup.tonnage * d)
    (htmm' : s.legs.current.tmm + s.sup.tonnage * d < 2 ^ 63) :
    logPulse s = s.onLeg fun l => { l with distance := l.distance + d, tmm := l.tmm + s.sup.tonnage * d } := by
  subst hd
  simp only [logPulse, State.onLeg, State.onLegs, fitNat64_of_fits hdist hdist', fitNat64_of_fits htmm htmm']

/-- R155: the clock below its largest value, and at it. -/
theorem voyageClockTick_below (h : s.clock.seconds < 4294967295) :
    voyageClockTick s = { s with clock := ⟨s.clock.seconds + 1, s.clock.isSet⟩ } := by
  rw [voyageClockTick, if_pos (show s.clock.seconds < Config.maxClock from h)]

theorem voyageClockTick_largest (h : s.clock.seconds = 4294967295) : voyageClockTick s = s := by
  have hmax : ¬s.clock.seconds < Config.maxClock := h.not_lt
  rw [voyageClockTick, if_neg hmax]

/-- Settles O51: each event by the one record it counts in. -/
theorem pulsesAndSecondsCountOnce : Obligations.PulsesAndSecondsCountOnce := by
  unfold Obligations.PulsesAndSecondsCountOnce
  refine ⟨fun s hup => ⟨fun m => ?_, fun l d hl hd h1 h2 h3 h4 => ?_⟩, fun s => ⟨fun v hup => ?_, fun h => ?_, fun h => ?_⟩⟩
  · refine ⟨meterPulse m s, ?_, rfl, onMeter_same s m _, fun n hn => onMeter_other s _ hn⟩
    rw [exec_of_event (f := meterPulse m) rfl, whenUp_of_up hup]
  · subst hl
    rw [exec_of_event (f := logPulse) rfl, whenUp_of_up hup, logPulse_of_fits hd h1 h2 h3 h4]
    rfl
  · exact exec_of_accept hup (o := setVoyageClock v) rfl rfl
  · exact congrArg _ (voyageClockTick_below h)
  · exact congrArg _ (voyageClockTick_largest h)

end Sys2Proof.Machine
end

section
/-! ### R130 to R134: books, marks and the reserve cap -/

namespace Sys2Proof.Machine

variable {s t : State} {k : Fin 8}

/-! #### A pass over the tanks, the meters or the engines -/

/-- A pass over distinct records writes each of them once. `P` says what the pass leaves. -/
theorem forAll_entries {n : Nat} {β : Type} (get : State → Vector β n) {f : Fin n → State → State} {g : Fin n → β → β}
    {P : State → Prop} {l : List (Fin n)} (hl : l.Nodup) (hturn : ∀ a u, P u → P (f a u) ∧ get (f a u) = (get u).set a (g a (get u)[a]))
    (hs : P s) : P (forAll l f s) ∧ ∀ k, (get (forAll l f s))[k] = if k ∈ l then g k (get s)[k] else (get s)[k] := by
  induction l generalizing s with
  | nil => exact ⟨hs, fun k => by simp⟩
  | cons a l ih =>
    obtain ⟨ha, hl⟩ := List.nodup_cons.1 hl
    obtain ⟨hp, hget⟩ := hturn a s hs
    obtain ⟨hP, hrest⟩ := ih hl hp
    refine ⟨hP, fun k => (hrest k).trans ?_⟩
    rw [hget]
    by_cases h : k = a
    · subst h
      simp [ha]
    · simp [h, Fin.val_inj, Ne.symm h]

/-! #### R133: the tank tests -/

/-- R133: a tank as its tests leave it: where it is present, its two marks follow its book. -/
def Settings.tested (p : Settings) (k : Fin 8) (x : Tank) : Tank :=
  if p.tankPresent k then
    ⟨x.book, decide (x.book < litres p.fuel.lowLevelL[k]), decide (litres p.fuel.capacityL[k] < x.book)⟩
  else x

@[simp] theorem tested_book (p : Settings) (k : Fin 8) (x : Tank) : (p.tested k x).book = x.book := by
  unfold Settings.tested
  split <;> rfl

theorem tested_present {p : Settings} (h : p.tankPresent k = true) (x : Tank) : p.tested k x =
    ⟨x.book, decide (x.book < litres p.fuel.lowLevelL[k]), decide (litres p.fuel.capacityL[k] < x.book)⟩ := if_pos h

/-- An update of a tank says what becomes of it as it stands. -/
theorem onTank_congr {f g : Tank → Tank} (h : f s.fuel.tanks[k] = g s.fuel.tanks[k]) : s.onTank k f = s.onTank k g := by
  simp only [State.onTank, State.onFuel, h]

/-- A tank that an update does not move. -/
theorem onTank_self {f : Tank → Tank} (h : f s.fuel.tanks[k] = s.fuel.tanks[k]) : s.onTank k f = s := by
  simp only [State.onTank, State.onFuel, h]
  simp

/-- R133: the LOW mark, as the low-level test leaves it. -/
def State.lowMarked (s : State) (k : Fin 8) : State :=
  s.onTank k fun x => { x with low := decide (x.book < litres s.settings.fuel.lowLevelL[k]) }

theorem lowTest_fuel (k : Fin 8) (s : State) : (lowTest k s).fuel = (s.lowMarked k).fuel := by
  have marked {b : Bool} (hb : decide (s.fuel.tanks[k].book < litres s.settings.fuel.lowLevelL[k]) = b) :
      s.lowMarked k = s.onTank k fun x => { x with low := b } := onTank_congr (by rw [hb])
  have stays {b : Bool} (hb : s.fuel.tanks[k].low = b) : s.onTank k (fun x => { x with low := b }) = s :=
    onTank_self (by rw [← hb])
  simp only [lowTest]
  split
  next hbook =>
    rw [marked (decide_eq_true hbook)]
    split
    next hlow => rw [stays hlow]
    next => simp only [tankReport_frame, report_frame]
  next hbook =>
    rw [marked (decide_eq_false hbook)]
    split
    next => simp only [tankReport_frame]
    next hlow => rw [stays (Bool.eq_false_iff.2 hlow)]

/-- R133: the OVERFULL mark, as the overfull test leaves it. -/
def State.fullMarked (s : State) (k : Fin 8) : State :=
  s.onTank k fun x => { x with overfull := decide (litres s.settings.fuel.capacityL[k] < x.book) }

theorem overfullTest_fuel (k : Fin 8) (s : State) : (overfullTest k s).fuel = (s.fullMarked k).fuel := by
  have marked {b : Bool} (hb : decide (litres s.settings.fuel.capacityL[k] < s.fuel.tanks[k].book) = b) :
      s.fullMarked k = s.onTank k fun x => { x with overfull := b } := onTank_congr (by rw [hb])
  have stays {b : Bool} (hb : s.fuel.tanks[k].overfull = b) : s.onTank k (fun x => { x with overfull := b }) = s :=
    onTank_self (by rw [← hb])
  simp only [overfullTest]
  split
  next hbook =>
    rw [marked (decide_eq_true hbook)]
    split
    next hfull => rw [stays hfull]
    next => simp only [tankReport_frame, report_frame]
  next hbook =>
    rw [marked (decide_eq_false hbook)]
    split
    next => simp only [tankReport_frame]
    next hfull => rw [stays (Bool.eq_false_iff.2 hfull)]

/-- R133: the tests of one tank act on its two marks alone. -/
theorem tankTests_fuel (k : Fin 8) (s : State) : (tankTests k s).fuel = (s.onTank k (s.settings.tested k)).fuel := by
  unfold tankTests
  split
  next h =>
    have hset : (lowTest k s).settings = s.settings := by simp [settings_eq]
    simp only [overfullTest_fuel, State.fullMarked, State.lowMarked, onTank_fuel, lowTest_fuel, hset, tested_present h]
    simp
  next h => rw [onTank_self (f := s.settings.tested k) (if_neg h)]

/-- R125 step 7, R133: the tests of every tank. -/
theorem tankTests_all (s : State) : (forAll allTanks tankTests s).fuel =
      { s.fuel with tanks := (forAll allTanks tankTests s).fuel.tanks } ∧
    ∀ k : Fin 8, (forAll allTanks tankTests s).fuel.tanks[k] = s.settings.tested k s.fuel.tanks[k] := by
  have hturn (k : Fin 8) (u : State) (hu : u.settings = s.settings ∧ u.fuel = { s.fuel with tanks := u.fuel.tanks }) :
      ((tankTests k u).settings = s.settings ∧ (tankTests k u).fuel = { s.fuel with tanks := (tankTests k u).fuel.tanks }) ∧
        (tankTests k u).fuel.tanks = u.fuel.tanks.set k (s.settings.tested k u.fuel.tanks[k]) := by
    obtain ⟨hset, hfuel⟩ := hu
    have htests := tankTests_fuel k u
    rw [hset, onTank_fuel] at htests
    refine ⟨⟨by simpa [settings_eq] using hset, ?_⟩, congrArg Fuel.tanks htests⟩
    rw [htests, hfuel]
  obtain ⟨⟨-, hrest⟩, htanks⟩ := forAll_entries (fun u => u.fuel.tanks) (l := allTanks) (by decide) hturn ⟨rfl, rfl⟩
  exact ⟨hrest, fun k => (htanks k).trans (if_pos (by fin_cases k <;> decide))⟩

/-! #### R134: the reserve -/

theorem bookSum_congr (hf : t.fuel.tanks = s.fuel.tanks) (hs : t.settings.fuel = s.settings.fuel) : t.bookSum = s.bookSum := by
  have hp (k : Fin 8) : t.settings.tankPresent k = s.settings.tankPresent k := by simp only [Settings.tankPresent, hs]
  simp only [State.bookSum, hp, hf]

theorem belowReserve_congr (hf : t.fuel.tanks = s.fuel.tanks) (hs : t.settings.fuel = s.settings.fuel) :
    t.belowReserve = s.belowReserve := by
  simp only [State.belowReserve, bookSum_congr hf hs, hs]

theorem reserveTest_fuel (s : State) : (reserveTest s).fuel = { s.fuel with reserveMark := s.belowReserve } := by
  unfold reserveTest
  split
  next h => simp [(Bool.and_eq_true_iff.1 h).1]
  next => rfl

/-- R134: Fcap and the RESERVE mark follow the books. -/
theorem fcapRecompute_fuel (s : State) :
    (fcapRecompute s).fuel = { s.fuel with fcap := s.fcapNow, reserveMark := s.belowReserve } := by
  obtain ⟨u, hu⟩ : ∃ u, u = if s.fcapNow = s.fuel.fcap then s else recomputeLe (s.onFuel fun f => { f with fcap := s.fcapNow }) :=
    ⟨_, rfl⟩
  have hfuel : u.fuel = { s.fuel with fcap := s.fcapNow } := by
    rw [hu]
    split
    next h => rw [h]
    next => simp
  have hset : u.settings = s.settings := by
    rw [hu]
    split <;> simp [settings_eq]
  have hreport : ∃ w, fcapRecompute s = reserveTest w ∧ w.fuel = u.fuel ∧ w.settings = u.settings := by
    simp only [fcapRecompute, ← hu]
    split
    · exact ⟨_, rfl, by simp, by simp [settings_eq]⟩
    · exact ⟨_, rfl, rfl, rfl⟩
  obtain ⟨w, hw, hwf, hws⟩ := hreport
  have hbelow : w.belowReserve = s.belowReserve := belowReserve_congr (by rw [hwf, hfuel]) (by rw [hws, hset])
  rw [hw, reserveTest_fuel, hbelow, hwf, hfuel]

/-! #### R132: a tank is sounded -/

theorem soundTo_fuel (k : Fin 8) (b : Int) (s : State) : (soundTo k b s).fuel = { s.fuel with
    tanks := s.fuel.tanks.set k { s.fuel.tanks[k] with book := b }
    adjustments := fit64 (s.fuel.adjustments + (b - s.fuel.tanks[k].book)) } := rfl

/-- R132, R133, R134: a sounding with the tests that follow it. -/
def State.sounded (s : State) (k : Fin 8) (b : Int) : State :=
  finish (tankReport k (fcapRecompute (tankTests k (soundTo k b s))))

theorem sounded_fuel (k : Fin 8) (b : Int) (s : State) : ∃ c m, (s.sounded k b).fuel = { s.fuel with
    tanks := s.fuel.tanks.set k (s.settings.tested k { s.fuel.tanks[k] with book := b })
    adjustments := fit64 (s.fuel.adjustments + (b - s.fuel.tanks[k].book)), fcap := c, reserveMark := m } := by
  have hset : (soundTo k b s).settings = s.settings := rfl
  refine ⟨(tankTests k (soundTo k b s)).fcapNow, (tankTests k (soundTo k b s)).belowReserve, ?_⟩
  simp only [State.sounded, finish_frame, tankReport_frame, fcapRecompute_fuel, tankTests_fuel, onTank_fuel, soundTo_fuel, hset]
  simp

/-! #### R130: the order of a tank -/

theorem tankOrder_some {o : Order} (h : s.tankOrder k = some o) : ∃ i, (i, o) ∈ s.liveOrders ∧ k.val + 1 ∈ o.work.tanks := by
  obtain ⟨⟨i, p⟩, hfind, rfl⟩ := Option.map_eq_some_iff.1 h
  exact ⟨i, List.mem_of_find?_eq_some hfind, by simpa using List.find?_some hfind⟩

theorem tankOrder_isSome : (s.tankOrder k).isSome = true ↔ ∃ x ∈ s.liveOrders, k.val + 1 ∈ x.2.work.tanks := by
  simp [State.tankOrder, List.find?_isSome]

/-- R158: at most one live order names a tank. -/
theorem tankOrder_of_mem (hd : OrdersDistinct s) {x : Fin 16 × Order} (hx : x ∈ s.liveOrders) (hk : k.val + 1 ∈ x.2.work.tanks) :
    s.tankOrder k = some x.2 := by
  obtain ⟨o, ho⟩ := Option.isSome_iff_exists.1 (tankOrder_isSome.2 ⟨x, hx, hk⟩)
  obtain ⟨i, hi, hki⟩ := tankOrder_some ho
  obtain ⟨j, p⟩ := x
  by_cases hij : i = j
  · subst hij
    rw [ho, ← mem_liveOrders.1 hi]
    exact mem_liveOrders.1 hx
  · exact absurd hk ((hd i j o p (mem_liveOrders.1 hi) (mem_liveOrders.1 hx) hij).2.2 _ hki)

theorem working_iff {o : Order} : o.working = true ↔ o.state = .active ∨ o.state = .aborting := by simp [Order.working]

/-- R132: a tank is busy where an order that works names it. -/
theorem tankBusy_iff (hd : OrdersDistinct s) : s.tankBusy k = true ↔
    ∃ x ∈ s.liveOrders, k.val + 1 ∈ x.2.work.tanks ∧ (x.2.state = .active ∨ x.2.state = .aborting) := by
  simp only [State.tankBusy, Option.any_eq_true, ← working_iff]
  constructor
  · rintro ⟨o, ho, hw⟩
    obtain ⟨i, hi, hk⟩ := tankOrder_some ho
    exact ⟨(i, o), hi, hk, hw⟩
  · rintro ⟨x, hx, hk, hw⟩
    exact ⟨x.2, tankOrder_of_mem hd hx hk, hw⟩

theorem tankPresent_iff {p : Settings} : p.tankPresent k = true ↔ p.fuel.tankPresent[k] = 1 := by simp [Settings.tankPresent]

/-! #### R132: SET_SOUNDING -/

theorem setSounding_badValue {n q : Nat} (h : n < 1 ∨ 8 < n ∨ 1000000 < q) : setSounding n q s = refuse s .badValue := by
  unfold setSounding
  split
  · rfl
  next k hk =>
    have hn : ¬(n < 1 ∨ 8 < n) := fun hn => by simp [index?_outside hn] at hk
    rw [if_pos (by omega)]

/-- R132: the checks of a sounding of a tank, and what an accepted one does. -/
theorem setSounding_number {q : Nat} (k : Fin 8) (h : q ≤ 1000000) (s : State) : setSounding (k.val + 1) q s =
    if s.settings.tankPresent k = false then refuse s .noSuch
    else if s.tankBusy k = true then refuse s .notNow
    else (s.sounded k (litres q), accept (signed 8 s.fuel.tanks[k].book ++ signed 8 (litres q) ++
      signed 8 (litres q - s.fuel.tanks[k].book))) := by
  have hq : ¬1000000 < q := by omega
  simp only [setSounding, index?_number, hq, if_false, Bool.not_eq_true']
  rfl

/-- Settles O54: each refusal by its check, and an accepted sounding by the books and totals it leaves. -/
theorem soundingReplacesTheBook : Obligations.SoundingReplacesTheBook := by
  unfold Obligations.SoundingReplacesTheBook
  intro s n quantity hup hord
  obtain ⟨hdist, -⟩ := hord
  refine ⟨fun h => exec_of_refusal hup (o := setSounding n quantity) rfl (setSounding_badValue h), fun k hk hq => ?_⟩
  subst hk
  have hsound := setSounding_number k hq s
  refine ⟨fun hp => ?_, fun hp hbusy => ?_, fun hp hbusy => ?_⟩
  · rw [if_pos (Bool.eq_false_iff.2 (mt tankPresent_iff.1 hp))] at hsound
    exact exec_of_refusal hup (o := setSounding _ quantity) rfl hsound
  · rw [if_neg (by simp [tankPresent_iff.2 hp]), if_pos ((tankBusy_iff hdist).2 hbusy)] at hsound
    exact exec_of_refusal hup (o := setSounding _ quantity) rfl hsound
  · rw [if_neg (by simp [tankPresent_iff.2 hp]), if_neg (mt (tankBusy_iff hdist).1 hbusy)] at hsound
    obtain ⟨c, m, hfuel⟩ := sounded_fuel k (litres quantity) s
    refine ⟨_, exec_of_accept hup (o := setSounding _ quantity) rfl hsound, ?_, rfl, ?_, fun j hj => ?_, ?_, ?_, ?_, ?_⟩
    · simp [SameStores, State.answered, State.sounded]
    all_goals rw [State.answered, onPort_fuel, hfuel]
    · simp [litres]
    · simp [Fin.val_inj, Ne.symm hj]
    · rfl

end Sys2Proof.Machine
end

section
/-! ### R144: FUEL settings of a tank -/

namespace Sys2Proof.Machine

variable {s t : State} {k : Fin 8} {num : Nat} {old v : Int}

/-- R144: the settings that say what a tank is: its presence, role, capacity and low level. -/
def tankSetting (num : Nat) : Prop := num = 3 ∨ num = 4 ∨ num = 5 ∨ num = 6

/-- R144: a tank after a write of one of them: made anew, as it stands, or with its marks tested. -/
def Settings.written (p : Settings) (num : Nat) (k : Fin 8) (x : Tank) : Tank :=
  if num = 3 then ⟨0, false, false⟩ else if num = 4 then x else p.tested k x

/-- R144: the adjustments after such a write: the book of a tank made absent is booked off. -/
def Settings.writtenOff (p : Settings) (num : Nat) (k : Fin 8) (f : Fuel) : Int :=
  if num = 3 ∧ p.tankPresent k = false then fit64 (f.adjustments - f.tanks[k].book) else f.adjustments

theorem tankTaken_fuel (k : Fin 8) (s : State) : (tankTaken k s).fuel = { s.fuel with
    tanks := s.fuel.tanks.set k ⟨0, false, false⟩, adjustments := s.settings.writtenOff 3 k s.fuel } := by
  simp only [tankTaken, tankReport_frame, onTank_fuel]
  split
  next h => simp [Settings.writtenOff, h]
  next h =>
    have hbook : s.fuel.adjustments + (0 - s.fuel.tanks[k].book) = s.fuel.adjustments - s.fuel.tanks[k].book := by omega
    rw [soundTo_fuel, hbook, Settings.writtenOff, if_pos ⟨rfl, Bool.eq_false_iff.2 h⟩]
    simp

/-- R144: what the Fuel Account does at such a write. -/
theorem ownerFuel_fuel (hnum : tankSetting num) (hv : v ≠ old) (k : Fin 8) (s : State) : ∃ c m,
    (ownerFuel num (k.val + 1) old v s).fuel = { s.fuel with
      tanks := s.fuel.tanks.set k (s.settings.written num k s.fuel.tanks[k])
      adjustments := s.settings.writtenOff num k s.fuel, fcap := c, reserveMark := m } := by
  obtain rfl | rfl | rfl | rfl := hnum
  · refine ⟨(tankTaken k s).fcapNow, (tankTaken k s).belowReserve, ?_⟩
    simp only [ownerFuel, index?_number, hv, if_false, fcapRecompute_fuel, tankTaken_fuel]
    rfl
  · refine ⟨s.fuel.fcap, s.fuel.reserveMark, ?_⟩
    have hself : s.settings.written 4 k s.fuel.tanks[k] = s.fuel.tanks[k] := rfl
    rw [hself]
    simp [ownerFuel, Settings.writtenOff]
  · refine ⟨s.fuel.fcap, s.fuel.reserveMark, ?_⟩
    simp only [ownerFuel, index?_number, tankTests_fuel, onTank_fuel]
    rfl
  · refine ⟨s.fuel.fcap, s.fuel.reserveMark, ?_⟩
    simp only [ownerFuel, index?_number, tankTests_fuel, onTank_fuel]
    rfl

/-- R144: an order that names the tank forbids the write. -/
theorem tankHeldByOrder_iff (hnum : tankSetting num) (hv : v ≠ old) : s.tankHeldByOrder num (k.val + 1) old v = true ↔
    ∃ x ∈ s.liveOrders, k.val + 1 ∈ x.2.work.tanks := by
  have hset : (num == 3 || num == 4 || num == 5 || num == 6) = true := by simpa [tankSetting, or_assoc] using hnum
  simp [State.tankHeldByOrder, hset, hv, index?_number, tankOrder_isSome]

/-- R144, R185: the write of a value that the section allows. -/
theorem writeSetting_fuel {idx : Nat} (hold : s.settings.get .fuel num idx = some old) (hlo : (settingRange .fuel num).1 ≤ v)
    (hhi : v ≤ (settingRange .fuel num).2) (hcon : (s.settings.put .fuel num idx v).consistent .fuel = true) :
    writeSetting 4 num idx v s = if s.tankHeldByOrder num idx old v = true then refuse s .notNow
      else (finish (ownerFuel num idx old v (storeValue .fuel num idx v s)), accept (signed 4 old ++ signed 4 v)) := by
  have hnamed : s.settingNamed 4 num idx = some (.fuel, old) := by simp [State.settingNamed, Sec.ofNat?, hold]
  have hrange : inRange .fuel num v = true := by simp [inRange, hlo, hhi]
  have hcheck : s.writeRefusal .fuel num idx old v = if s.tankHeldByOrder num idx old v = true then some .notNow else none := by
    simp [State.writeRefusal, State.sectionBlocked, hrange, hcon]
  simp only [writeSetting, hnamed, hcheck]
  cases s.tankHeldByOrder num idx old v with
  | true => rfl
  | false => simp only [Bool.false_eq_true, if_false, ownerActs]

/-- R144: of the settings of a tank, its presence alone says whether it is present. -/
theorem put_tankPresent (p : Settings) (hnum : num = 4 ∨ num = 5 ∨ num = 6) (idx : Nat) (v : Int) (k : Fin 8) :
    (p.put .fuel num idx v).tankPresent k = p.tankPresent k := by
  obtain rfl | rfl | rfl := hnum <;> rfl

theorem put_presence (p : Settings) (k : Fin 8) (v : Int) : (p.put .fuel 3 (k.val + 1) v).tankPresent k = (v == 1) := by
  simp [Settings.tankPresent, Settings.put, FuelSettings.put, putNth_number]

/-- R144, R185: what an accepted write of a tank's setting leaves. -/
theorem writeSetting_accepted (hnum : tankSetting num) (hold : s.settings.get .fuel num (k.val + 1) = some old) (hv : v ≠ old)
    (hlo : (settingRange .fuel num).1 ≤ v) (hhi : v ≤ (settingRange .fuel num).2)
    (hcon : (s.settings.put .fuel num (k.val + 1) v).consistent .fuel = true)
    (hfree : ¬∃ x ∈ s.liveOrders, k.val + 1 ∈ x.2.work.tanks) :
    ∃ t c m, writeSetting 4 num (k.val + 1) v s = (t, accept (signed 4 old ++ signed 4 v)) ∧
      t.store = (storeValue .fuel num (k.val + 1) v s).store ∧
      t.fuel = { s.fuel with
        tanks := s.fuel.tanks.set k (t.settings.written num k s.fuel.tanks[k])
        adjustments := t.settings.writtenOff num k s.fuel, fcap := c, reserveMark := m } := by
  obtain ⟨u, hu⟩ : ∃ u, u = storeValue .fuel num (k.val + 1) v s := ⟨_, rfl⟩
  have hstore : (finish (ownerFuel num (k.val + 1) old v u)).store = u.store := by simp
  have hset : (finish (ownerFuel num (k.val + 1) old v u)).settings = u.settings := by rw [settings_eq, hstore, settings_eq]
  have hsame : u.fuel = s.fuel := by rw [hu]; rfl
  obtain ⟨c, m, hfuel⟩ := ownerFuel_fuel hnum hv k u
  refine ⟨finish (ownerFuel num (k.val + 1) old v u), c, m, ?_, hu ▸ hstore, ?_⟩
  · rw [writeSetting_fuel hold hlo hhi hcon, if_neg (mt (tankHeldByOrder_iff hnum hv).1 hfree), hu]
  · rw [hset, ← hsame, ← hfuel]
    simp

/-- Settles O57: the refusal by the order of the tank, and an accepted write by what the Fuel Account makes of the tank. -/
theorem tankSettingsActOnTheTank : Obligations.TankSettingsActOnTheTank := by
  unfold Obligations.TankSettingsActOnTheTank
  intro s num k old v hup _ hold hnum hv hlo hhi hcon
  refine ⟨fun hnamed => ?_, fun hfree => ?_⟩
  · have hwrite := writeSetting_fuel hold hlo hhi hcon
    rw [if_pos ((tankHeldByOrder_iff hnum hv).2 hnamed)] at hwrite
    exact exec_of_refusal hup (o := writeSetting 4 num _ v) rfl hwrite
  · obtain ⟨t, c, m, hwrite, hstore, hfuel⟩ := writeSetting_accepted hnum hold hv hlo hhi hcon hfree
    have hset : t.settings = s.settings.put .fuel num (k.val + 1) v := by rw [settings_eq, hstore]; rfl
    have hmarks (h : num = 5 ∨ num = 6) (hp : s.settings.tankPresent k = true) :
        t.fuel.tanks[k] = ⟨s.fuel.tanks[k].book, decide (s.fuel.tanks[k].book < litres t.settings.fuel.lowLevelL[k]),
          decide (litres t.settings.fuel.capacityL[k] < s.fuel.tanks[k].book)⟩ := by
      have hpresent : t.settings.tankPresent k = true := by rw [hset, put_tankPresent _ (.inr h), hp]
      have hwritten : t.settings.written num k s.fuel.tanks[k] = t.settings.tested k s.fuel.tanks[k] := by
        obtain rfl | rfl := h <;> rfl
      rw [← tested_present hpresent, ← hwritten, hfuel]
      simp
    refine ⟨t.answered (accept (signed 4 old ++ signed 4 v)), exec_of_accept hup (o := writeSetting 4 num _ v) rfl hwrite, rfl, hset,
      ?_, fun j hj => ?_, ?_, ?_, fun h3 => ⟨?_, fun h1 => ?_, fun h0 => ?_⟩, fun h3 => ?_,
      fun h hp => ⟨congrArg Tank.low (hmarks h hp), congrArg Tank.overfull (hmarks h hp)⟩⟩
    · exact (congrArg Store.unsaved hstore)
    all_goals simp only [State.answered, onPort_fuel, hfuel]
    · simp [Fin.val_inj, Ne.symm hj]
    · subst h3; simp [Settings.written]
    · subst h3 h1
      have hpresent : t.settings.tankPresent k = true := by rw [hset, put_presence]; rfl
      exact ⟨hpresent, if_neg (by simp [hpresent])⟩
    · subst h3 h0
      have habsent : t.settings.tankPresent k = false := by rw [hset, put_presence]; rfl
      exact ⟨habsent, if_pos ⟨rfl, habsent⟩⟩
    · refine ⟨if_neg fun h => h3 h.1, ?_⟩
      simp only [Settings.written, h3, if_false]
      split <;> simp

end Sys2Proof.Machine
end

section
/-! ### R136, R139: the orders that work on the pump and on the bunker meter -/

namespace Sys2Proof.Machine

variable {s t : State} {i : Fin 16} {o p : Order} {α : Type} {kind : Work → Option α} {x y : α}

/-- The figures of a TRANSFER, and those of a BUNKER. -/
def Work.transfer? : Work → Option TransferWork
  | .transfer w => some w
  | _ => none

def Work.bunker? : Work → Option BunkerWork
  | .bunker b => some b
  | _ => none

/-- R160: what a slot adds to the search for the order of a kind that works. -/
def workIn (kind : Work → Option α) (i : Fin 16) (o : Option Order) : Option (Fin 16 × Order × α) :=
  o.bind fun o => if o.working then (kind o.work).map fun x => (i, o, x) else none

/-- The order of a kind that works. -/
def State.workOn (s : State) (kind : Work → Option α) : Option (Fin 16 × Order × α) :=
  allSlots.findSome? fun i => workIn kind i s.orders.slots[i]

theorem workIn_some : workIn kind i (some o) = if o.working then (kind o.work).map fun x => (i, o, x) else none := rfl

theorem workIn_eq (h : o.working = true) (hx : kind o.work = some x) : workIn kind i (some o) = some (i, o, x) := by
  simp [workIn_some, h, hx]

/-- An order of another kind adds nothing. -/
theorem workIn_other (h : kind o.work = none) : workIn kind i (some o) = none := by
  simp [workIn_some, h]

/-- A search over the live orders is one over the slots. -/
theorem liveOrders_findSome? {β : Type} (f : Fin 16 × Order → Option β) :
    s.liveOrders.findSome? f = allSlots.findSome? fun i => s.orders.slots[i].bind fun o => f (i, o) := by
  rw [← List.head?_filterMap, ← List.head?_filterMap, State.liveOrders, List.filterMap_filterMap]
  congr 2
  funext i
  cases s.orders.slots[i] <;> rfl

theorem transferOrder_eq (s : State) : s.transferOrder = s.workOn Work.transfer? := by
  rw [State.transferOrder, liveOrders_findSome?, State.workOn]
  congr 1
  funext i
  cases s.orders.slots[i] with
  | none => rfl
  | some o => cases hw : o.work <;> simp [workIn_some, hw, Work.transfer?]

theorem bunkerOrder_eq (s : State) : s.bunkerOrder = s.workOn Work.bunker? := by
  rw [State.bunkerOrder, liveOrders_findSome?, State.workOn]
  congr 1
  funext i
  cases s.orders.slots[i] with
  | none => rfl
  | some o => cases hw : o.work <;> simp [workIn_some, hw, Work.bunker?]

/-- The order that works stands in its slot. -/
theorem workIn_slot {q : Option Order} {j : Fin 16} (h : workIn kind i q = some (j, o, x)) :
    j = i ∧ q = some o ∧ o.working = true ∧ kind o.work = some x := by
  obtain ⟨p, rfl, hp⟩ := Option.bind_eq_some_iff.1 h
  split at hp
  next hw =>
    obtain ⟨y, hy, he⟩ := Option.map_eq_some_iff.1 hp
    obtain ⟨rfl, rfl, rfl⟩ : i = j ∧ p = o ∧ y = x := by simpa using he
    exact ⟨rfl, rfl, hw, hy⟩
  next => exact nomatch hp

/-- The search finds the same where every slot adds the same. -/
theorem workOn_congr (h : ∀ j, workIn kind j t.orders.slots[j] = workIn kind j s.orders.slots[j]) :
    t.workOn kind = s.workOn kind := by
  simp only [State.workOn, h]

/-- The order that works, after its slot was written with one of its kind that works. -/
theorem workOn_replaced (h : s.workOn kind = some (i, o, x))
    (hother : ∀ j, j ≠ i → workIn kind j t.orders.slots[j] = workIn kind j s.orders.slots[j])
    (hslot : t.orders.slots[i] = some p) (hw : p.working = true) (hy : kind p.work = some y) :
    t.workOn kind = some (i, p, y) := by
  obtain ⟨as, j, bs, hl, hj, has⟩ := List.findSome?_eq_some_iff.1 h
  obtain ⟨rfl, -⟩ := workIn_slot hj
  refine List.findSome?_eq_some_iff.2 ⟨as, i, bs, hl, by rw [hslot, workIn_eq hw hy], fun a ha => ?_⟩
  have hne : a ≠ i := fun he => nomatch (has i (he ▸ ha)).symm.trans hj
  exact (hother a hne).trans (has a ha)

/-- The first order of a kind that works. -/
theorem workOn_new (h : s.workOn kind = none)
    (hother : ∀ j, j ≠ i → workIn kind j t.orders.slots[j] = workIn kind j s.orders.slots[j])
    (hslot : t.orders.slots[i] = some p) (hw : p.working = true) (hy : kind p.work = some y) :
    t.workOn kind = some (i, p, y) := by
  have hnone : ∀ j, workIn kind j s.orders.slots[j] = none := fun j => List.findSome?_eq_none_iff.1 h j (mem_allSlots j)
  obtain ⟨as, bs, hl, hi⟩ := List.eq_append_cons_of_mem (mem_allSlots i)
  refine List.findSome?_eq_some_iff.2 ⟨as, i, bs, hl, by rw [hslot, workIn_eq hw hy], fun a ha => ?_⟩
  exact (hother a fun he => hi (he ▸ ha)).trans (hnone a)

/-- R135: the pump runs for a TRANSFER that does not coast. -/
theorem pumpOn_of_order {w : TransferWork} (hup : s.up = true) (h : s.transferOrder = some (i, o, w)) : s.pumpOn = !w.coasting := by
  simp [State.pumpOn, hup, h]

/-- R139: the valve is open for a BUNKER that is ACTIVE. -/
theorem bunkerOpen_of_order {b : BunkerWork} (hup : s.up = true) (h : s.bunkerOrder = some (i, o, b)) :
    s.bunkerOpen = (o.state == .active) := by
  simp [State.bunkerOpen, hup, h]

end Sys2Proof.Machine
end

section
/-! ### R135, R138, R139, R141, R158, R166: fuel orders are checked, started and aborted -/

namespace Sys2Proof.Machine

variable {s t : State} {i : Fin 16} {o : Order} {spec : OrderSpec} {tag n : Nat}

/-! #### R158: the checks -/

theorem tankPresentAt_number (s : State) (k : Fin 8) : s.tankPresentAt (k.val + 1) = s.settings.tankPresent k := by
  simp [State.tankPresentAt, index?_number]

/-- R130: a tank that is present has a number of 1 to 8. -/
theorem tankPresentAt_range (h : s.tankPresentAt n = true) : 1 ≤ n ∧ n ≤ 8 := by
  by_contra hn
  have hnone : index? n 1 8 = none := index?_outside (by omega)
  simp [State.tankPresentAt, hnone] at h

theorem number_of_range (h : 1 ≤ n) (h' : n ≤ 8) : ∃ k : Fin 8, n = k.val + 1 := ⟨⟨n - 1, by omega⟩, by simp only; omega⟩

/-- R130: the tanks of a list are all present, where no number of it is that of an absent one. -/
theorem all_tankPresentAt {l : List Nat} (h : ∀ n ∈ l, 1 ≤ n ∧ n ≤ 8) : l.all s.tankPresentAt = true ↔
    ¬∃ k : Fin 8, k.val + 1 ∈ l ∧ s.settings.fuel.tankPresent[k] ≠ 1 := by
  rw [List.all_eq_true]
  constructor
  · rintro hall ⟨k, hk, hp⟩
    exact hp (tankPresent_iff.1 (tankPresentAt_number s k ▸ hall _ hk))
  · intro hnone n hn
    obtain ⟨k, rfl⟩ := number_of_range (h n hn).1 (h n hn).2
    rw [tankPresentAt_number, tankPresent_iff]
    exact not_not.1 fun hp => hnone ⟨k, hn, hp⟩

theorem namedAlready_tanks (h : specCoupling spec = none) : s.namedAlready spec = true ↔
    ∃ x ∈ s.liveOrders, ∃ n ∈ specTanks spec, n ∈ x.2.work.tanks := by
  simp [State.namedAlready, h]

theorem freeSlot_none : s.freeSlot = none ↔ ∀ i : Fin 16, s.orders.slots[i] ≠ none := by
  simp [State.freeSlot, mem_allSlots]

theorem orderTagged_isSome : (s.orderTagged tag).isSome = true ↔ ∃ x ∈ s.liveOrders, x.2.tag = tag := by
  simp [State.orderTagged, List.find?_isSome]

/-- R158: the checks of an order on tanks, in turn. -/
theorem postRefusal_tanks (h : specCoupling spec = none) : s.postRefusal tag spec =
    if (s.orderTagged tag).isSome = true then some .tagInUse
    else if tag = 0 ∨ OrderSpec.wellPosed spec = false then some .badValue
    else if (specTanks spec).all s.tankPresentAt = false then some .noSuch
    else if s.namedAlready spec = true then some .duplicate
    else if s.freeSlot = none then some .tableFull
    else none := by
  simp only [State.postRefusal, h, Bool.not_eq_true', Option.isNone_iff_eq_none]

/-- R158: a refused order. -/
theorem exec_postOrder_refused {why : Status} (hup : s.up = true) (h : s.postRefusal tag spec = some why) :
    exec (.postOrder tag spec) s = .next (s.answered ⟨why, []⟩) :=
  exec_of_refusal hup (o := postOrder tag spec) rfl (by simp only [postOrder, h])

/-- The order that the statements post: a TRANSFER, or a BUNKER of its first tank. -/
def fuelSpec (transfer : Bool) (a b l : Nat) : OrderSpec := if transfer then .transfer a b l else .bunker a

theorem fuelSpec_coupling (transfer : Bool) (a b l : Nat) : specCoupling (fuelSpec transfer a b l) = none := by
  cases transfer <;> rfl

theorem fuelSpec_tanks (transfer : Bool) (a b l : Nat) : specTanks (fuelSpec transfer a b l) = if transfer then [a, b] else [a] := by
  cases transfer <;> rfl

/-- R158: a TRANSFER names two tanks of 1 to 8 and an amount, a BUNKER one tank. -/
theorem fuelSpec_wellPosed (transfer : Bool) (a b l : Nat) : OrderSpec.wellPosed (fuelSpec transfer a b l) = false ↔
    (∃ n ∈ (if transfer then [a, b] else [a]), n < 1 ∨ 8 < n) ∨ (transfer = true ∧ (l < 1 ∨ 500000 < l ∨ a = b)) := by
  cases transfer with
  | false =>
    simp [fuelSpec, OrderSpec.wellPosed]
    omega
  | true =>
    simp [fuelSpec, OrderSpec.wellPosed]
    omega

/-! #### R138, R141, R166: aborts -/

/-- R167, R200: the body of the report of an order on tanks that ends before it started. -/
theorem Work.doneBody_aborted (w : Work) : w.doneBody (.ofWire .aborted none) =
    unsigned 1 w.code ++ [2] ++ w.target ++ [0, 0, 0] ++ [0] ++ [0, 0, 0, 0, 0, 0, 0, 0] := by
  have hcode : unsigned 1 OrderResult.aborted.code = [2] := rfl
  have htension : optional 2 (unsigned 2) none = [0, 0, 0] := rfl
  have hcast : unsigned 1 0 = [0] := rfl
  simp only [Work.doneBody, Completion.ofWire, hcode, htension, hcast, signed_zero]

/-- R138: the order of a TRANSFER that is aborted. -/
def Order.coasts (o : Order) (w : TransferWork) : Order := { o with state := .aborting, work := .transfer w.abort }

theorem windDown_transfer {w : TransferWork} (h : o.work = .transfer w) (i : Fin 16) (s : State) :
    windDown i o s = s.setSlot i (some (o.coasts w)) := by
  unfold windDown
  rw [h]
  rfl

theorem windDown_bunker {w : BunkerWork} (h : o.work = .bunker w) (i : Fin 16) (s : State) :
    windDown i o s = s.setSlot i (some { o with state := .aborting }) := by
  unfold windDown
  rw [h]

/-- R138: a TRANSFER that is aborted coasts. -/
theorem abort_coasting (w : TransferWork) : w.abort.coasting = true := by
  unfold TransferWork.abort
  split
  next h => exact h
  next => rfl

/-- Settles O58: each refusal by the chain of the checks, each abort by the state of the order. -/
theorem fuelOrdersAreCheckedAndAborted : Obligations.FuelOrdersAreCheckedAndAborted := by
  unfold Obligations.FuelOrdersAreCheckedAndAborted
  refine ⟨fun s tag a b l transfer hup => ?_, fun s tag i o hup ht htanks => ?_⟩
  · intro cmd names inUse bad absent twice full
    have hcheck := postRefusal_tanks (s := s) (tag := tag) (fuelSpec_coupling transfer a b l)
    have hnames : specTanks (fuelSpec transfer a b l) = names := fuelSpec_tanks transfer a b l
    have hbad : (tag = 0 ∨ OrderSpec.wellPosed (fuelSpec transfer a b l) = false) ↔ bad := by rw [fuelSpec_wellPosed]
    have hpresent (h : ¬bad) : names.all s.tankPresentAt = false ↔ absent := by
      rw [← Bool.not_eq_true, all_tankPresentAt, not_not]
      intro n hn
      by_contra hrange
      exact h (.inr (.inl ⟨n, hn, by omega⟩))
    have htwice := namedAlready_tanks (s := s) (fuelSpec_coupling transfer a b l)
    rw [hnames] at hcheck htwice
    have hcmd {why : Status} (h : s.postRefusal tag (fuelSpec transfer a b l) = some why) : cmd = .next (s.answered ⟨why, []⟩) :=
      exec_postOrder_refused hup h
    refine ⟨fun hi => hcmd ?_, fun ⟨hi, hb⟩ => hcmd ?_, fun ⟨hi, hb, ha⟩ => hcmd ?_, fun ⟨hi, hb, ha, hw⟩ => hcmd ?_,
      fun ⟨hi, hb, ha, hw, hf⟩ => hcmd ?_⟩
    · rw [hcheck, if_pos (orderTagged_isSome.2 hi)]
    · rw [hcheck, if_neg (mt orderTagged_isSome.1 hi), if_pos (hbad.2 hb)]
    · rw [hcheck, if_neg (mt orderTagged_isSome.1 hi), if_neg (mt hbad.1 hb), if_pos ((hpresent hb).2 ha)]
    · rw [hcheck, if_neg (mt orderTagged_isSome.1 hi), if_neg (mt hbad.1 hb), if_neg (mt (hpresent hb).1 ha), if_pos (htwice.2 hw)]
    · rw [hcheck, if_neg (mt orderTagged_isSome.1 hi), if_neg (mt hbad.1 hb), if_neg (mt (hpresent hb).1 ha),
        if_neg (mt htwice.1 hw), if_pos (freeSlot_none.2 hf)]
  · obtain ⟨ho, -⟩ := orderTagged_some ht
    have done {t : State} {a : Answer} (h : abortOrder tag s = (t, a)) : exec (.abortOrder tag) s = .next (t.answered a) :=
      exec_of_accept hup (o := abortOrder tag) rfl h
    have hactive (hst : o.state = .active) : abortOrder tag s = (windDown i o s, ⟨.accepted, [4]⟩) := by
      simp only [abortOrder, ht, hst]
      rfl
    refine ⟨fun hst => done ?_, fun hst => done ?_, fun hst => ⟨fun w hw => ?_, fun w hw => ?_⟩⟩
    · rw [← Work.doneBody_aborted]
      have hend := completeOrder_idle ho (by simp [Order.working, hst]) (.ofWire .aborted none)
      simp only [abortOrder, ht, hst, hend]
      rfl
    · simp only [abortOrder, ht, hst]
      rfl
    · refine ⟨_, done (hactive hst), ?_, fun hpump => ?_⟩
      · rw [windDown_transfer hw]
        rfl
      · have hsame := setSlot_same s i (some (o.coasts w))
        have hother (j : Fin 16) (hj : j ≠ i) := congrArg (workIn Work.transfer? j) (setSlot_other s (some (o.coasts w)) hj)
        have horder := workOn_replaced (p := o.coasts w) (y := w.abort) ((transferOrder_eq s).symm.trans hpump) hother hsame rfl rfl
        rw [windDown_transfer hw, pumpOn_of_order (s := s.setSlot i _) hup ((transferOrder_eq _).trans horder), abort_coasting]
        rfl
    · refine ⟨_, done (hactive hst), windDown_bunker hw i s, fun hopen => ?_⟩
      have hsame := setSlot_same s i (some { o with state := .aborting })
      have hother (j : Fin 16) (hj : j ≠ i) :=
        congrArg (workIn Work.bunker? j) (setSlot_other s (some { o with state := .aborting }) hj)
      have horder := workOn_replaced (y := w) ((bunkerOrder_eq s).symm.trans hopen) hother hsame rfl (by simp [hw, Work.bunker?])
      rw [windDown_bunker hw, bunkerOpen_of_order (s := s.setSlot i _) hup ((bunkerOrder_eq _).trans horder)]
      rfl

end Sys2Proof.Machine
end

section
/-! ### R135, R139, R159, R164: posted fuel orders -/

namespace Sys2Proof.Machine

variable {s t : State} {i : Fin 16} {spec : OrderSpec} {tag n : Nat} {w : Work} {r : Resource}

/-- R158: an order on tanks that passes the checks takes its slot. -/
theorem postOrder_tanks (htag : 1 ≤ tag) (hspec : specCoupling spec = none) (hwell : OrderSpec.wellPosed spec = true)
    (hpresent : ∀ n ∈ specTanks spec, s.tankPresentAt n = true)
    (hlive : ∀ x ∈ s.liveOrders, x.2.tag ≠ tag ∧ ∀ n ∈ specTanks spec, n ∉ x.2.work.tanks) (hi : s.freeSlot = some i) :
    postOrder tag spec s = (finish (placeOrder tag i (s.workOf spec) (s.resourceOf spec) s),
      accept (unsigned 2 tag ++ unsigned 1 i.val ++ unsigned 1 (s.firstState (s.workOf spec) (s.resourceOf spec)).code ++
        counted Pos.byte (s.workOf spec).castOffList)) := by
  have htagged : ¬(s.orderTagged tag).isSome = true := fun h => by
    obtain ⟨x, hx, he⟩ := orderTagged_isSome.1 h
    exact (hlive x hx).1 he
  have hnamed : ¬s.namedAlready spec = true := fun h => by
    obtain ⟨x, hx, n, hn, he⟩ := (namedAlready_tanks hspec).1 h
    exact (hlive x hx).2 n hn he
  have hwell' : ¬(tag = 0 ∨ OrderSpec.wellPosed spec = false) := by
    rintro (h | h)
    · omega
    · simp [hwell] at h
  have hall : ¬(specTanks spec).all s.tankPresentAt = false := by simpa using hpresent
  have hok : s.postRefusal tag spec = none := by
    rw [postRefusal_tanks hspec, if_neg htagged, if_neg hwell', if_neg hall, if_neg hnamed, if_neg (by simp [hi])]
  simp only [postOrder, hok, hi]

/-- R159: an order on tanks works where its arbiter has a place, and is queued where it has none. -/
theorem firstState_tanks (hw : w.coupling? = none) (r : Resource) :
    s.firstState w (some r) = if 0 < s.freePlaces r then .active else .queued := by
  have hrelease : w.isRelease = false := by cases w <;> first | rfl | cases hw
  simp [State.firstState, hrelease]

theorem tankReportOf_eq (n : Nat) (s : State) : tankReportOf n s = { s with port := (tankReportOf n s).port } := by
  unfold tankReportOf
  split <;> rfl

/-- R135, R139: the start of an order on tanks queues the reports of its tanks. -/
theorem handToBlock_tanks (hw : w.coupling? = none) (s : State) : handToBlock w s = { s with port := (handToBlock w s).port } := by
  cases w with
  | haul c => cases hw
  | release c f l => cases hw
  | transfer w =>
    rw [handToBlock, tankReportOf_eq, tankReportOf_eq w.source]
  | bunker b => exact tankReportOf_eq b.dest s

/-- R159, R164: the Order Table after an order was posted that works at once. -/
def Orders.started (x : Orders) (i : Fin 16) (o : Order) : Orders :=
  ({ x with slots := x.slots.set i (some o) }).setLast i o.resource

/-- R159: the reply of a posted order without a cast-off set. -/
theorem postReply_eq (tag : Nat) (i : Fin 16) {st : OrderState} {code : Byte} (h : unsigned 1 st.code = [code]) :
    unsigned 2 tag ++ unsigned 1 i.val ++ unsigned 1 st.code ++ counted Pos.byte [] = unsigned 2 tag ++ unsigned 1 i.val ++ [code, 0] := by
  rw [h, List.append_assoc]
  rfl

/-- R199: the answer to a posted order on tanks. -/
def State.posts (s : State) (tag : Nat) (i : Fin 16) (w : Work) (r : Resource) : State × Answer :=
  (finish (placeOrder tag i w (some r) s), accept (unsigned 2 tag ++ unsigned 1 i.val ++
    unsigned 1 (s.firstState w (some r)).code ++ counted Pos.byte []))

/-- R164: an order on tanks that is posted and works. -/
theorem exec_postOrder_works (hup : s.up = true) (hq : s.quiet)
    (ho : postOrder tag spec s = s.posts tag i w r) (hw : w.coupling? = none) (hplace : 0 < s.freePlaces r) :
    ∃ t, exec (.postOrder tag spec) s = .next t ∧ t = { s with orders := t.orders, port := t.port } ∧
      t.port.answer = some ⟨.accepted, unsigned 2 tag ++ unsigned 1 i.val ++ [3, 0]⟩ ∧
      t.orders = s.orders.started i ⟨tag, w, .active, some r, none, none⟩ := by
  have hfirst : s.firstState w (some r) = .active := (firstState_tanks hw r).trans (if_pos hplace)
  obtain ⟨u, hu⟩ : ∃ u, u = s.setSlot i (some ⟨tag, w, .queued, some r, s.waitTimer w .active, none⟩) := ⟨_, rfl⟩
  have hslot : u.orders.slots[i] = some ⟨tag, w, .queued, some r, s.waitTimer w .active, none⟩ := by rw [hu, setSlot_same]
  have htimer : u.workTimer w = none := by cases w <;> first | rfl | cases hw
  have hstarts : placeOrder tag i w (some r) s = startOrder i u := by rw [placeOrder_active hfirst, hu]
  have hstart := startOrder_eq hslot
  rw [handToBlock_tanks hw] at hstart
  have horders : (startOrder i u).orders = s.orders.started i ⟨tag, w, .active, some r, none, none⟩ := by
    rw [startOrder_orders i u _ hslot, htimer, hu]
    simp [Orders.started, State.setSlot]
  have hstate : startOrder i u = { s with orders := (startOrder i u).orders, port := (startOrder i u).port } := by
    rw [hstart, hu]
    rfl
  have hquiet : (startOrder i u).quiet := by
    rw [State.quiet, hstate]
    exact hq
  rw [State.posts, hfirst, postReply_eq tag i (st := .active) (code := 3) rfl, hstarts, finish_of_quiet hquiet] at ho
  generalize startOrder i u = v at *
  refine ⟨_, exec_of_accept hup (o := postOrder tag spec) rfl ho, ?_, rfl, horders⟩
  rw [hstate]
  rfl

/-- R159: an order on tanks that is posted and queued. -/
theorem exec_postOrder_queues (hup : s.up = true) (hq : s.quiet) (ho : postOrder tag spec s = s.posts tag i w r)
    (hw : w.coupling? = none) (hplace : s.freePlaces r = 0) :
    exec (.postOrder tag spec) s = .next ((s.setSlot i (some ⟨tag, w, .queued, some r, none, none⟩)).answered
      ⟨.accepted, unsigned 2 tag ++ unsigned 1 i.val ++ [1, 0]⟩) := by
  have hfirst : s.firstState w (some r) = .queued := (firstState_tanks hw r).trans (if_neg (by omega))
  have htimer : s.waitTimer w .queued = none := by cases w <;> first | rfl | cases hw
  rw [State.posts, hfirst, postReply_eq tag i (st := .queued) (code := 1) rfl] at ho
  have hexec := exec_postOrder_waits hup hq ho (by simp [hfirst])
  rwa [hfirst, htimer] at hexec

/-- R160: beside the order that was posted, every slot adds what it did. -/
theorem workIn_started {α : Type} (kind : Work → Option α) {o : Order} (h : t.orders = s.orders.started i o) (j : Fin 16) (hj : j ≠ i) :
    workIn kind j t.orders.slots[j] = workIn kind j s.orders.slots[j] := by
  have hne : i.val ≠ j.val := fun he => hj (Fin.ext he.symm)
  rw [h]
  simp [Orders.started, Vector.getElem_set_ne, hne]

theorem started_slot {o : Order} (h : t.orders = s.orders.started i o) : t.orders.slots[i] = some o := by
  rw [h]
  simp [Orders.started]

theorem up_of_ctl (h : t.ctl = s.ctl) : t.up = s.up := by simp only [State.up, h]

/-- Settles O55: the checks pass, and the arbiter's free place decides the first state. -/
theorem postedFuelOrdersStartOrQueue : Obligations.PostedFuelOrdersStartOrQueue := by
  unfold Obligations.PostedFuelOrdersStartOrQueue
  intro s tag a b l i hup hq htag hi hlive ha other tw bw order reply
  have ha' := tankPresentAt_range ha
  have hbunker : postOrder tag (.bunker a) s = s.posts tag i bw .bunkerMeter :=
    postOrder_tanks (spec := .bunker a) htag rfl (by simp [OrderSpec.wellPosed, ha']) (by simpa [specTanks] using ha)
      (by simpa [specTanks] using hlive) hi
  have htransfer (h : other) : postOrder tag (.transfer a b l) s = s.posts tag i tw .pump := by
    obtain ⟨hb, hab, hl, hl', hfree⟩ := h
    have hb' := tankPresentAt_range hb
    refine postOrder_tanks (spec := .transfer a b l) htag rfl ?_ ?_ (fun x hx => ⟨(hlive x hx).1, ?_⟩) hi
    · simp [OrderSpec.wellPosed, ha', hb', hl, hl', hab]
    · simp [specTanks, ha, hb]
    · simp [specTanks, (hlive x hx).2, hfree x hx]
  refine ⟨fun h hplace => ?_, fun h hplace => exec_postOrder_queues hup hq (htransfer h) rfl hplace, fun hplace => ?_,
    fun hplace => exec_postOrder_queues hup hq hbunker rfl hplace⟩
  · obtain ⟨t, hexec, hstate, hanswer, horders⟩ := exec_postOrder_works hup hq (htransfer h) rfl hplace
    refine ⟨t, hexec, hstate, hanswer, horders, fun hnone => ?_⟩
    have hpump := workOn_new ((transferOrder_eq s).symm.trans hnone) (workIn_started _ horders) (started_slot horders) rfl rfl
    exact pumpOn_of_order ((up_of_ctl (by rw [hstate])).trans hup) ((transferOrder_eq t).trans hpump)
  · obtain ⟨t, hexec, hstate, hanswer, horders⟩ := exec_postOrder_works hup hq hbunker rfl hplace
    refine ⟨t, hexec, hstate, hanswer, horders, fun hnone => ?_⟩
    have hopen := workOn_new ((bunkerOrder_eq s).symm.trans hnone) (workIn_started _ horders) (started_slot horders) rfl rfl
    exact bunkerOpen_of_order ((up_of_ctl (by rw [hstate])).trans hup) ((bunkerOrder_eq t).trans hopen)

end Sys2Proof.Machine
end

section
/-! ### R124 to R129: meters, nets and the open leg -/

namespace Sys2Proof.Machine

variable {s t u : State} {k : Fin 8} {e : Fin 4} {m : Fin 10} {v : Vector (Option Int) 10}

/-! #### R124, R126: the meters -/

/-- R124: a meter with the temperature of its channel. -/
def Meter.warmed (r : Option Int) (x : Meter) : Meter :=
  { x with
    reading := r, status := (temperatureOf r).1, t10 := (temperatureOf r).2, mark := (temperatureOf r).1 != .inRange }

/-- R126: a meter after its correction. -/
def Meter.corrected (p : FuelSettings) (m : Fin 10) (x : Meter) : Meter :=
  let c := correctionTerm p.alpha x.t10
  let q := correctionSum x.count p.meterK[m] c x.remainder
  { x with lastCount := x.count, count := 0, term := c, lastVolume := q / 1000000, remainder := q % 1000000 }

theorem takeTemperature_fuel (m : Fin 10) (r : Option Int) (s : State) :
    (takeTemperature m r s).fuel = (s.onMeter m (Meter.warmed r)).fuel := by
  simp only [takeTemperature]
  split
  · simp only [tempAlarm, report_frame]
    rfl
  · rfl

theorem correctMeter_fuel (m : Fin 10) (s : State) :
    (correctMeter m s).fuel = (s.onMeter m (Meter.corrected s.settings.fuel m)).fuel := by
  rfl

/-- A pass over the meters acts on each of them once. -/
theorem forAllMeters_fuel {f : Fin 10 → State → State} {g : Fin 10 → Meter → Meter}
    (hf : ∀ m u, u.settings = s.settings → (f m u).settings = u.settings ∧ (f m u).fuel = (u.onMeter m (g m)).fuel) :
    (forAll allMeters f s).settings = s.settings ∧
      (forAll allMeters f s).fuel = { s.fuel with meters := (forAll allMeters f s).fuel.meters } ∧
      ∀ m, (forAll allMeters f s).fuel.meters[m] = g m s.fuel.meters[m] := by
  have hturn (m : Fin 10) (u : State) (hu : u.settings = s.settings ∧ u.fuel = { s.fuel with meters := u.fuel.meters }) :
      ((f m u).settings = s.settings ∧ (f m u).fuel = { s.fuel with meters := (f m u).fuel.meters }) ∧
        (f m u).fuel.meters = u.fuel.meters.set m (g m u.fuel.meters[m]) := by
    obtain ⟨hset, hfuel⟩ := hu
    obtain ⟨hset', hfuel'⟩ := hf m u hset
    refine ⟨⟨hset'.trans hset, ?_⟩, by rw [hfuel']; rfl⟩
    rw [hfuel', State.onMeter, onFuel_fuel, hfuel]
  obtain ⟨⟨hset, hrest⟩, hmeters⟩ := forAll_entries (fun u => u.fuel.meters) (l := allMeters) (by decide) hturn ⟨rfl, rfl⟩
  exact ⟨hset, hrest, fun m => (hmeters m).trans (if_pos (by fin_cases m <;> decide))⟩

/-- R125, steps 1 and 2: every temperature is taken, and every count corrected. -/
def State.measured (s : State) (v : Vector (Option Int) 10) : State :=
  forAll allMeters correctMeter (forAll allMeters (fun m => takeTemperature m v[m]) s)

theorem measured_fuel (s : State) (v : Vector (Option Int) 10) :
    (s.measured v).fuel = { s.fuel with meters := (s.measured v).fuel.meters } ∧
      ∀ m : Fin 10, (s.measured v).fuel.meters[m] = (s.fuel.meters[m].warmed v[m]).corrected s.settings.fuel m := by
  obtain ⟨hset, hrest, hmeters⟩ := forAllMeters_fuel (s := s) (f := fun m => takeTemperature m v[m])
    (g := fun m => Meter.warmed v[m]) fun m u _ => ⟨by simp [settings_eq], takeTemperature_fuel m _ u⟩
  obtain ⟨-, hrest', hmeters'⟩ := forAllMeters_fuel (s := forAll allMeters (fun m => takeTemperature m v[m]) s) (f := correctMeter)
    (g := Meter.corrected s.settings.fuel) fun m u hu => ⟨rfl, by rw [correctMeter_fuel, hu, hset]⟩
  exact ⟨hrest'.trans (by rw [hrest]; rfl), fun m => (hmeters' m).trans (congrArg _ (hmeters m))⟩

/-- R124: the correction temperature is the reading held to its range, or 15 °C; the mark stands where the reading failed or was held. -/
theorem temperatureOf_eq (r : Option Int) :
    (temperatureOf r).2 = (match r with | none => 150 | some x => max (-200) (min 900 x)) ∧
      (((temperatureOf r).1 != .inRange) = true ↔ ∀ x, r = some x → x < -200 ∨ 900 < x) := by
  cases r with
  | none => simp [temperatureOf]
  | some x =>
    by_cases hlow : x < -200
    · simp [temperatureOf, hlow]
      omega
    · by_cases hhigh : 900 < x
      · simp [temperatureOf, hlow, hhigh]
        omega
      · simp [temperatureOf, hlow, hhigh]
        omega

/-- R126: nothing is lost in a correction. -/
theorem corrected_exact (p : FuelSettings) (m : Fin 10) (x : Meter) : (x.corrected p m).lastVolume * 1000000 +
      (x.corrected p m).remainder = correctionSum x.count p.meterK[m] (correctionTerm p.alpha x.t10) x.remainder ∧
    0 ≤ (x.corrected p m).remainder ∧ (x.corrected p m).remainder < 1000000 :=
  ⟨Int.ediv_mul_add_emod _ _, Int.emod_nonneg _ (by decide), Int.emod_lt_of_pos _ (by decide)⟩

end Sys2Proof.Machine
end

section
/-! ### R125 to R131, R136, R139: what an interval books -/

namespace Sys2Proof.Machine

variable {s t u : State} {k : Fin 8} {e : Fin 4} {i : Fin 16} {o : Order} {v : Vector (Option Int) 10}

/-! #### R131: the book rule -/

theorem takeFromBook_fuel (k : Fin 8) (x : Int) (s : State) : (takeFromBook k x s).fuel = { s.fuel with
    tanks := s.fuel.tanks.set k { s.fuel.tanks[k] with
      book := if x ≤ s.fuel.tanks[k].book then fitNat64 (s.fuel.tanks[k].book - x) else 0 }
    adjustments := if x ≤ s.fuel.tanks[k].book then s.fuel.adjustments
      else fit64 (s.fuel.adjustments + (x - s.fuel.tanks[k].book)) } := by
  simp only [takeFromBook]
  split
  · rfl
  · rfl

/-- What the book rule may act on: the books, the adjustments of the account, and those of the open leg. -/
structure BooksOnly (s t : State) : Prop where
  fuel : t.fuel = { s.fuel with tanks := t.fuel.tanks, adjustments := t.fuel.adjustments }
  net : t.legs.current.net = s.legs.current.net
  running : t.legs.current.running = s.legs.current.running

theorem BooksOnly.refl (s : State) : BooksOnly s s := ⟨rfl, rfl, rfl⟩

theorem BooksOnly.trans (h : BooksOnly s t) (h' : BooksOnly t u) : BooksOnly s u :=
  ⟨h'.fuel.trans (by rw [h.fuel]), h'.net.trans h.net, h'.running.trans h.running⟩

theorem booksOnly_takeFromBook (k : Fin 8) (x : Int) (s : State) : BooksOnly s (takeFromBook k x s) := by
  refine ⟨by rw [takeFromBook_fuel], ?_, ?_⟩ <;>
  · simp only [takeFromBook]
    split <;> rfl

theorem booksOnly_takeFromTank (n : Nat) (x : Int) (s : State) : BooksOnly s (takeFromTank n x s) := by
  unfold takeFromTank
  split
  · exact booksOnly_takeFromBook _ x s
  · exact .refl s

/-! #### R128, R129: an engine's net and its running second -/

theorem netOf_eq (s : State) (e : Fin 4) : s.netOf e =
    s.fuel.meters[(⟨e.val, by omega⟩ : Fin 10)].lastVolume - s.fuel.meters[(⟨e.val + 4, by omega⟩ : Fin 10)].lastVolume := by
  have h0 : engineMeter 0 e = ⟨e.val, by omega⟩ := Fin.ext (by simp only [engineMeter]; omega)
  have h4 : engineMeter 4 e = ⟨e.val + 4, by omega⟩ := Fin.ext (by simp only [engineMeter]; omega)
  simp only [State.netOf, h0, h4]

/-- R128: a net as the account and the open leg take it, before the supply tank. -/
def State.netBooked (s : State) (e : Fin 4) : State :=
  (s.onFuel fun f => { f with
    lastNet := f.lastNet.set e (s.netOf e), consumption := f.consumption.set e (fit64 (f.consumption[e] + s.netOf e)) }).onLeg
      fun l => { l with net := l.net.set e (fit64 (l.net[e] + s.netOf e)) }

theorem bookNet_eq (e : Fin 4) (s : State) : bookNet e s = match s.supplyTank e with
    | some k => takeFromBook k (s.netOf e) (s.netBooked e)
    | none => s.netBooked e := rfl

theorem booksOnly_bookNet (e : Fin 4) (s : State) : BooksOnly (s.netBooked e) (bookNet e s) := by
  rw [bookNet_eq]
  split
  · exact booksOnly_takeFromBook _ _ _
  · exact .refl _

/-- R129: the second that an engine adds to the open leg. -/
def State.runningSecond (s : State) (e : Fin 4) : Nat := if s.settings.enginePresent e && s.chans[e].running.level then 1 else 0

theorem addRunning_leg (e : Fin 4) (s : State) : (addRunning e s).legs.current.net = s.legs.current.net ∧
    (addRunning e s).legs.current.running =
      s.legs.current.running.set e (s.legs.current.running[e] + s.runningSecond e) := by
  simp only [addRunning]
  split
  next h =>
    have hsecond : s.runningSecond e = 1 := if_pos h
    rw [hsecond]
    exact ⟨rfl, rfl⟩
  next h =>
    have hsecond : s.runningSecond e = 0 := if_neg h
    rw [hsecond]
    exact ⟨rfl, by simp⟩

/-- R128, R129: what the booking of the engines leaves besides the figures of the nets. -/
structure Consuming (s t : State) : Prop where
  settings : t.settings = s.settings
  chans : t.chans = s.chans
  fuel : t.fuel = { s.fuel with
    tanks := t.fuel.tanks, adjustments := t.fuel.adjustments, lastNet := t.fuel.lastNet, consumption := t.fuel.consumption }

theorem Consuming.meters (h : Consuming s t) : t.fuel.meters = s.fuel.meters := by rw [h.fuel]

theorem bookEngine_fuel (e : Fin 4) (s : State) : ∃ b a, (bookEngine e s).fuel = { s.fuel with
    tanks := b, adjustments := a, lastNet := s.fuel.lastNet.set e (s.netOf e)
    consumption := s.fuel.consumption.set e (fit64 (s.fuel.consumption[e] + s.netOf e)) } := by
  refine ⟨(bookNet e s).fuel.tanks, (bookNet e s).fuel.adjustments, ?_⟩
  have hrun : (bookEngine e s).fuel = (bookNet e s).fuel := by simp [bookEngine]
  rw [hrun, (booksOnly_bookNet e s).fuel]
  rfl

theorem bookEngine_leg (e : Fin 4) (s : State) :
    (bookEngine e s).legs.current.net = s.legs.current.net.set e (fit64 (s.legs.current.net[e] + s.netOf e)) ∧
    (bookEngine e s).legs.current.running = s.legs.current.running.set e (s.legs.current.running[e] + s.runningSecond e) := by
  obtain ⟨hnet, hrun⟩ := addRunning_leg e (bookNet e s)
  obtain ⟨-, hnet', hrun'⟩ := booksOnly_bookNet e s
  have hsecond : (bookNet e s).runningSecond e = s.runningSecond e := by simp [State.runningSecond, settings_eq]
  refine ⟨hnet.trans (hnet'.trans rfl), hrun.trans ?_⟩
  rw [hrun', hsecond]
  rfl

/-- R125, steps 1 to 3: the meters, and the nets of the engines. -/
def State.consumed (s : State) (v : Vector (Option Int) 10) : State := forAll allEngines bookEngine (s.measured v)

/-- R125, step 3: every net goes to its engine's total and to the open leg. -/
theorem bookEngines_all (s : State) : Consuming s (forAll allEngines bookEngine s) ∧ ∀ e : Fin 4,
    (forAll allEngines bookEngine s).fuel.lastNet[e] = s.netOf e ∧
    (forAll allEngines bookEngine s).fuel.consumption[e] = fit64 (s.fuel.consumption[e] + s.netOf e) ∧
    (forAll allEngines bookEngine s).legs.current.net[e] = fit64 (s.legs.current.net[e] + s.netOf e) ∧
    (forAll allEngines bookEngine s).legs.current.running[e] = s.legs.current.running[e] + s.runningSecond e := by
  have hkeeps (e : Fin 4) (u : State) (hu : Consuming s u) : Consuming s (bookEngine e u) := by
    obtain ⟨hset, hchans, hfuel⟩ := hu
    obtain ⟨b, a, hbook⟩ := bookEngine_fuel e u
    exact ⟨by simpa [settings_eq] using hset, by simpa using hchans, by rw [hbook, hfuel]⟩
  have hnet {u : State} (hu : Consuming s u) (e : Fin 4) : u.netOf e = s.netOf e := by
    rw [State.netOf, hu.fuel]
    rfl
  have hsecond {u : State} (hu : Consuming s u) (e : Fin 4) : u.runningSecond e = s.runningSecond e := by
    rw [State.runningSecond, hu.settings, hu.chans]
    rfl
  have hlast := forAll_entries (fun u => u.fuel.lastNet) (f := bookEngine) (g := fun e _ => s.netOf e) (l := allEngines) (by decide)
    (fun e u hu => ⟨hkeeps e u hu, by obtain ⟨b, a, hbook⟩ := bookEngine_fuel e u; rw [hbook, hnet hu]⟩) ⟨rfl, rfl, rfl⟩
  have htotal := forAll_entries (fun u => u.fuel.consumption) (f := bookEngine) (g := fun e x => fit64 (x + s.netOf e))
    (l := allEngines) (by decide)
    (fun e u hu => ⟨hkeeps e u hu, by obtain ⟨b, a, hbook⟩ := bookEngine_fuel e u; rw [hbook, hnet hu]⟩) ⟨rfl, rfl, rfl⟩
  have hleg := forAll_entries (fun u => u.legs.current.net) (f := bookEngine) (g := fun e x => fit64 (x + s.netOf e))
    (l := allEngines) (by decide) (fun e u hu => ⟨hkeeps e u hu, by rw [(bookEngine_leg e u).1, hnet hu]⟩) ⟨rfl, rfl, rfl⟩
  have hrun := forAll_entries (fun u => u.legs.current.running) (f := bookEngine) (g := fun e x => x + s.runningSecond e)
    (l := allEngines) (by decide) (fun e u hu => ⟨hkeeps e u hu, by rw [(bookEngine_leg e u).2, hsecond hu]⟩) ⟨rfl, rfl, rfl⟩
  have hall (e : Fin 4) : e ∈ allEngines := by fin_cases e <;> decide
  exact ⟨hlast.1, fun e => ⟨(hlast.2 e).trans (if_pos (hall e)), (htotal.2 e).trans (if_pos (hall e)),
    (hleg.2 e).trans (if_pos (hall e)), (hrun.2 e).trans (if_pos (hall e))⟩⟩

/-! #### R136, R139: the volumes of the transfer and the bunker meter -/

/-- The figures of an order that works are written over by figures of its kind. -/
theorem workIn_setWork {α : Type} {kind : Work → Option α} {w : Work} (ho : s.orders.slots[i] = some o) (hold : kind o.work = none)
    (hnew : kind w = none) (j : Fin 16) : workIn kind j (s.setWork i w).orders.slots[j] = workIn kind j s.orders.slots[j] := by
  by_cases hj : j = i
  · subst hj
    rw [setWork_same, ho, workIn_other hold]
    exact workIn_other (o := { o with work := w }) hnew
  · rw [setWork_other s w hj]

/-- R136: the order of a TRANSFER with a volume moved. -/
def TransferWork.plus (w : TransferWork) (x : Int) : TransferWork := { w with moved := fitNat64 (w.moved + x) }

/-- R139: the order of a BUNKER with a volume that came. -/
def BunkerWork.plus (b : BunkerWork) (x : Int) : BunkerWork := { b with volume := fitNat64 (b.volume + x) }

theorem bookTransfer_some {w : TransferWork} (h : s.transferOrder = some (i, o, w)) : bookTransfer s =
    (takeFromTank w.dest (-s.fuel.meters[transferMeter].lastVolume) (takeFromTank w.source s.fuel.meters[transferMeter].lastVolume
      s)).setWork i (.transfer (w.plus s.fuel.meters[transferMeter].lastVolume)) := by
  simp only [bookTransfer, h]
  rfl

theorem bookTransfer_none (h : s.transferOrder = none) : bookTransfer s =
    s.onFuel fun f => { f with strayTransfer := fit64 (f.strayTransfer + s.fuel.meters[transferMeter].lastVolume) } := by
  simp only [bookTransfer, h]

/-- R139: what a bunkered volume does to the account and the open leg. -/
def State.bunkeredBy (s : State) (x : Int) : State :=
  (s.onFuel fun f => { f with bunkered := fitNat64 (f.bunkered + x) }).onLeg fun l => { l with bunkered := fitNat64 (l.bunkered + x) }

theorem bookBunker_some {b : BunkerWork} (h : s.bunkerOrder = some (i, o, b)) : bookBunker s =
    ((takeFromTank b.dest (-s.fuel.meters[bunkerMeter].lastVolume) s).setWork i
      (.bunker (b.plus s.fuel.meters[bunkerMeter].lastVolume))).bunkeredBy s.fuel.meters[bunkerMeter].lastVolume := by
  simp only [bookBunker, h]
  rfl

theorem bookBunker_none (h : s.bunkerOrder = none) : bookBunker s =
    s.onFuel fun f => { f with strayBunker := fit64 (f.strayBunker + s.fuel.meters[bunkerMeter].lastVolume) } := by
  simp only [bookBunker, h]

/-- R136: the booking of a transfer leaves the figures of the BUNKER as they are. -/
theorem bookTransfer_bunkerIn (s : State) (j : Fin 16) :
    workIn Work.bunker? j (bookTransfer s).orders.slots[j] = workIn Work.bunker? j s.orders.slots[j] := by
  cases h : s.transferOrder with
  | none => rw [bookTransfer_none h]; rfl
  | some x =>
    obtain ⟨i, o, w⟩ := x
    obtain ⟨hslot, hwork, -⟩ := transferOrder_some h
    rw [bookTransfer_some h, workIn_setWork (o := o) (by simpa using hslot) (by rw [hwork]; rfl) rfl]
    simp

theorem bookTransfer_bunkerOrder (s : State) : (bookTransfer s).bunkerOrder = s.bunkerOrder := by
  rw [bunkerOrder_eq, bunkerOrder_eq]
  exact workOn_congr (bookTransfer_bunkerIn s)

/-- R127, R136: what the booking of the transfer meter leaves of the account. -/
theorem bookTransfer_figures (s : State) : ∃ b a, (bookTransfer s).fuel = { s.fuel with
      tanks := b, adjustments := a
      strayTransfer := if s.transferOrder = none then fit64 (s.fuel.strayTransfer + s.fuel.meters[transferMeter].lastVolume)
        else s.fuel.strayTransfer } ∧
    (bookTransfer s).legs.current.net = s.legs.current.net ∧ (bookTransfer s).legs.current.running = s.legs.current.running := by
  cases h : s.transferOrder with
  | none =>
    rw [bookTransfer_none h]
    exact ⟨_, _, rfl, rfl, rfl⟩
  | some x =>
    obtain ⟨i, o, w⟩ := x
    rw [bookTransfer_some h]
    obtain ⟨hfuel, hnet, hrun⟩ := (booksOnly_takeFromTank w.source s.fuel.meters[transferMeter].lastVolume s).trans
      (booksOnly_takeFromTank w.dest (-s.fuel.meters[transferMeter].lastVolume) _)
    exact ⟨_, _, hfuel, hnet, hrun⟩

/-- R127, R139: what the booking of the bunker meter leaves of the account. -/
theorem bookBunker_figures (s : State) : ∃ b a, (bookBunker s).fuel = { s.fuel with
      tanks := b, adjustments := a
      bunkered := if s.bunkerOrder = none then s.fuel.bunkered
        else fitNat64 (s.fuel.bunkered + s.fuel.meters[bunkerMeter].lastVolume)
      strayBunker := if s.bunkerOrder = none then fit64 (s.fuel.strayBunker + s.fuel.meters[bunkerMeter].lastVolume)
        else s.fuel.strayBunker } ∧
    (bookBunker s).legs.current.net = s.legs.current.net ∧ (bookBunker s).legs.current.running = s.legs.current.running := by
  cases h : s.bunkerOrder with
  | none =>
    rw [bookBunker_none h]
    exact ⟨_, _, rfl, rfl, rfl⟩
  | some x =>
    obtain ⟨i, o, b⟩ := x
    rw [bookBunker_some h]
    obtain ⟨hfuel, hnet, hrun⟩ := booksOnly_takeFromTank b.dest (-s.fuel.meters[bunkerMeter].lastVolume) s
    refine ⟨(takeFromTank b.dest (-s.fuel.meters[bunkerMeter].lastVolume) s).fuel.tanks,
      (takeFromTank b.dest (-s.fuel.meters[bunkerMeter].lastVolume) s).fuel.adjustments, ?_, hnet, hrun⟩
    simp only [State.bunkeredBy, onLeg_fuel, onFuel_fuel, setWork_frame]
    rw [hfuel]
    simp

/-! #### The whole interval -/

/-- R125, steps 1 to 5. -/
def State.booked (s : State) (v : Vector (Option Int) 10) : State := bookBunker (bookTransfer (s.consumed v))

/-- R125, steps 1 to 6. -/
def State.ended (s : State) (v : Vector (Option Int) 10) : State := testBunker (testTransfer (s.booked v))

theorem accountingInterval_eq (v : Vector (Option Int) 10) (s : State) :
    accountingInterval v s = finish (fcapRecompute (forAll allTanks tankTests (s.ended v))) := rfl

theorem exec_interval (hup : s.up = true) (v : Vector (Option Int) 10) :
    exec (.accountingIntervalExpiry v) s = .next (accountingInterval v s) := by
  rw [exec_of_event (f := accountingInterval v) rfl, whenUp_of_up hup]

theorem interval_settings (v : Vector (Option Int) 10) (s : State) : (accountingInterval v s).settings = s.settings := by
  simp [settings_eq]

theorem booked_settings (v : Vector (Option Int) 10) (s : State) : (s.booked v).settings = s.settings := by
  simp [settings_eq, State.booked, State.consumed, State.measured]

/-- R125, steps 6 and 7: what the tests leave of the account as it was booked, and what they make of marks and Fcap. -/
structure Tested (w t : State) : Prop where
  meters : t.fuel.meters = w.fuel.meters
  lastNet : t.fuel.lastNet = w.fuel.lastNet
  consumption : t.fuel.consumption = w.fuel.consumption
  bunkered : t.fuel.bunkered = w.fuel.bunkered
  adjustments : t.fuel.adjustments = w.fuel.adjustments
  strayTransfer : t.fuel.strayTransfer = w.fuel.strayTransfer
  strayBunker : t.fuel.strayBunker = w.fuel.strayBunker
  tanks : ∀ k : Fin 8, t.fuel.tanks[k] = t.settings.tested k w.fuel.tanks[k]
  fcap : t.fuel.fcap = t.fcapNow
  reserveMark : t.fuel.reserveMark = t.belowReserve

/-- R133, R134: the tests of the tanks, and the recomputation of Fcap. -/
theorem tested_of_fuel (h : t.fuel = (fcapRecompute (forAll allTanks tankTests s)).fuel) (hset : t.settings = s.settings) :
    Tested s t := by
  obtain ⟨hrest, htanks⟩ := tankTests_all s
  have hpass : (forAll allTanks tankTests s).settings = s.settings := by simp [settings_eq]
  generalize forAll allTanks tankTests s = u at *
  rw [fcapRecompute_fuel] at h
  have hbelow : t.belowReserve = u.belowReserve := belowReserve_congr (by rw [h]) (by rw [hset, hpass])
  have hcap : t.fcapNow = u.fcapNow := by rw [State.fcapNow, State.fcapNow, hbelow, hset, hpass]
  rw [hrest] at h
  exact {
    meters := by rw [h], lastNet := by rw [h], consumption := by rw [h], bunkered := by rw [h], adjustments := by rw [h]
    strayTransfer := by rw [h], strayBunker := by rw [h]
    tanks := fun k => by rw [hset, ← htanks, h]
    fcap := by rw [hcap, h], reserveMark := by rw [hbelow, h] }

theorem interval_tested (v : Vector (Option Int) 10) (s : State) : Tested (s.booked v) (accountingInterval v s) := by
  have hended : (s.ended v).fuel = (s.booked v).fuel := by simp [State.ended]
  have hset : (accountingInterval v s).settings = (s.ended v).settings := by simp [settings_eq, accountingInterval_eq]
  have hfuel : (accountingInterval v s).fuel = (fcapRecompute (forAll allTanks tankTests (s.ended v))).fuel := by
    simp [accountingInterval_eq]
  obtain ⟨h1, h2, h3, h4, h5, h6, h7, h8, h9, h10⟩ := tested_of_fuel hfuel hset
  rw [hended] at h1 h2 h3 h4 h5 h6 h7 h8
  exact ⟨h1, h2, h3, h4, h5, h6, h7, h8, h9, h10⟩

/-- R127, R128, R129: what steps 3 to 5 book of the volumes that the meters hold. -/
structure Accounted (s t : State) : Prop where
  settings : t.settings = s.settings
  meters : t.fuel.meters = s.fuel.meters
  lastNet : ∀ e : Fin 4, t.fuel.lastNet[e] = s.netOf e
  consumption : ∀ e : Fin 4, t.fuel.consumption[e] = fit64 (s.fuel.consumption[e] + s.netOf e)
  net : ∀ e : Fin 4, t.legs.current.net[e] = fit64 (s.legs.current.net[e] + s.netOf e)
  running : ∀ e : Fin 4, t.legs.current.running[e] = s.legs.current.running[e] + s.runningSecond e
  strayTransfer : t.fuel.strayTransfer =
    if s.transferOrder = none then fit64 (s.fuel.strayTransfer + s.fuel.meters[transferMeter].lastVolume) else s.fuel.strayTransfer
  strayBunker : t.fuel.strayBunker =
    if s.bunkerOrder = none then fit64 (s.fuel.strayBunker + s.fuel.meters[bunkerMeter].lastVolume) else s.fuel.strayBunker
  bunkered : t.fuel.bunkered =
    if s.bunkerOrder = none then s.fuel.bunkered else fitNat64 (s.fuel.bunkered + s.fuel.meters[bunkerMeter].lastVolume)

/-- R160: the orders that work are those of the Order Table. -/
theorem workOrders_congr (h : t.orders = s.orders) : t.transferOrder = s.transferOrder ∧ t.bunkerOrder = s.bunkerOrder := by
  simp only [transferOrder_eq, bunkerOrder_eq, State.workOn, h, true_and]

theorem accounted (s : State) : Accounted s (bookBunker (bookTransfer (forAll allEngines bookEngine s))) := by
  obtain ⟨hc, hnets⟩ := bookEngines_all s
  have horders : (forAll allEngines bookEngine s).orders = s.orders := by simp
  generalize forAll allEngines bookEngine s = x at *
  obtain ⟨htransfer, hbunker⟩ := workOrders_congr horders
  obtain ⟨_, _, hxy, hnet, hrun⟩ := bookTransfer_figures x
  have horder := bookTransfer_bunkerOrder x
  have hset : (bookTransfer x).settings = x.settings := by simp [settings_eq]
  generalize bookTransfer x = y at *
  obtain ⟨_, _, hyz, hnet', hrun'⟩ := bookBunker_figures y
  have hset' : (bookBunker y).settings = y.settings := by simp [settings_eq]
  generalize bookBunker y = z at *
  have hm := hc.meters
  rw [horder, hbunker] at hyz
  rw [htransfer, hm] at hxy
  exact {
    settings := by rw [hset', hset, hc.settings]
    meters := by rw [hyz, hxy, hm]
    lastNet := fun e => by
      obtain ⟨hlast, -⟩ := hnets e
      rw [hyz, hxy, hlast]
    consumption := fun e => by
      obtain ⟨-, htotal, -⟩ := hnets e
      rw [hyz, hxy, htotal]
    net := fun e => by
      obtain ⟨-, -, hleg, -⟩ := hnets e
      rw [hnet', hnet, hleg]
    running := fun e => by
      obtain ⟨-, -, -, hsecond⟩ := hnets e
      rw [hrun', hrun, hsecond]
    strayTransfer := by rw [hyz, hxy, hc.fuel]
    strayBunker := by rw [hyz, hxy, hc.fuel]
    bunkered := by rw [hyz, hxy, hc.fuel] }

end Sys2Proof.Machine
end

section
/-! ### R124 to R129, R133, R134: what an interval leaves -/

namespace Sys2Proof.Machine

variable {s t u : State} {e : Fin 4} {m : Fin 10} {v : Vector (Option Int) 10}

/-! #### Orders on tanks close no leg -/

/-- The records are the same ones, the legs stand, and no holding analysis is due. -/
structure LegsStand (s t : State) : Prop where
  kept : Kept s t
  legs : t.legs = s.legs
  due : t.settling.analysis = false

theorem LegsStand.after (h : LegsStand s t) (hk : Kept s u) (hl : u.legs = t.legs) (hd : u.settling.analysis = t.settling.analysis) :
    LegsStand s u := ⟨hk, hl.trans h.legs, hd.trans h.due⟩

/-- No order works on a coupling, and none comes to. -/
def State.wireless (s : State) : Prop := ∀ x ∈ s.liveOrders, x.2.work.coupling? = none

theorem Kept.wireless (h : Kept s t) (hs : s.wireless) {i : Fin 16} {p : Order} (hp : t.orders.slots[i] = some p) :
    p.work.coupling? = none := by
  obtain ⟨o, ho, -, -, hw⟩ := h.orders i p hp
  rcases hw with hw | hw
  · rw [hw]
    exact hs (i, o) (mem_liveOrders.2 ho)
  · exact hw.1

/-- R152: with no order on a coupling, the starts and the ends of orders bring no makeup change. -/
theorem ends_legsStand (hs : s.wireless) : EndKeeps (fun _ => False) (LegsStand s) where
  report _ _ _ h := h.after (kept_report h.kept) (by simp) (by simp)
  requeued i p st hp hw h := h.after ((kept_notice s).requeued i p st hp hw h.kept) rfl rfl
  started i p hp hw h := h.after ((kept_notice s).started i p hp hw h.kept) (by simp) (by simp)
  command _ _ hn := hn.elim
  coupling _ _ hn := hn.elim
  names i p h hp _ n hn := nomatch (h.kept.wireless hs hp).symm.trans hn
  node _ _ _ h := h.after (kept_onLine h.kept) rfl rfl
  bow _ _ h := h.after (kept_onBow h.kept) rfl rfl
  freed i h := h.after (kept_freeSlot h.kept) rfl rfl

/-- Log entry 8: where no analysis is due and no order works on a coupling, settling closes no leg. -/
theorem settleFor_legsStand (hs : s.wireless) (n : Nat) (h : LegsStand s t) : LegsStand s (settleFor n t) := by
  induction n generalizing t with
  | zero => exact h
  | succ n ih =>
    refine ih ?_
    rw [settleOnce, if_neg (by simp [h.due])]
    refine keeps_ite ((ends_legsStand hs).retestOrders ?_) h
    exact h.after (kept_onSettling h.kept) rfl rfl

theorem finish_legs_of_wireless (hs : s.wireless) (h : LegsStand s t) : (finish t).legs = s.legs := by
  have hsettled := settleFor_legsStand hs 40 h
  rw [← hsettled.legs, finish, settle]
  simp

theorem testTransfer_legsStand (hs : s.wireless) (h : LegsStand s t) : LegsStand s (testTransfer t) := by
  simp only [testTransfer]
  split
  · exact h
  next i o w ho =>
    obtain ⟨hslot, hw, -⟩ := transferOrder_some ho
    have hset : LegsStand s (t.setWork i (.transfer (transferNext t w))) :=
      h.after (kept_setWork hslot (by rw [hw]; rfl) rfl h.kept) (by simp) (by simp)
    exact keeps_ite ((ends_legsStand hs).completeOrder _ _ hset) hset

theorem testBunker_legsStand (hs : s.wireless) (h : LegsStand s t) : LegsStand s (testBunker t) := by
  simp only [testBunker]
  split
  · exact h
  next i o b ho =>
    obtain ⟨hslot, hw, -⟩ := bunkerOrder_some ho
    have hset (b : BunkerWork) : LegsStand s (t.setWork i (.bunker b)) :=
      h.after (kept_setWork hslot (by rw [hw]; rfl) rfl h.kept) (by simp) (by simp)
    refine keeps_ite ((ends_legsStand hs).completeOrder _ _ h) ?_
    split
    · exact (ends_legsStand hs).completeOrder _ _ (hset _)
    · exact hset _

/-- R148, R152: with nothing to settle and no order on a coupling, an interval closes no leg. -/
theorem interval_legs (hq : s.quiet) (hs : s.wireless) (v : Vector (Option Int) 10) :
    (accountingInterval v s).legs = (s.booked v).legs := by
  have hkept : Kept s (s.booked v) := by
    unfold State.booked State.consumed State.measured
    refine kept_bookBunker (kept_bookTransfer (kept_forAll (fun _ _ _ hu => kept_bookEngine hu) ?_))
    exact kept_forAll (fun _ _ _ hu => kept_correctMeter hu) (kept_forAll (fun _ _ _ hu => kept_takeTemperature hu) (.refl s))
  have hw : (s.booked v).wireless := fun x hx => hkept.wireless hs (mem_liveOrders.1 hx)
  have hdue : (s.booked v).settling.analysis = false := by
    have : (s.booked v).settling = s.settling := by simp [State.booked, State.consumed, State.measured]
    rw [this, hq]
  have hended : LegsStand (s.booked v) (s.ended v) :=
    testBunker_legsStand hw (testTransfer_legsStand hw ⟨.refl _, rfl, hdue⟩)
  have htests : LegsStand (s.booked v) (forAll allTanks tankTests (s.ended v)) :=
    hended.after (kept_forAll (fun _ _ _ hu => kept_tankTests hu) hended.kept) (by simp) (by simp)
  rw [accountingInterval_eq]
  exact finish_legs_of_wireless hw (htests.after (kept_fcapRecompute htests.kept) (by simp) (by simp))

/-! #### The figures of an interval -/

/-- R125, steps 1 and 2: taking the temperatures and correcting the counts act on the meters alone. -/
theorem measured_frame (v : Vector (Option Int) 10) (s : State) : (s.measured v).orders = s.orders ∧ (s.measured v).legs = s.legs ∧
    (s.measured v).chans = s.chans ∧ (s.measured v).settings = s.settings := by
  simp [State.measured, settings_eq]

theorem booked_accounted (v : Vector (Option Int) 10) (s : State) : Accounted (s.measured v) (s.booked v) := accounted _

/-- R124, R126: each meter after an interval. -/
theorem interval_meter (v : Vector (Option Int) 10) (s : State) (m : Fin 10) :
    (accountingInterval v s).fuel.meters[m] = (s.fuel.meters[m].warmed v[m]).corrected s.settings.fuel m := by
  have hmeters := (interval_tested v s).meters.trans (booked_accounted v s).meters
  rw [← (measured_fuel s v).2 m, hmeters]

/-- R134: the sum of the books of the present tanks. -/
theorem bookSum_eq (s : State) : s.bookSum =
    (allTanks.map fun k => if s.settings.fuel.tankPresent[k] = 1 then s.fuel.tanks[k].book else 0).sum := by
  simp only [State.bookSum, tankPresent_iff]

/-- R128, R129: where no leg closes, the open leg takes each net and each running second. -/
theorem interval_leg (hq : s.quiet) (hs : s.wireless) (v : Vector (Option Int) 10) (e : Fin 4) : let t := accountingInterval v s
    t.legs.current.net[e] = fit64 (s.legs.current.net[e] + t.netOf e) ∧
      t.legs.current.running[e] = s.legs.current.running[e] + s.runningSecond e := by
  have hlegs := interval_legs hq hs v
  have htests := interval_tested v s
  have hbooks := booked_accounted v s
  obtain ⟨-, hmlegs, hchans, hset⟩ := measured_frame v s
  generalize accountingInterval v s = t at *
  generalize s.booked v = w at *
  generalize s.measured v = x at *
  have hnet : t.netOf e = x.netOf e := by simp only [State.netOf, htests.meters, hbooks.meters]
  have hsecond : x.runningSecond e = s.runningSecond e := by simp only [State.runningSecond, hset, hchans]
  refine ⟨?_, ?_⟩
  · rw [hlegs, hbooks.net, hmlegs, hnet]
  · rw [hlegs, hbooks.running, hmlegs, hsecond]

/-- Settles O52: the meters by their correction, the account and the leg by what is booked, the tanks and the reserve by their tests. -/
theorem intervalCorrectsBooksAndTests : Obligations.IntervalCorrectsBooksAndTests := by
  unfold Obligations.IntervalCorrectsBooksAndTests
  refine ⟨fun s v hup => ⟨_, exec_interval hup v, by simp [SameStores], fun m => ?_⟩, fun s v hup => ⟨_, exec_interval hup v, ?_⟩⟩
  · intro p x y t10 q
    have hy : y = (x.warmed v[m]).corrected p m := interval_meter v s m
    obtain ⟨ht10, hmark⟩ := temperatureOf_eq v[m]
    obtain ⟨hexact, hlow, hhigh⟩ := corrected_exact p m (x.warmed v[m])
    rw [hy]
    refine ⟨rfl, rfl, hexact.trans ?_, hlow, hhigh, ht10, rfl, hmark⟩
    have hterm : (x.warmed v[m]).t10 = t10 := ht10
    rw [hterm]
    rfl
  · have hleg (hq : s.quiet) (hs : s.wireless) := interval_leg hq hs v
    have htests := interval_tested v s
    have hbooks := booked_accounted v s
    have hset := interval_settings v s
    obtain ⟨horders, -, -, -⟩ := measured_frame v s
    obtain ⟨htransfer, hbunker⟩ := workOrders_congr horders
    obtain ⟨hfuel, -⟩ := measured_fuel s v
    generalize accountingInterval v s = t at *
    generalize s.booked v = w at *
    generalize s.measured v = x at *
    intro p volume sum
    have hmeters : x.fuel.meters = t.fuel.meters := (htests.meters.trans hbooks.meters).symm
    have hnet (e : Fin 4) : x.netOf e = volume ⟨e.val, by omega⟩ - volume ⟨e.val + 4, by omega⟩ := by
      rw [netOf_eq, hmeters]
    have hnet' (e : Fin 4) : t.netOf e = volume ⟨e.val, by omega⟩ - volume ⟨e.val + 4, by omega⟩ := netOf_eq t e
    have hsum : t.bookSum = sum := by rw [bookSum_eq, hset]
    have hbelow : t.belowReserve = decide (sum < p.voyageReserveL * 1000000) := by
      rw [State.belowReserve, hsum, hset]
      rfl
    refine ⟨fun e => ⟨?_, ?_, fun hq hs => ?_⟩, ?_, ?_, fun k hk => ?_, ?_, htests.reserveMark.trans hbelow⟩
    · rw [htests.lastNet, hbooks.lastNet, hnet]
    · rw [htests.consumption, hbooks.consumption, hnet, hfuel]
    · obtain ⟨hlegnet, hlegrun⟩ := hleg hq hs e
      refine ⟨by rw [hlegnet, hnet'], hlegrun.trans ?_⟩
      simp [State.runningSecond, Settings.enginePresent]
    · rw [htests.strayTransfer, hbooks.strayTransfer, htransfer, hmeters, hfuel]
      rfl
    · rw [htests.strayBunker, hbooks.strayBunker, hbunker, hmeters, hfuel]
      rfl
    · have hmarks := htests.tanks k
      rw [hset, tested_present (tankPresent_iff.2 hk)] at hmarks
      rw [hmarks]
      exact ⟨rfl, rfl⟩
    · rw [htests.fcap, State.fcapNow, hbelow, hset]
      simp only [decide_eq_true_eq]
      rfl

end Sys2Proof.Machine
end

section
/-! ### R131: the law of the books -/

namespace Sys2Proof.Machine

variable {s t u : State} {k : Fin 8} {e : Fin 4} {m : Fin 10} {x : Int}

/-! #### The balance -/

/-- The sum of a figure over a vector of records. -/
theorem foldl_toList_eq_sum {n : Nat} {α : Type} (v : Vector α n) (f : α → Int) :
    v.toList.foldl (fun a x => a + f x) 0 = ∑ i : Fin n, f v[i] := by
  have hlist : v.toList = List.ofFn fun i : Fin n => v[i] := by
    apply List.ext_getElem <;> simp
  rw [hlist, ← List.foldl_map, List.map_ofFn, ← List.sum_eq_foldl, List.sum_ofFn]
  rfl

/-- A sum after one of the records was replaced. -/
theorem sum_set {n : Nat} {α : Type} (v : Vector α n) (f : α → Int) (k : Fin n) (x : α) :
    ∑ i : Fin n, f (v.set k x)[i] = ∑ i : Fin n, f v[i] + (f x - f v[k]) := by
  rw [← Finset.add_sum_erase Finset.univ _ (Finset.mem_univ k),
    ← Finset.add_sum_erase Finset.univ (fun i => f v[i]) (Finset.mem_univ k)]
  have hrest : ∑ i ∈ Finset.univ.erase k, f (v.set k x)[i] = ∑ i ∈ Finset.univ.erase k, f v[i] :=
    Finset.sum_congr rfl fun i hi => by simp [Fin.val_inj, Ne.symm (Finset.ne_of_mem_erase hi)]
  rw [hrest]
  simp only [Fin.getElem_fin, Vector.getElem_set_self]
  omega

theorem fuelBalance_eq (s : State) : fuelBalance s = ∑ k : Fin 8, s.fuel.tanks[k].book + ∑ e : Fin 4, s.fuel.consumption[e] -
    s.fuel.bunkered - s.fuel.adjustments := by
  rw [fuelBalance, foldl_toList_eq_sum s.fuel.tanks (·.book)]
  exact congrArg (fun x => _ + x - _ - _) (foldl_toList_eq_sum s.fuel.consumption id)

/-- The account stands at the balance `b`, with every accumulator within `B`. -/
structure Books (b B : Int) (s : State) : Prop where
  balance : fuelBalance s = b
  tank : ∀ k : Fin 8, 0 ≤ s.fuel.tanks[k].book ∧ s.fuel.tanks[k].book ≤ B
  consumption : ∀ e : Fin 4, -B ≤ s.fuel.consumption[e] ∧ s.fuel.consumption[e] ≤ B
  bunkered : 0 ≤ s.fuel.bunkered ∧ s.fuel.bunkered ≤ B
  adjustments : -B ≤ s.fuel.adjustments ∧ s.fuel.adjustments ≤ B

variable {b B V : Int}

/-- What steps that leave the accumulators leave of the balance. -/
theorem Books.congr (h : Books b B s) (ht : ∀ k : Fin 8, t.fuel.tanks[k].book = s.fuel.tanks[k].book)
    (hc : t.fuel.consumption = s.fuel.consumption) (hb : t.fuel.bunkered = s.fuel.bunkered)
    (ha : t.fuel.adjustments = s.fuel.adjustments) : Books b B t where
  balance := by simpa only [fuelBalance_eq, ht, hc, hb, ha] using h.balance
  tank k := ht k ▸ h.tank k
  consumption e := hc ▸ h.consumption e
  bunkered := hb ▸ h.bunkered
  adjustments := ha ▸ h.adjustments

/-- A tank and the adjustments are written over. -/
theorem Books.retank (h : Books b B s) (hV : 0 ≤ V) {x : Tank} {c : Int}
    (hf : t.fuel = { s.fuel with tanks := s.fuel.tanks.set k x, adjustments := c }) (hx : 0 ≤ x.book ∧ x.book ≤ B + V)
    (hc : -(B + V) ≤ c ∧ c ≤ B + V) : Books (b + (x.book - s.fuel.tanks[k].book) - (c - s.fuel.adjustments)) (B + V) t where
  balance := by
    have hb := h.balance
    simp only [fuelBalance_eq, hf, sum_set s.fuel.tanks Tank.book] at hb ⊢
    omega
  tank j := by
    rw [hf]
    by_cases hj : j = k
    · subst hj
      simpa using hx
    · obtain ⟨h1, h2⟩ := h.tank j
      have hother : (s.fuel.tanks.set k x)[j] = s.fuel.tanks[j] := by simp [Fin.val_inj, Ne.symm hj]
      rw [hother]
      omega
  consumption e := by
    have := h.consumption e
    rw [hf]
    dsimp only
    omega
  bunkered := by
    have := h.bunkered
    rw [hf]
    dsimp only
    omega
  adjustments := by rw [hf]; exact hc

/-- R131: a volume taken by the book rule leaves the balance lower by it, shortfall or not. -/
theorem Books.take (h : Books b B s) (hx : -V ≤ x ∧ x ≤ V) (hB : B + V ≤ 2 ^ 62) (k : Fin 8) :
    Books (b - x) (B + V) (takeFromBook k x s) := by
  have hbook := h.tank k
  have hadj := h.adjustments
  have hf := takeFromBook_fuel k x s
  split at hf
  next hle =>
    have hfit : fitNat64 (s.fuel.tanks[k].book - x) = s.fuel.tanks[k].book - x := fitNat64_of_fits (by omega) (by omega)
    rw [hfit] at hf
    have := h.retank (V := V) (by omega) hf (by dsimp only; omega) (by omega)
    convert this using 1
    dsimp only
    omega
  next hle =>
    have hfit : fit64 (s.fuel.adjustments + (x - s.fuel.tanks[k].book)) = s.fuel.adjustments + (x - s.fuel.tanks[k].book) :=
      fit64_of_fits (by omega) (by omega)
    rw [hfit] at hf
    have := h.retank (V := V) (by omega) hf (by dsimp only; omega) (by omega)
    convert this using 1
    dsimp only
    omega

/-- R128: a net is added to its engine's consumption. -/
theorem Books.consume (h : Books b B s) (hx : -V ≤ s.netOf e ∧ s.netOf e ≤ V) (hB : B + V ≤ 2 ^ 62) :
    Books (b + s.netOf e) (B + V) (s.netBooked e) where
  balance := by
    have hb := h.balance
    have hc := h.consumption e
    have hfit : fit64 (s.fuel.consumption[e] + s.netOf e) = s.fuel.consumption[e] + s.netOf e :=
      fit64_of_fits (by omega) (by omega)
    have hsum : ∑ f : Fin 4, (s.netBooked e).fuel.consumption[f] =
        ∑ f : Fin 4, s.fuel.consumption[f] + (s.fuel.consumption[e] + s.netOf e - s.fuel.consumption[e]) :=
      hfit ▸ sum_set s.fuel.consumption id e (fit64 (s.fuel.consumption[e] + s.netOf e))
    rw [fuelBalance_eq] at hb ⊢
    rw [hsum, show (s.netBooked e).fuel.tanks = s.fuel.tanks from rfl, show (s.netBooked e).fuel.bunkered = s.fuel.bunkered from rfl,
      show (s.netBooked e).fuel.adjustments = s.fuel.adjustments from rfl]
    omega
  tank j := by
    have : 0 ≤ (s.netBooked e).fuel.tanks[j].book ∧ (s.netBooked e).fuel.tanks[j].book ≤ B := h.tank j
    omega
  consumption f := by
    by_cases hf : f = e
    · subst hf
      have hc := h.consumption f
      have hfit : fit64 (s.fuel.consumption[f] + s.netOf f) = s.fuel.consumption[f] + s.netOf f :=
        fit64_of_fits (by omega) (by omega)
      have hsame : (s.netBooked f).fuel.consumption[f] = s.fuel.consumption[f] + s.netOf f := by
        rw [← hfit]
        simp [State.netBooked]
      rw [hsame]
      omega
    · have hc := h.consumption f
      have hother : (s.netBooked e).fuel.consumption[f] = s.fuel.consumption[f] := by
        simp [State.netBooked, Fin.val_inj, Ne.symm hf]
      rw [hother]
      omega
  bunkered := by
    have : 0 ≤ (s.netBooked e).fuel.bunkered ∧ (s.netBooked e).fuel.bunkered ≤ B := h.bunkered
    omega
  adjustments := by
    have : -B ≤ (s.netBooked e).fuel.adjustments ∧ (s.netBooked e).fuel.adjustments ≤ B := h.adjustments
    omega

/-- R139: a volume is added to the bunkered total. -/
theorem Books.bunker (h : Books b B s) (hx : 0 ≤ x ∧ x ≤ V) (hB : B + V ≤ 2 ^ 62) : Books (b - x) (B + V) (s.bunkeredBy x) where
  balance := by
    have hb := h.balance
    have hc := h.bunkered
    have hfit : fitNat64 (s.fuel.bunkered + x) = s.fuel.bunkered + x := fitNat64_of_fits (by omega) (by omega)
    simp only [fuelBalance_eq, State.bunkeredBy, onLeg_fuel, onFuel_fuel, hfit] at hb ⊢
    omega
  tank j := by
    have : 0 ≤ (s.bunkeredBy x).fuel.tanks[j].book ∧ (s.bunkeredBy x).fuel.tanks[j].book ≤ B := h.tank j
    omega
  consumption f := by
    have : -B ≤ (s.bunkeredBy x).fuel.consumption[f] ∧ (s.bunkeredBy x).fuel.consumption[f] ≤ B := h.consumption f
    omega
  bunkered := by
    have hc := h.bunkered
    have hfit : fitNat64 (s.fuel.bunkered + x) = s.fuel.bunkered + x := fitNat64_of_fits (by omega) (by omega)
    have hsame : (s.bunkeredBy x).fuel.bunkered = s.fuel.bunkered + x := hfit
    rw [hsame]
    omega
  adjustments := by
    have : -B ≤ (s.bunkeredBy x).fuel.adjustments ∧ (s.bunkeredBy x).fuel.adjustments ≤ B := h.adjustments
    omega

/-! #### R124, R126: the volumes of an interval -/

/-- Every corrected volume lies in 0 to 2^33 µL. -/
def State.volumesFit (s : State) : Prop := ∀ m : Fin 10, 0 ≤ s.fuel.meters[m].lastVolume ∧ s.fuel.meters[m].lastVolume ≤ 2 ^ 33

theorem volumesFit_congr (h : t.fuel.meters = s.fuel.meters) (hs : s.volumesFit) : t.volumesFit := by
  unfold State.volumesFit at *
  rwa [h]

/-- R126: the correction term moves a volume by 15 percent at most. -/
theorem correctionTerm_bounds {alpha t10 : Int} (ha : 0 ≤ alpha ∧ alpha ≤ 2000) (ht : -200 ≤ t10 ∧ t10 ≤ 900) :
    -150000 ≤ correctionTerm alpha t10 ∧ correctionTerm alpha t10 ≤ 150000 := by
  have hlow : -700000 ≤ alpha * (t10 - 150) := by nlinarith
  have hhigh : alpha * (t10 - 150) ≤ 1500000 := by nlinarith
  unfold correctionTerm roundHalfAway
  split <;> omega

theorem correctionSum_bounds {count : Nat} {k c r : Int} (hn : count ≤ 65535) (hk : 0 ≤ k ∧ k ≤ 100000)
    (hc : -150000 ≤ c ∧ c ≤ 150000) (hr : 0 ≤ r ∧ r < 1000000) :
    0 ≤ correctionSum count k c r ∧ correctionSum count k c r < 8589934592 * 1000000 := by
  have hraw : 0 ≤ (count : Int) * k ∧ (count : Int) * k ≤ 65535 * 100000 :=
    ⟨mul_nonneg (by omega) hk.1, mul_le_mul (by omega) hk.2 hk.1 (by decide)⟩
  have hlow : 0 ≤ (count * k) * (1000000 - c) := mul_nonneg hraw.1 (by omega)
  have hhigh : (count * k) * (1000000 - c) ≤ 65535 * 100000 * 1150000 :=
    mul_le_mul hraw.2 (by omega) (by omega) (by decide)
  unfold correctionSum
  omega

/-- R126: the corrected volume of a count and a remainder in their ranges. -/
theorem corrected_bounds {p : FuelSettings} {x : Meter} (hcount : x.count ≤ 65535)
    (hr : 0 ≤ x.remainder ∧ x.remainder < 1000000) (hk : 0 ≤ p.meterK[m] ∧ p.meterK[m] ≤ 100000) (ha : 0 ≤ p.alpha ∧ p.alpha ≤ 2000)
    (ht : -200 ≤ x.t10 ∧ x.t10 ≤ 900) : 0 ≤ (x.corrected p m).lastVolume ∧ (x.corrected p m).lastVolume ≤ 2 ^ 33 := by
  obtain ⟨hlow, hhigh⟩ := correctionSum_bounds hcount hk (correctionTerm_bounds ha ht) hr
  show 0 ≤ correctionSum x.count p.meterK[m] (correctionTerm p.alpha x.t10) x.remainder / 1000000 ∧
    correctionSum x.count p.meterK[m] (correctionTerm p.alpha x.t10) x.remainder / 1000000 ≤ 2 ^ 33
  omega

theorem temperatureOf_bounds (r : Option Int) : -200 ≤ (temperatureOf r).2 ∧ (temperatureOf r).2 ≤ 900 := by
  rw [(temperatureOf_eq r).1]
  cases r with
  | none => decide
  | some x =>
    dsimp only
    omega

theorem measured_volumesFit (hs : SettingsOk s) (hf : FuelBounded s) (v : Vector (Option Int) 10) : (s.measured v).volumesFit := by
  obtain ⟨-, -, -, -, -, -, hmeters⟩ := hf
  intro m
  obtain ⟨hcount, hr⟩ := hmeters m
  have hk : (settingRange .fuel 1).1 ≤ s.settings.fuel.meterK[m] ∧ s.settings.fuel.meterK[m] ≤ (settingRange .fuel 1).2 :=
    Settings.inRange_of_valid (hs .fuel) (n := 1) (i := m.val + 1) (by decide) (by omega) (by simp [Settings.get, nth])
  have ha := Settings.inRange_of_valid (hs .fuel) (n := 2) (i := 0) (by decide) (by decide) rfl
  simp only [settingRange] at hk ha
  rw [(measured_fuel s v).2 m]
  exact corrected_bounds (x := s.fuel.meters[m].warmed v[m]) hcount hr (by omega) ha (temperatureOf_bounds _)

/-! #### R128, R136, R139: bookings -/

/-- R144: every engine has a supply tank. -/
theorem supplyTank_isSome (hs : s.settings.valid .fuel = true) (e : Fin 4) : ∃ k, s.supplyTank e = some k := by
  obtain ⟨hlow, hhigh⟩ : (settingRange .fuel 7).1 ≤ s.settings.fuel.supplyTank[e] ∧
      s.settings.fuel.supplyTank[e] ≤ (settingRange .fuel 7).2 :=
    Settings.inRange_of_valid hs (n := 7) (i := e.val + 1) (by decide) (by omega) (by simp [Settings.get, nth])
  simp only [settingRange] at hlow hhigh
  obtain ⟨k, hk⟩ := number_of_range (n := s.settings.fuel.supplyTank[e].toNat) (by omega) (by omega)
  exact ⟨k, by rw [State.supplyTank, hk, index?_number]⟩

theorem netOf_bounds (h : s.volumesFit) (e : Fin 4) : -(2 ^ 33) ≤ s.netOf e ∧ s.netOf e ≤ 2 ^ 33 := by
  have h0 := h (engineMeter 0 e)
  have h4 := h (engineMeter 4 e)
  unfold State.netOf
  omega

/-- R128: the booking of an engine keeps the balance: what it consumes leaves its supply tank. -/
theorem Books.engine (h : Books b B s) (hv : s.volumesFit) (hs : s.settings.valid .fuel = true) (hB : B + 2 ^ 33 + 2 ^ 33 ≤ 2 ^ 62)
    (e : Fin 4) : Books b (B + 2 ^ 33 + 2 ^ 33) (bookEngine e s) := by
  obtain ⟨k, hk⟩ := supplyTank_isSome hs e
  have hnet := netOf_bounds hv e
  have htaken := (h.consume hnet (by omega)).take (k := k) hnet hB
  have hfuel : (bookEngine e s).fuel = (takeFromBook k (s.netOf e) (s.netBooked e)).fuel := by
    simp only [bookEngine, addRunning_frame, bookNet_eq, hk]
  have hb : b + s.netOf e - s.netOf e = b := by omega
  rw [hb] at htaken
  exact htaken.congr (fun k => by rw [hfuel]) (by rw [hfuel]) (by rw [hfuel]) (by rw [hfuel])

theorem takeFromTank_number (k : Fin 8) (x : Int) (s : State) : takeFromTank (k.val + 1) x s = takeFromBook k x s := by
  simp only [takeFromTank, index?_number]

/-- A wider bound. -/
theorem Books.mono (h : Books b B s) {C : Int} (hC : B ≤ C) : Books b C s where
  balance := h.balance
  tank k := by
    have := h.tank k
    omega
  consumption e := by
    have := h.consumption e
    omega
  bunkered := by
    have := h.bunkered
    omega
  adjustments := by
    have := h.adjustments
    omega

/-- R131: as `Books.take`, of a tank that an order names. -/
theorem Books.takeNamed (h : Books b B s) (hx : -V ≤ x ∧ x ≤ V) (hB : B + V ≤ 2 ^ 62) {n : Nat} (hn : 1 ≤ n ∧ n ≤ 8) :
    Books (b - x) (B + V) (takeFromTank n x s) := by
  obtain ⟨k, rfl⟩ := number_of_range hn.1 hn.2
  rw [takeFromTank_number]
  exact h.take hx hB k

/-- R136: a transfer keeps the balance: what leaves its source comes to its destination. -/
theorem Books.transfer (h : Books b B s) (hv : s.volumesFit) (ho : OrderTanksOk s) (hB : B + 2 ^ 33 + 2 ^ 33 ≤ 2 ^ 62) :
    Books b (B + 2 ^ 33 + 2 ^ 33) (bookTransfer s) := by
  cases hw : s.transferOrder with
  | none =>
    rw [bookTransfer_none hw]
    exact (h.mono (by omega)).congr (fun _ => rfl) rfl rfl rfl
  | some y =>
    obtain ⟨i, o, w⟩ := y
    obtain ⟨hslot, hwork, -⟩ := transferOrder_some hw
    have hnamed (n : Nat) (hn : n ∈ [w.source, w.dest]) : 1 ≤ n ∧ n ≤ 8 := ho i o n hslot (by rw [hwork]; exact hn)
    have hvol := hv transferMeter
    have hout := h.takeNamed (x := s.fuel.meters[transferMeter].lastVolume) (V := 2 ^ 33) (by omega) (by omega)
      (hnamed w.source (by simp))
    have hin := hout.takeNamed (x := -s.fuel.meters[transferMeter].lastVolume) (V := 2 ^ 33) (by omega) hB (hnamed w.dest (by simp))
    rw [sub_neg_eq_add, sub_add_cancel] at hin
    rw [bookTransfer_some hw]
    exact hin.congr (fun _ => rfl) rfl rfl rfl

/-- R139: a bunkering keeps the balance: what comes to its tank is bunkered. -/
theorem Books.bunkering (h : Books b B s) (hv : s.volumesFit)
    (ho : ∀ i o w, s.bunkerOrder = some (i, o, w) → 1 ≤ w.dest ∧ w.dest ≤ 8) (hB : B + 2 ^ 33 + 2 ^ 33 ≤ 2 ^ 62) :
    Books b (B + 2 ^ 33 + 2 ^ 33) (bookBunker s) := by
  cases hw : s.bunkerOrder with
  | none =>
    rw [bookBunker_none hw]
    exact (h.mono (by omega)).congr (fun _ => rfl) rfl rfl rfl
  | some y =>
    obtain ⟨i, o, w⟩ := y
    have hvol := hv bunkerMeter
    have hin := h.takeNamed (x := -s.fuel.meters[bunkerMeter].lastVolume) (V := 2 ^ 33) (by omega) (by omega) (ho i o w hw)
    have hwritten := hin.congr (t := (takeFromTank w.dest (-s.fuel.meters[bunkerMeter].lastVolume) s).setWork i
      (.bunker (w.plus s.fuel.meters[bunkerMeter].lastVolume))) (fun _ => rfl) rfl rfl rfl
    have hbooked := hwritten.bunker hvol hB
    rw [sub_neg_eq_add, add_sub_cancel_right] at hbooked
    rw [bookBunker_some hw]
    exact hbooked

/-! #### R125: the whole interval -/

/-- The books stand, the volumes are those of the interval, and the orders and the settings are those at its start. -/
structure Booking (b B : Int) (s u : State) : Prop where
  books : Books b B u
  volumes : u.volumesFit
  settings : u.settings = s.settings
  orders : u.orders = s.orders

theorem Booking.widen (h : Booking b B s u) {C : Int} (hC : B ≤ C) : Booking b C s u :=
  { h with books := h.books.mono hC }

theorem Booking.engine (h : Booking b B s u) (hs : s.settings.valid .fuel = true) (hB : B + 2 ^ 33 + 2 ^ 33 ≤ 2 ^ 62) (e : Fin 4) :
    Booking b (B + 2 ^ 33 + 2 ^ 33) s (bookEngine e u) := by
  obtain ⟨_, _, hfuel⟩ := bookEngine_fuel e u
  exact {
    books := h.books.engine h.volumes (h.settings ▸ hs) hB e
    volumes := volumesFit_congr (by rw [hfuel]) h.volumes
    settings := by simpa [settings_eq] using h.settings
    orders := by simpa using h.orders }

theorem forAll_allEngines (f : Fin 4 → State → State) (s : State) : forAll allEngines f s = f 3 (f 2 (f 1 (f 0 s))) := rfl

/-- R128: the passes over the four engines. -/
theorem Booking.engines (h : Booking b (2 ^ 60) s u) (hs : s.settings.valid .fuel = true) :
    Booking b (2 ^ 60 + 2 ^ 36) s (forAll allEngines bookEngine u) := by
  have h0 := h.engine hs (by omega) 0
  have h1 := h0.engine hs (by omega) 1
  have h2 := h1.engine hs (by omega) 2
  have h3 := h2.engine hs (by omega) 3
  rw [forAll_allEngines]
  exact h3.widen (by omega)

theorem measured_booking (hs : SettingsOk s) (hf : FuelBounded s) (v : Vector (Option Int) 10) :
    Booking (fuelBalance s) (2 ^ 60) s (s.measured v) := by
  have hvolumes := measured_volumesFit hs hf v
  obtain ⟨htanks, hcons, hb0, hb1, ha0, ha1, -⟩ := hf
  have hbooks : Books (fuelBalance s) (2 ^ 60) s := ⟨rfl, htanks, hcons, ⟨hb0, hb1⟩, ⟨ha0, ha1⟩⟩
  obtain ⟨hfuel, -⟩ := measured_fuel s v
  obtain ⟨horders, -, -, hset⟩ := measured_frame v s
  exact ⟨hbooks.congr (fun k => by rw [hfuel]) (by rw [hfuel]) (by rw [hfuel]) (by rw [hfuel]), hvolumes, hset, horders⟩

/-- R136, R139: steps 4 and 5 keep the balance. -/
theorem Booking.volumesBooked (h : Booking b B s u) (ho : OrderTanksOk s) (hB : B + 2 ^ 36 ≤ 2 ^ 62) :
    fuelBalance (bookBunker (bookTransfer u)) = b := by
  obtain ⟨hbooks, hvolumes, -, horders⟩ := h
  have htanks : OrderTanksOk u := fun i o n h => ho i o n (horders ▸ h)
  have hmoved := hbooks.transfer hvolumes htanks (by omega)
  obtain ⟨_, _, hfigures, -⟩ := bookTransfer_figures u
  have horder := bookTransfer_bunkerOrder u
  generalize bookTransfer u = x at *
  have hnamed (i : Fin 16) (o : Order) (w : BunkerWork) (h : x.bunkerOrder = some (i, o, w)) : 1 ≤ w.dest ∧ w.dest ≤ 8 := by
    rw [horder] at h
    obtain ⟨hslot, hwork, -⟩ := bunkerOrder_some h
    exact htanks i o w.dest hslot (by rw [hwork]; simp [Work.tanks])
  exact (hmoved.bunkering (volumesFit_congr (by rw [hfigures]) hvolumes) hnamed (by omega)).balance

/-- R125, steps 1 to 5, keep the balance. -/
theorem booked_balance (hs : SettingsOk s) (hf : FuelBounded s) (ho : OrderTanksOk s) (v : Vector (Option Int) 10) :
    fuelBalance (s.booked v) = fuelBalance s := by
  have hmeasured := measured_booking hs hf v
  rw [State.booked, State.consumed]
  generalize s.measured v = u at *
  exact (hmeasured.engines (hs .fuel)).volumesBooked ho (by omega)

/-- R131: the balance is that of books and totals alone. -/
theorem fuelBalance_congr (ht : ∀ k : Fin 8, t.fuel.tanks[k].book = s.fuel.tanks[k].book)
    (hc : t.fuel.consumption = s.fuel.consumption) (hb : t.fuel.bunkered = s.fuel.bunkered)
    (ha : t.fuel.adjustments = s.fuel.adjustments) : fuelBalance t = fuelBalance s := by
  simp only [fuelBalance_eq, ht, hc, hb, ha]

theorem interval_balance (hs : SettingsOk s) (hf : FuelBounded s) (ho : OrderTanksOk s) (v : Vector (Option Int) 10) :
    fuelBalance (accountingInterval v s) = fuelBalance s := by
  have htested := interval_tested v s
  have hbooked := booked_balance hs hf ho v
  exact (fuelBalance_congr (fun k => by rw [htested.tanks, tested_book]) htested.consumption htested.bunkered
    htested.adjustments).trans hbooked

/-! #### R132: a sounding -/

theorem sounded_balance (hf : FuelBounded s) {q : Nat} (hq : q ≤ 1000000) (k : Fin 8) :
    fuelBalance (s.sounded k (litres q)) = fuelBalance s := by
  obtain ⟨htanks, hcons, hb0, hb1, ha0, ha1, -⟩ := hf
  have hbook := htanks k
  have hfit : fit64 (s.fuel.adjustments + (litres q - s.fuel.tanks[k].book)) = s.fuel.adjustments + (litres q - s.fuel.tanks[k].book) :=
    fit64_of_fits (by unfold litres; omega) (by unfold litres; omega)
  obtain ⟨c, m, hfuel⟩ := sounded_fuel k (litres q) s
  simp only [fuelBalance_eq, hfuel, hfit, sum_set s.fuel.tanks Tank.book, tested_book]
  omega

theorem answered_balance (s : State) (a : Answer) : fuelBalance (s.answered a) = fuelBalance s := rfl

/-- Settles O53: each booking of an interval, and a sounding, by what it adds to either side of the balance. -/
theorem fuelBooksBalance : Obligations.FuelBooksBalance := by
  unfold Obligations.FuelBooksBalance
  intro s hup hs hf ho
  refine ⟨fun v => ⟨_, exec_interval hup v, interval_balance hs hf ho v⟩, fun n q => ?_⟩
  have hrefused {x : Status} (h : setSounding n q s = refuse s x) :
      ∃ t, exec (.setSounding n q) s = .next t ∧ fuelBalance t = fuelBalance s :=
    ⟨_, exec_of_refusal hup (o := setSounding n q) rfl h, rfl⟩
  by_cases hbad : n < 1 ∨ 8 < n ∨ 1000000 < q
  · exact hrefused (setSounding_badValue hbad)
  · have hq : q ≤ 1000000 := by omega
    obtain ⟨k, rfl⟩ := number_of_range (n := n) (by omega) (by omega)
    have hsound := setSounding_number k hq s
    split at hsound
    next => exact hrefused hsound
    next =>
      split at hsound
      next => exact hrefused hsound
      next => exact ⟨_, exec_of_accept hup (o := setSounding _ q) rfl hsound, (answered_balance _ _).trans (sounded_balance hf hq k)⟩

end Sys2Proof.Machine
end

section
/-! ### R136 to R141, R167: the orders that an interval ends -/

namespace Sys2Proof.Machine

variable {s t u : State} {i j : Fin 16} {o q : Order} {k src dst : Fin 8} {n : Nat} {r : Resource} {c : Completion} {w : TransferWork}
  {b : BunkerWork}

/-! #### R136, R140: the stop tests -/

theorem bookAt_number (k : Fin 8) (s : State) : s.bookAt (k.val + 1) = s.fuel.tanks[k].book := by
  simp only [State.bookAt, index?_number]

theorem entry_number (v : Vector Int 8) (k : Fin 8) : entry v (k.val + 1) = v[k] := by
  simp [entry, nth]

theorem destFull_number (k : Fin 8) (s : State) :
    s.destFull (k.val + 1) = decide (s.settings.fuel.capacityL[k] * 1000000 ≤ s.fuel.tanks[k].book) := by
  simp only [State.destFull, entry_number, bookAt_number, litres]

/-- R136: the tests of a pumping TRANSFER between two tanks. -/
theorem transferStop_number (hsrc : w.source = src.val + 1) (hdst : w.dest = dst.val + 1) (s : State) : transferStop s w =
    if (w.litres : Int) * 1000000 ≤ w.moved then some .done
    else if s.fuel.tanks[src].book = 0 then some .sourceEmpty
    else if s.settings.fuel.capacityL[dst] * 1000000 ≤ s.fuel.tanks[dst].book then some .destFull
    else if s.settings.fuel.noFlowS ≤ w.noFlow then some .noFlow
    else none := by
  simp only [transferStop, hsrc, hdst, bookAt_number, destFull_number, decide_eq_true_eq, litres]

/-- R140: the tests of an ACTIVE BUNKER of a tank. -/
theorem bunkerStop_number (hdst : b.dest = dst.val + 1) (s : State) : bunkerStop s b =
    if s.settings.fuel.capacityL[dst] * 1000000 ≤ s.fuel.tanks[dst].book then some .destFull
    else if b.volume ≠ 0 ∧ s.settings.fuel.bunkerEndS ≤ b.silence then some .done
    else if b.volume = 0 ∧ s.settings.fuel.bunkerWaitS ≤ b.silence then some .noFlow
    else none := by
  simp only [bunkerStop, hdst, destFull_number, decide_eq_true_eq]

/-- R136: a pumping TRANSFER with its count of intervals without a pulse. -/
def TransferWork.counted (s : State) (w : TransferWork) : TransferWork :=
  { w with noFlow := silentFor s.fuel.meters[transferMeter].lastCount w.noFlow }

/-- R140: a BUNKER with its count of intervals without a pulse. -/
def BunkerWork.counted (s : State) (b : BunkerWork) : BunkerWork :=
  { b with silence := silentFor s.fuel.meters[bunkerMeter].lastCount b.silence }

/-- R137: a TRANSFER whose pump a stop test stops. -/
def TransferWork.stopped (w : TransferWork) (x : OrderResult) : TransferWork :=
  { w with coasting := true, result := some x, sinceStop := 0, stopBetween := false }

/-- R137: a coasting TRANSFER an interval later. -/
def TransferWork.later (w : TransferWork) : TransferWork := { w with sinceStop := w.sinceStop + 1 }

theorem transferNext_coasting (h : w.coasting = true) (s : State) : transferNext s w = w.later := if_pos h

theorem transferNext_pumping (h : w.coasting = false) (s : State) : transferNext s w =
    match transferStop s (w.counted s) with
    | some x => (w.counted s).stopped x
    | none => w.counted s := by
  rw [transferNext, if_neg (by simp [h])]
  rfl

theorem transferNext_stops {x : OrderResult} (h : w.coasting = false) (hx : transferStop s (w.counted s) = some x) :
    transferNext s w = (w.counted s).stopped x := by
  rw [transferNext_pumping h, hx]

theorem transferNext_goesOn (h : w.coasting = false) (hx : transferStop s (w.counted s) = none) :
    transferNext s w = w.counted s := by
  rw [transferNext_pumping h, hx]

/-- R137: the coast of a TRANSFER that is over. -/
def TransferWork.over (s : State) (w : TransferWork) : Bool := w.coasting && coastEnds s.settings.fuel.coastS w

theorem over_counted (h : w.coasting = false) (s : State) : (w.counted s).over s = false := by
  simp [TransferWork.over, TransferWork.counted, h]

theorem over_stopped (w : TransferWork) (x : OrderResult) (s : State) :
    (w.stopped x).over s = decide (s.settings.fuel.coastS ≤ 0) := by
  simp [TransferWork.over, TransferWork.stopped, coastEnds]

/-- Log entry 17: a coast begun between two intervals is a second shorter at each. -/
theorem over_later (h : w.coasting = true) (s : State) : w.later.over s =
    decide (s.settings.fuel.coastS ≤ if w.stopBetween then (w.sinceStop : Int) else w.sinceStop + 1) := by
  cases hb : w.stopBetween <;> simp [TransferWork.over, TransferWork.later, coastEnds, h, hb]

theorem testTransfer_eq (h : s.transferOrder = some (i, o, w)) : testTransfer s =
    if (transferNext s w).over s then completeOrder i ⟨(transferNext s w).result.getD .done, none, 0, (transferNext s w).moved⟩
      (s.setWork i (.transfer (transferNext s w)))
    else s.setWork i (.transfer (transferNext s w)) := by
  simp only [testTransfer, h]
  rfl

theorem testTransfer_none (h : s.transferOrder = none) : testTransfer s = s := by
  simp only [testTransfer, h]

theorem testBunker_none (h : s.bunkerOrder = none) : testBunker s = s := by
  simp only [testBunker, h]

theorem testBunker_aborting (h : s.bunkerOrder = some (i, o, b)) (ho : o.state = .aborting) :
    testBunker s = completeOrder i ⟨.aborted, none, 0, b.volume⟩ s := by
  simp only [testBunker, h, ho, if_true]

/-- R140: an ACTIVE BUNKER that a test ends. -/
theorem testBunker_ends {x : OrderResult} (h : s.bunkerOrder = some (i, o, b)) (ho : o.state ≠ .aborting)
    (hx : bunkerStop s (b.counted s) = some x) :
    testBunker s = completeOrder i ⟨x, none, 0, b.volume⟩ (s.setWork i (.bunker (b.counted s))) := by
  have hstop : bunkerStop (s.setWork i (.bunker (b.counted s))) (b.counted s) = some x := hx
  simp only [BunkerWork.counted] at hstop
  simp only [testBunker, h, ho, if_false, hstop, BunkerWork.counted]

/-- R140: an ACTIVE BUNKER that no test ends. -/
theorem testBunker_goesOn (h : s.bunkerOrder = some (i, o, b)) (ho : o.state ≠ .aborting) (hx : bunkerStop s (b.counted s) = none) :
    testBunker s = s.setWork i (.bunker (b.counted s)) := by
  have hstop : bunkerStop (s.setWork i (.bunker (b.counted s))) (b.counted s) = none := hx
  simp only [BunkerWork.counted] at hstop
  simp only [testBunker, h, ho, if_false, hstop, BunkerWork.counted]

/-! #### R167: the completion of an order that works -/

/-- R167: an order that works and completes: its report, the scan of its arbiter, the reports of its tanks. -/
theorem completeOrder_working (ho : s.orders.slots[i] = some o) (hw : o.working = true) (hr : o.resource = some r) (c : Completion) :
    completeOrder i c s = o.work.tanks.foldl (fun u n => tankReportOf n u) (grantScan r (s.orderDone i o c)) := by
  simp only [completeOrder, ho, hr, hw, if_true]
  rfl

theorem setWork_setSlot (s : State) (i : Fin 16) (x : Work) : (s.setWork i x).setSlot i none = s.setSlot i none := by
  simp [State.setWork, State.setSlot, State.onOrders]

theorem setWork_orderDone (s : State) (i : Fin 16) (x : Work) (c : Completion) :
    (s.setWork i x).orderDone i { o with work := x } c = s.orderDone i { o with work := x } c := by
  rw [State.orderDone, setWork_setSlot]
  rfl

/-- R137, R167: the coast of a TRANSFER ends. -/
theorem testTransfer_completes (h : s.transferOrder = some (i, o, w)) (hr : o.resource = some .pump)
    (hover : (transferNext s w).over s = true) : testTransfer s =
      [(transferNext s w).source, (transferNext s w).dest].foldl (fun u n => tankReportOf n u)
        (grantScan .pump (s.orderDone i { o with work := .transfer (transferNext s w) }
          ⟨(transferNext s w).result.getD .done, none, 0, (transferNext s w).moved⟩)) := by
  obtain ⟨hslot, -, hworks⟩ := transferOrder_some h
  have hslot' : (s.setWork i (.transfer (transferNext s w))).orders.slots[i] = some { o with work := .transfer (transferNext s w) } := by
    rw [setWork_same, hslot]
    rfl
  rw [testTransfer_eq h, if_pos hover, completeOrder_working hslot' hworks hr, setWork_orderDone]
  rfl

theorem doneBody_transfer (w : TransferWork) (x : OrderResult) (v : Int) : (Work.transfer w).doneBody ⟨x, none, 0, v⟩ =
    [3] ++ unsigned 1 x.code ++ unsigned 1 w.source ++ unsigned 1 w.dest ++ [0, 0, 0] ++ [0] ++ signed 8 v := by
  have hcode : unsigned 1 (Work.transfer w).code = [3] := rfl
  have htension : optional 2 (unsigned 2) none = [0, 0, 0] := rfl
  have hcast : unsigned 1 0 = [0] := rfl
  simp only [Work.doneBody, Work.target, hcode, htension, hcast, List.append_assoc]

theorem doneBody_bunker (b : BunkerWork) (x : OrderResult) (v : Int) : (Work.bunker b).doneBody ⟨x, none, 0, v⟩ =
    [4] ++ unsigned 1 x.code ++ unsigned 1 b.dest ++ [0] ++ [0, 0, 0] ++ [0] ++ signed 8 v := by
  have hcode : unsigned 1 (Work.bunker b).code = [4] := rfl
  have htension : optional 2 (unsigned 2) none = [0, 0, 0] := rfl
  have hcast : unsigned 1 0 = [0] := rfl
  simp only [Work.doneBody, Work.target, hcode, htension, hcast, List.append_assoc]

/-! #### R164: an order that works stands while others end and start -/

/-- R164: a start touches no order that works. -/
theorem settle_standing (hq : q.working = true) : SettleKeeps (fun _ => True) (fun u => u.orders.slots[i] = some q) := by
  have other {u : State} {j : Fin 16} {p : Order} (hu : u.orders.slots[i] = some q) (hj : u.orders.slots[j] = some p)
      (hp : p.working = false) : i ≠ j := fun he => by
    subst he
    obtain rfl := Option.some.inj (hu.symm.trans hj)
    exact absurd (hq.symm.trans hp) (by decide)
  exact {
    report := fun _ _ _ h => by simpa using h
    requeued := fun _ _ _ hj hp h => (setSlot_other _ _ (other h hj hp)).trans h
    started := fun _ _ hj hp h => (setLast_setSlot (other h hj hp)).trans h
    command := fun _ _ _ h => h
    coupling := fun _ _ _ _ h => by simpa using h
    due := fun _ h => h
    analysed := fun h => by simpa using h }

theorem completeOrder_standing (hq : q.working = true) (hij : i ≠ j) (h : s.orders.slots[i] = some q) (c : Completion) :
    (completeOrder j c s).orders.slots[i] = some q := by
  have keeps := (settle_standing (i := i) hq).toStartKeeps
  have tanks (l : List Nat) (v : State) (hv : v.orders.slots[i] = some q) :
      (l.foldl (fun s n => tankReportOf n s) v).orders.slots[i] = some q :=
    forAll_induct (P := fun u => u.orders.slots[i] = some q) l (fun n s => tankReportOf n s) v
      (fun n _ _ hu => keeps.tankReportOf n hu) hv
  cases hj : s.orders.slots[j] with
  | none => simpa only [completeOrder, hj] using h
  | some p =>
    simp only [completeOrder, hj]
    have hdone : (orderDoneReport p c (s.setSlot j none)).orders.slots[i] = some q :=
      keeps.report _ _ _ ((setSlot_other s none hij).trans h)
    refine tanks _ _ ?_
    split
    · exact keeps_ite (P := fun u => u.orders.slots[i] = some q) (keeps.grantScan _ hdone) hdone
    · exact hdone

/-- The order of another slot, after the figures of one were written over. -/
theorem setWork_standing (hij : i ≠ j) (h : s.orders.slots[i] = some q) (x : Work) : (s.setWork j x).orders.slots[i] = some q :=
  (setWork_other s x hij).trans h

/-- R125, step 6: the test of a BUNKER leaves every other order that works. -/
theorem testBunker_standing (hq : q.working = true) (hwork : q.work.bunker? = none) (h : s.orders.slots[i] = some q) :
    (testBunker s).orders.slots[i] = some q := by
  cases hb : s.bunkerOrder with
  | none => rwa [testBunker_none hb]
  | some x =>
    obtain ⟨j, o, b⟩ := x
    obtain ⟨hslot, hw, -⟩ := bunkerOrder_some hb
    have hij : i ≠ j := fun he => by
      subst he
      obtain rfl := Option.some.inj (h.symm.trans hslot)
      simp [hw, Work.bunker?] at hwork
    by_cases ho : o.state = .aborting
    · rw [testBunker_aborting hb ho]
      exact completeOrder_standing hq hij h _
    · cases hx : bunkerStop s (b.counted s) with
      | none =>
        rw [testBunker_goesOn hb ho hx]
        exact setWork_standing hij h _
      | some x =>
        rw [testBunker_ends hb ho hx]
        exact completeOrder_standing hq hij (setWork_standing hij h _) _

/-- Log entry 8: the end of a command leaves every order that works. -/
theorem finish_standing (hq : q.working = true) (h : s.orders.slots[i] = some q) : (finish s).orders.slots[i] = some q := by
  have hsettled : (settle s).orders.slots[i] = some q := (settle_standing hq).settle h
  have hend : (finish s).orders = (settle s).orders := by simp [finish]
  rw [hend, hsettled]

/-- R125, step 7: what follows the tests of the orders leaves every order that works. -/
theorem afterTests_standing (hq : q.working = true) (h : s.orders.slots[i] = some q) :
    (finish (fcapRecompute (forAll allTanks tankTests s))).orders.slots[i] = some q := by
  have hpass : (fcapRecompute (forAll allTanks tankTests s)).orders = s.orders := by simp
  exact finish_standing hq (by rw [hpass, h])

/-- R125, step 7: a slot that is free stays free. -/
theorem afterTests_free (h : s.orders.slots[i] = none) :
    (finish (fcapRecompute (forAll allTanks tankTests s))).orders.slots[i] = none := by
  have hpass : (fcapRecompute (forAll allTanks tankTests s)).orders = s.orders := by simp
  exact (kept_finish (.refl _)).slot_none (by rw [hpass, h])

/-! #### R160: a test of the TRANSFER starts no BUNKER -/

/-- R160: the resource of each live order is that of its kind. -/
def State.needed (s : State) : Prop := ∀ (i : Fin 16) (o : Order), s.orders.slots[i] = some o → o.work.needs o.resource

theorem needed_of_ordersOk (h : OrdersOk s) : s.needed := by
  obtain ⟨-, -, hneeds⟩ := h
  exact hneeds

theorem needed_of_orders (h : s.needed) (ht : t.orders = s.orders) : t.needed := fun i o ho => h i o (ht ▸ ho)

theorem needed_setWork (h : s.needed) {x : Work} (hx : ∀ o, s.orders.slots[i] = some o → x.needs o.resource) :
    (s.setWork i x).needed := fun j p hp => by
  by_cases hj : j = i
  · subst hj
    rw [setWork_same] at hp
    obtain ⟨o, ho, rfl⟩ := Option.map_eq_some_iff.1 hp
    exact hx o ho
  · rw [setWork_other s x hj] at hp
    exact h j p hp

theorem needed_free (h : s.needed) (i : Fin 16) : (s.setSlot i none).needed := fun j p hp => by
  by_cases hj : j = i
  · subst hj
    rw [setSlot_same] at hp
    cases hp
  · rw [setSlot_other s none hj] at hp
    exact h j p hp

/-- R160: the pump's scan starts no BUNKER. -/
theorem grantScan_pump_bunkerIn (h : s.needed) (j : Fin 16) :
    workIn Work.bunker? j (grantScan .pump s).orders.slots[j] = workIn Work.bunker? j s.orders.slots[j] := by
  unfold grantScan
  split
  · rfl
  split
  next m hm =>
    by_cases hj : j = m
    · subst hj
      have hfound : s.qualifies .pump j = true := List.find?_some hm
      obtain ⟨p, hp, hqual⟩ := (Option.any_eq_true _ _).1 hfound
      have hr : p.resource = some .pump := by
        simp only [Bool.and_eq_true, beq_iff_eq] at hqual
        obtain ⟨⟨-, hr⟩, -⟩ := hqual
        exact hr
      have hkind : p.work.bunker? = none := by
        have hneeds := h j p hp
        cases hw : p.work with
        | bunker b => simp [hw, hr, Work.needs] at hneeds
        | _ => rfl
      rw [startOrder_same hp, hp, workIn_other hkind]
      exact workIn_other hkind
    · rw [startOrder_other hj]
  next => rfl

theorem tankReports_orders (l : List Nat) (s : State) : (l.foldl (fun u n => tankReportOf n u) s).orders = s.orders :=
  forAll_induct (P := fun u => u.orders = s.orders) l (fun n u => tankReportOf n u) s (fun n _ u hu => by simpa using hu) rfl

/-- R125, step 6: the test of the TRANSFER leaves every BUNKER. -/
theorem testTransfer_bunkerIn (h : s.needed) (j : Fin 16) :
    workIn Work.bunker? j (testTransfer s).orders.slots[j] = workIn Work.bunker? j s.orders.slots[j] := by
  cases ht : s.transferOrder with
  | none => rw [testTransfer_none ht]
  | some x =>
    obtain ⟨i, o, w⟩ := x
    obtain ⟨hslot, hw, hworks⟩ := transferOrder_some ht
    have hkind : o.work.bunker? = none := by rw [hw]; rfl
    by_cases hover : (transferNext s w).over s = true
    · have hr : o.resource = some .pump := by
        have hneeds := h i o hslot
        rwa [hw] at hneeds
      rw [testTransfer_completes ht hr hover, tankReports_orders,
        grantScan_pump_bunkerIn (needed_of_orders (needed_free h i) (by simp [State.orderDone]))]
      have hreport {x : Order} {c : Completion} : (s.orderDone i x c).orders = (s.setSlot i none).orders := by simp [State.orderDone]
      by_cases hj : j = i
      · subst hj
        rw [hslot, workIn_other hkind, hreport, setSlot_same]
        rfl
      · rw [hreport, setSlot_other s none hj]
    · rw [testTransfer_eq ht, if_neg hover]
      exact workIn_setWork hslot hkind rfl j

theorem testTransfer_bunkerOrder (h : s.needed) : (testTransfer s).bunkerOrder = s.bunkerOrder := by
  rw [bunkerOrder_eq, bunkerOrder_eq]
  exact workOn_congr (testTransfer_bunkerIn h)

/-! #### R136, R139: the orders after the bookings -/

theorem workOn_setWork {α : Type} {kind : Work → Option α} {x y : α} {z : Work} (h : s.workOn kind = some (i, o, x))
    (hu : u.orders = s.orders) (hy : kind z = some y) : (u.setWork i z).workOn kind = some (i, { o with work := z }, y) := by
  obtain ⟨m, -, hm⟩ := List.exists_of_findSome?_eq_some h
  obtain ⟨rfl, hslot, hworks, -⟩ := workIn_slot hm
  refine workOn_replaced h (fun j hj => ?_) ?_ hworks hy
  · rw [setWork_other u z hj, hu]
  · rw [setWork_same, hu, hslot]
    rfl

theorem bookTransfer_transferOrder (h : s.transferOrder = some (i, o, w)) : (bookTransfer s).transferOrder =
    some (i, { o with work := .transfer (w.plus s.fuel.meters[transferMeter].lastVolume) },
      w.plus s.fuel.meters[transferMeter].lastVolume) := by
  rw [bookTransfer_some h, transferOrder_eq]
  exact workOn_setWork ((transferOrder_eq s).symm.trans h) (by simp) rfl

theorem bookBunker_bunkerOrder (h : s.bunkerOrder = some (i, o, b)) : (bookBunker s).bunkerOrder =
    some (i, { o with work := .bunker (b.plus s.fuel.meters[bunkerMeter].lastVolume) },
      b.plus s.fuel.meters[bunkerMeter].lastVolume) := by
  rw [bookBunker_some h, bunkerOrder_eq]
  exact workOn_setWork (u := takeFromTank b.dest (-s.fuel.meters[bunkerMeter].lastVolume) s) ((bunkerOrder_eq s).symm.trans h)
    (by simp) rfl

/-- R139: the booking of a bunkering leaves the TRANSFER. -/
theorem bookBunker_transferOrder (s : State) : (bookBunker s).transferOrder = s.transferOrder := by
  cases h : s.bunkerOrder with
  | none => rw [bookBunker_none h]; rfl
  | some x =>
    obtain ⟨i, o, b⟩ := x
    obtain ⟨hslot, hwork, -⟩ := bunkerOrder_some h
    rw [bookBunker_some h, transferOrder_eq, transferOrder_eq]
    refine workOn_congr fun j => ?_
    have htaken : (takeFromTank b.dest (-s.fuel.meters[bunkerMeter].lastVolume) s).orders = s.orders := by simp
    rw [← htaken]
    exact workIn_setWork (o := o) (by rw [htaken, hslot]) (by rw [hwork]; rfl) rfl j

end Sys2Proof.Machine
end

section
/-! ### O56: an interval ends its orders -/

namespace Sys2Proof.Machine

variable {s t u : State} {i j : Fin 16} {o : Order} {src dst : Fin 8} {w : TransferWork} {b : BunkerWork}
  {v : Vector (Option Int) 10}

/-! #### The orders and the account after the bookings -/

theorem consumed_orders (v : Vector (Option Int) 10) (s : State) : (s.consumed v).orders = s.orders := by
  obtain ⟨horders, -⟩ := measured_frame v s
  rw [← horders]
  simp [State.consumed]

theorem consumed_meters (v : Vector (Option Int) 10) (s : State) : (s.consumed v).fuel.meters = (s.booked v).fuel.meters := by
  have hmeters := (booked_accounted v s).meters
  rw [hmeters, State.consumed]
  generalize s.measured v = x
  obtain ⟨hpass, -⟩ := bookEngines_all x
  exact hpass.meters

theorem bookTransfer_meters (s : State) : (bookTransfer s).fuel.meters = s.fuel.meters := by
  obtain ⟨_, _, hfuel, -⟩ := bookTransfer_figures s
  rw [hfuel]

theorem booked_transferOrder (h : s.transferOrder = some (i, o, w)) (v : Vector (Option Int) 10) :
    let x := (s.booked v).fuel.meters[transferMeter].lastVolume
    (s.booked v).transferOrder = some (i, { o with work := .transfer (w.plus x) }, w.plus x) := by
  have horder := (workOrders_congr (consumed_orders v s)).1.trans h
  have hmeters := consumed_meters v s
  rw [← hmeters]
  rw [State.booked, bookBunker_transferOrder, bookTransfer_transferOrder horder]

theorem booked_bunkerOrder (h : s.bunkerOrder = some (i, o, b)) (v : Vector (Option Int) 10) :
    let x := (s.booked v).fuel.meters[bunkerMeter].lastVolume
    (s.booked v).bunkerOrder = some (i, { o with work := .bunker (b.plus x) }, b.plus x) := by
  have horder := (bookTransfer_bunkerOrder (s.consumed v)).trans ((workOrders_congr (consumed_orders v s)).2.trans h)
  have hmeters := (bookTransfer_meters (s.consumed v)).trans (consumed_meters v s)
  rw [← hmeters]
  rw [State.booked, bookBunker_bunkerOrder horder]

theorem bookTransfer_needed (h : s.needed) : (bookTransfer s).needed := by
  cases ht : s.transferOrder with
  | none =>
    rw [bookTransfer_none ht]
    exact needed_of_orders h rfl
  | some x =>
    obtain ⟨i, o, w⟩ := x
    obtain ⟨hslot, hwork, -⟩ := transferOrder_some ht
    rw [bookTransfer_some ht]
    refine needed_setWork (needed_of_orders h (by simp)) fun p hp => ?_
    obtain rfl : o = p := Option.some.inj (hslot.symm.trans (by simpa using hp))
    simpa [hwork, Work.needs] using h i o hslot

theorem bookBunker_needed (h : s.needed) : (bookBunker s).needed := by
  cases hb : s.bunkerOrder with
  | none =>
    rw [bookBunker_none hb]
    exact needed_of_orders h rfl
  | some x =>
    obtain ⟨i, o, b⟩ := x
    obtain ⟨hslot, hwork, -⟩ := bunkerOrder_some hb
    rw [bookBunker_some hb]
    have htaken : (takeFromTank b.dest (-s.fuel.meters[bunkerMeter].lastVolume) s).needed := needed_of_orders h (by simp)
    refine needed_of_orders (needed_setWork htaken fun p hp => ?_) rfl
    obtain rfl : o = p := Option.some.inj (hslot.symm.trans (by simpa using hp))
    simpa [hwork, Work.needs] using h i o hslot

theorem booked_needed (h : s.needed) (v : Vector (Option Int) 10) : (s.booked v).needed :=
  bookBunker_needed (bookTransfer_needed (needed_of_orders h (consumed_orders v s)))

/-- The account `u` at the tests of an interval from `s` is the account that the interval leaves in `t`. -/
structure AtTests (s u t : State) : Prop where
  book : ∀ k : Fin 8, u.fuel.tanks[k].book = t.fuel.tanks[k].book
  meters : u.fuel.meters = t.fuel.meters
  settings : u.settings = t.settings
  lastCount : ∀ m : Fin 10, u.fuel.meters[m].lastCount = s.fuel.meters[m].count

theorem atTests (v : Vector (Option Int) 10) (s : State) : AtTests s (s.booked v) (accountingInterval v s) := by
  have htests := interval_tested v s
  have hmeter := interval_meter v s
  have hset := (booked_settings v s).trans (interval_settings v s).symm
  generalize accountingInterval v s = t at *
  generalize s.booked v = u at *
  exact {
    book := fun k => by rw [htests.tanks k, tested_book]
    meters := htests.meters.symm
    settings := hset
    lastCount := fun m => by rw [← htests.meters, hmeter m]; rfl }

theorem bookAt_congr (h : ∀ k : Fin 8, u.fuel.tanks[k].book = t.fuel.tanks[k].book) (n : Nat) : u.bookAt n = t.bookAt n := by
  unfold State.bookAt
  split
  · exact h _
  · rfl

theorem destFull_congr (h : ∀ k : Fin 8, u.fuel.tanks[k].book = t.fuel.tanks[k].book) (hs : u.settings = t.settings) (n : Nat) :
    u.destFull n = t.destFull n := by
  rw [State.destFull, State.destFull, bookAt_congr h, hs]

/-- R136: the stop tests are tests of the books and the settings. -/
theorem transferStop_congr (h : ∀ k : Fin 8, u.fuel.tanks[k].book = t.fuel.tanks[k].book) (hs : u.settings = t.settings)
    (w : TransferWork) : transferStop u w = transferStop t w := by
  simp only [transferStop, bookAt_congr h, destFull_congr h hs, hs]

/-- R140: and so are those of a BUNKER. -/
theorem bunkerStop_congr (h : ∀ k : Fin 8, u.fuel.tanks[k].book = t.fuel.tanks[k].book) (hs : u.settings = t.settings)
    (b : BunkerWork) : bunkerStop u b = bunkerStop t b := by
  simp only [bunkerStop, destFull_congr h hs, hs]

/-- R136: a TRANSFER with the volume of an interval from `s` to `t`, and its intervals without a pulse. -/
def TransferWork.moving (w : TransferWork) (s t : State) : TransferWork := { w with
  moved := fitNat64 (w.moved + t.fuel.meters[transferMeter].lastVolume)
  noFlow := silentFor s.fuel.meters[transferMeter].count w.noFlow }

/-- R139, R140: a BUNKER with the volume of an interval from `s` to `t`, and its intervals without a pulse. -/
def BunkerWork.taking (b : BunkerWork) (s t : State) : BunkerWork := { b with
  volume := fitNat64 (b.volume + t.fuel.meters[bunkerMeter].lastVolume)
  silence := silentFor s.fuel.meters[bunkerMeter].count b.silence }

theorem AtTests.moving (h : AtTests s u t) (w : TransferWork) :
    (w.plus u.fuel.meters[transferMeter].lastVolume).counted u = w.moving s t := by
  rw [TransferWork.counted, h.lastCount, h.meters]
  rfl

theorem AtTests.taking (h : AtTests s u t) (b : BunkerWork) :
    (b.plus u.fuel.meters[bunkerMeter].lastVolume).counted u = b.taking s t := by
  rw [BunkerWork.counted, h.lastCount, h.meters]
  rfl

/-! #### The slot of an order that worked -/

/-- R136, R137: the slot of the working TRANSFER after the interval. -/
theorem interval_transferSlot (h : (s.booked v).transferOrder = some (i, o, w)) : (accountingInterval v s).orders.slots[i] =
    if (transferNext (s.booked v) w).over (s.booked v) then none
    else some { o with work := .transfer (transferNext (s.booked v) w) } := by
  rw [accountingInterval_eq, State.ended]
  generalize s.booked v = u at *
  obtain ⟨hslot, -, hworks⟩ := transferOrder_some h
  have hset : (u.setWork i (.transfer (transferNext u w))).orders.slots[i] = some { o with work := .transfer (transferNext u w) } := by
    rw [setWork_same, hslot]
    rfl
  have htest := testTransfer_eq h
  split
  next hover =>
    rw [if_pos hover] at htest
    have hfree := htest ▸ completeOrder_slot hset
    exact afterTests_free ((kept_testBunker (.refl (testTransfer u))).slot_none hfree)
  next hover =>
    rw [if_neg hover] at htest
    exact afterTests_standing hworks (testBunker_standing hworks rfl (htest ▸ hset))

/-- R140, R141: the slot of the working BUNKER after the interval. -/
theorem interval_bunkerSlot (hn : s.needed) (h : (s.booked v).bunkerOrder = some (i, o, b)) :
    (o.state = .aborting ∨ bunkerStop (s.booked v) (b.counted (s.booked v)) ≠ none → (accountingInterval v s).orders.slots[i] = none) ∧
    (o.state ≠ .aborting → bunkerStop (s.booked v) (b.counted (s.booked v)) = none → (accountingInterval v s).orders.slots[i] =
      some { o with work := .bunker (b.counted (s.booked v)) }) := by
  have hneeded := booked_needed hn v
  rw [accountingInterval_eq, State.ended]
  generalize s.booked v = u at *
  have horder := (testTransfer_bunkerOrder hneeded).trans h
  have hfuel : (testTransfer u).fuel = u.fuel := by simp
  have hsettings : (testTransfer u).settings = u.settings := by simp [settings_eq]
  have hcounted : b.counted (testTransfer u) = b.counted u := by simp only [BunkerWork.counted, hfuel]
  have hstop : bunkerStop (testTransfer u) (b.counted (testTransfer u)) = bunkerStop u (b.counted u) := by
    rw [hcounted, bunkerStop_congr (fun k => by rw [hfuel]) hsettings]
  generalize testTransfer u = z at *
  obtain ⟨hslot, -, hworks⟩ := bunkerOrder_some horder
  have hset : (z.setWork i (.bunker (b.counted z))).orders.slots[i] = some { o with work := .bunker (b.counted z) } := by
    rw [setWork_same, hslot]
    rfl
  constructor
  · intro hends
    refine afterTests_free ?_
    by_cases ho : o.state = .aborting
    · rw [testBunker_aborting horder ho]
      exact completeOrder_slot hslot
    · obtain ⟨x, hx⟩ := Option.ne_none_iff_exists'.1 (hends.resolve_left ho)
      rw [testBunker_ends horder ho (hstop.trans hx)]
      exact completeOrder_slot hset
  · intro ho hx
    rw [← hcounted]
    refine afterTests_standing hworks ?_
    rw [testBunker_goesOn horder ho (hstop.trans hx), hset]

/-! #### R136, R137: the TRANSFER -/

/-- R136: a pumping TRANSFER that no test stops goes on. -/
theorem interval_pumping_goesOn (h : s.transferOrder = some (i, o, w)) (hc : w.coasting = false)
    (hx : transferStop (accountingInterval v s) (w.moving s (accountingInterval v s)) = none) :
    (accountingInterval v s).orders.slots[i] = some { o with work := .transfer (w.moving s (accountingInterval v s)) } := by
  have hslot := interval_transferSlot (booked_transferOrder h v)
  have hat := atTests v s
  generalize accountingInterval v s = t at *
  generalize s.booked v = u at *
  rw [← transferStop_congr hat.book hat.settings, ← hat.moving] at hx
  have hpumping (x : Int) : (w.plus x).coasting = false := hc
  rw [transferNext_goesOn (hpumping _) hx, over_counted (hpumping _), hat.moving] at hslot
  exact hslot

/-- R136, R137: a pumping TRANSFER that a test stops coasts on, or completes at once where no time is set. -/
theorem interval_pumping_stops {x : OrderResult} (h : s.transferOrder = some (i, o, w)) (hc : w.coasting = false)
    (hx : transferStop (accountingInterval v s) (w.moving s (accountingInterval v s)) = some x) :
    (accountingInterval v s).orders.slots[i] = if s.settings.fuel.coastS ≤ 0 then none
      else some { o with work := .transfer ((w.moving s (accountingInterval v s)).stopped x) } := by
  have hslot := interval_transferSlot (booked_transferOrder h v)
  have hat := atTests v s
  have hset := interval_settings v s
  generalize accountingInterval v s = t at *
  generalize s.booked v = u at *
  rw [← transferStop_congr hat.book hat.settings, ← hat.moving] at hx
  have hpumping (x : Int) : (w.plus x).coasting = false := hc
  rw [transferNext_stops (hpumping _) hx, over_stopped, hat.moving, hat.settings, hset] at hslot
  simpa only [decide_eq_true_eq] using hslot

/-- R137: a coasting TRANSFER completes, or coasts on. -/
theorem interval_coasting (h : s.transferOrder = some (i, o, w)) (hc : w.coasting = true) (v : Vector (Option Int) 10) :
    (accountingInterval v s).orders.slots[i] =
      if s.settings.fuel.coastS ≤ (if w.stopBetween then (w.sinceStop : Int) else w.sinceStop + 1) then none
      else some { o with work := .transfer (w.plus (accountingInterval v s).fuel.meters[transferMeter].lastVolume).later } := by
  have hslot := interval_transferSlot (booked_transferOrder h v)
  have hat := atTests v s
  have hset := interval_settings v s
  generalize accountingInterval v s = t at *
  generalize s.booked v = u at *
  have hcoasting (x : Int) : (w.plus x).coasting = true := hc
  rw [transferNext_coasting (hcoasting _), over_later (hcoasting _), hat.settings, hset, hat.meters] at hslot
  simp only [decide_eq_true_eq] at hslot
  exact hslot

/-- R137: a coasting TRANSFER whose coast ends at this interval. -/
theorem testTransfer_coastEnds (hn : s.needed) (h : s.transferOrder = some (i, o, w)) (hc : w.coasting = true)
    (hend : s.settings.fuel.coastS ≤ if w.stopBetween then (w.sinceStop : Int) else w.sinceStop + 1) : testTransfer s =
      tankReportOf w.dest (tankReportOf w.source (grantScan .pump (report .orderDone (.tag o.tag)
        ([3] ++ unsigned 1 (w.result.getD .done).code ++ unsigned 1 w.source ++ unsigned 1 w.dest ++ [0, 0, 0] ++ [0] ++
          signed 8 w.moved) (s.setSlot i none)))) := by
  obtain ⟨hslot, hwork, -⟩ := transferOrder_some h
  have hr : o.resource = some .pump := by
    have hneeds := hn i o hslot
    rwa [hwork] at hneeds
  have hover : w.later.over s = true := (over_later hc s).trans (decide_eq_true hend)
  have hnext := transferNext_coasting hc s
  have htest := testTransfer_completes h hr (hnext ▸ hover)
  rw [hnext, State.orderDone, doneBody_transfer] at htest
  exact htest

/-! #### R140, R141: the BUNKER -/

/-- R167: the end of a BUNKER, with its result. -/
theorem completeOrder_bunker (hn : s.needed) (hslot : s.orders.slots[i] = some o) (hwork : o.work = .bunker b)
    (hworks : o.working = true) (x : OrderResult) {code : Byte} (hcode : unsigned 1 x.code = [code]) :
    completeOrder i ⟨x, none, 0, b.volume⟩ s = tankReportOf b.dest (grantScan .bunkerMeter (report .orderDone (.tag o.tag)
      ([4, code] ++ unsigned 1 b.dest ++ [0] ++ [0, 0, 0] ++ [0] ++ signed 8 b.volume) (s.setSlot i none))) := by
  have hr : o.resource = some .bunkerMeter := by
    have hneeds := hn i o hslot
    rwa [hwork] at hneeds
  rw [completeOrder_working hslot hworks hr, State.orderDone, hwork, doneBody_bunker, hcode]
  rfl

/-- R140, R167: an ACTIVE BUNKER that a test ends, with its result. -/
theorem testBunker_completes (hn : s.needed) (h : s.bunkerOrder = some (i, o, b)) (ho : o.state = .active) {x : OrderResult}
    (hx : bunkerStop s (b.counted s) = some x) {code : Byte} (hcode : unsigned 1 x.code = [code]) :
    testBunker s = tankReportOf b.dest (grantScan .bunkerMeter (report .orderDone (.tag o.tag)
      ([4, code] ++ unsigned 1 b.dest ++ [0] ++ [0, 0, 0] ++ [0] ++ signed 8 b.volume) (s.setSlot i none))) := by
  obtain ⟨hslot, hwork, hworks⟩ := bunkerOrder_some h
  have hset : (s.setWork i (.bunker (b.counted s))).orders.slots[i] = some { o with work := .bunker (b.counted s) } := by
    rw [setWork_same, hslot]
    rfl
  have hneeded : (s.setWork i (.bunker (b.counted s))).needed := needed_setWork hn fun p hp => by
    obtain rfl : o = p := Option.some.inj (hslot.symm.trans hp)
    simpa [hwork, Work.needs] using hn i o hslot
  have hend := completeOrder_bunker hneeded hset rfl hworks x hcode
  rw [setWork_setSlot] at hend
  rw [testBunker_ends h (by simp [ho]) hx]
  exact hend

/-- R140: a test ends a BUNKER where its tank is full, where it has come to an end, or where none has come in time. -/
theorem bunkerStop_isSome (hdst : b.dest = dst.val + 1) : bunkerStop s b ≠ none ↔
    s.settings.fuel.capacityL[dst] * 1000000 ≤ s.fuel.tanks[dst].book ∨ b.volume ≠ 0 ∧ s.settings.fuel.bunkerEndS ≤ b.silence ∨
      b.volume = 0 ∧ s.settings.fuel.bunkerWaitS ≤ b.silence := by
  rw [bunkerStop_number hdst]
  split
  next hfull => exact iff_of_true (by simp) (.inl hfull)
  next hfull =>
    split
    next hend => exact iff_of_true (by simp) (.inr (.inl hend))
    next hend =>
      split
      next hwait => exact iff_of_true (by simp) (.inr (.inr hwait))
      next hwait => exact iff_of_false (by simp) fun h => h.elim hfull (·.elim hend hwait)

/-- R141: an ABORTING BUNKER completes. -/
theorem interval_bunker_aborting (hn : s.needed) (h : s.bunkerOrder = some (i, o, b)) (ho : o.state = .aborting)
    (v : Vector (Option Int) 10) : (accountingInterval v s).orders.slots[i] = none := by
  obtain ⟨hends, -⟩ := interval_bunkerSlot hn (booked_bunkerOrder h v)
  exact hends (.inl ho)

/-- R140: an ACTIVE BUNKER that a test ends completes. -/
theorem interval_bunker_ends (hn : s.needed) (h : s.bunkerOrder = some (i, o, b))
    (hx : bunkerStop (accountingInterval v s) (b.taking s (accountingInterval v s)) ≠ none) :
    (accountingInterval v s).orders.slots[i] = none := by
  obtain ⟨hends, -⟩ := interval_bunkerSlot hn (booked_bunkerOrder h v)
  have hat := atTests v s
  generalize accountingInterval v s = t at *
  generalize s.booked v = u at *
  rw [← bunkerStop_congr hat.book hat.settings, ← hat.taking] at hx
  exact hends (.inr hx)

/-- R140: an ACTIVE BUNKER that no test ends goes on. -/
theorem interval_bunker_goesOn (hn : s.needed) (h : s.bunkerOrder = some (i, o, b)) (ho : o.state = .active)
    (hx : bunkerStop (accountingInterval v s) (b.taking s (accountingInterval v s)) = none) :
    (accountingInterval v s).orders.slots[i] = some { o with work := .bunker (b.taking s (accountingInterval v s)) } := by
  obtain ⟨-, hgoesOn⟩ := interval_bunkerSlot hn (booked_bunkerOrder h v)
  have hat := atTests v s
  generalize accountingInterval v s = t at *
  generalize s.booked v = u at *
  rw [← bunkerStop_congr hat.book hat.settings, ← hat.taking] at hx
  rw [← hat.taking]
  exact hgoesOn (by simp [ho]) hx

theorem silentFor_cast (count n : Nat) : (silentFor count n : Int) = if count = 0 then (n : Int) + 1 else 0 := by
  unfold silentFor
  split <;> simp

/-- R139: what the working BUNKER adds to the bunkered total. -/
theorem interval_bunkered (h : s.bunkerOrder = some (i, o, b)) (v : Vector (Option Int) 10) : (accountingInterval v s).fuel.bunkered =
    fitNat64 (s.fuel.bunkered + (accountingInterval v s).fuel.meters[bunkerMeter].lastVolume) := by
  have htests := interval_tested v s
  have hbooks := booked_accounted v s
  obtain ⟨horders, -⟩ := measured_frame v s
  obtain ⟨hfuel, -⟩ := measured_fuel s v
  have horder := (workOrders_congr horders).2.trans h
  generalize accountingInterval v s = t at *
  generalize s.booked v = u at *
  generalize s.measured v = x at *
  rw [htests.bunkered, hbooks.bunkered, horder, if_neg (by simp), htests.meters, hbooks.meters, hfuel]

/-- Settles O56: each slot by the test of its order, and what a completion queues and starts. -/
theorem intervalEndsItsOrders : Obligations.IntervalEndsItsOrders := by
  unfold Obligations.IntervalEndsItsOrders
  refine ⟨fun s v i o w src dst hup hord h hsrc hdst => ⟨_, exec_interval hup v, by simp [SameStores], ?_⟩,
    fun s i o w hord h hc hend => testTransfer_coastEnds (needed_of_ordersOk hord) h hc hend,
    fun s v i o b dst hup hord h hdst => ⟨_, exec_interval hup v, by simp [SameStores], ?_⟩, fun s i o b dst hord h hdst => ?_⟩
  · have hgoesOn := interval_pumping_goesOn (v := v) h
    have hstops {x : OrderResult} := interval_pumping_stops (v := v) (x := x) h
    have hcoasts (hc : w.coasting = true) := interval_coasting h hc v
    have hset := interval_settings v s
    have hstop := transferStop_number (w := w.moving s (accountingInterval v s)) hsrc hdst (accountingInterval v s)
    generalize accountingInterval v s = t at *
    rw [hset] at hstop
    intro p moved noFlow stop goesOn
    refine ⟨fun hc => ⟨fun hx => hgoesOn hc (hstop.trans hx), fun x hx hcoast => ?_, fun x hx hcoast => ?_⟩, fun hc => ?_⟩
    · exact (hstops hc (hstop.trans hx)).trans (if_neg (not_le.2 hcoast))
    · exact (hstops hc (hstop.trans hx)).trans (if_pos hcoast)
    · exact ⟨fun hend => (hcoasts hc).trans (if_pos hend), fun hgoes => (hcoasts hc).trans (if_neg (not_le.2 hgoes))⟩
  · have hn := needed_of_ordersOk hord
    have haborts (ho : o.state = .aborting) := interval_bunker_aborting hn h ho v
    have hends := interval_bunker_ends (v := v) hn h
    have hgoesOn := interval_bunker_goesOn (v := v) hn h
    have hbunkered := interval_bunkered h v
    have hset := interval_settings v s
    have hstop := bunkerStop_isSome (b := b.taking s (accountingInterval v s)) (s := accountingInterval v s) hdst
    generalize accountingInterval v s = t at *
    rw [hset] at hstop
    intro p volume silence ends
    refine ⟨hbunkered, haborts, fun ho => ⟨fun he => hends (hstop.2 he), fun hnone => hgoesOn ho (not_not.1 (mt hstop.1 hnone))⟩⟩
  · have hn := needed_of_ordersOk hord
    obtain ⟨hslot, hwork, hworks⟩ := bunkerOrder_some h
    intro p silence fills completes
    have hsilence : ((b.counted s).silence : Int) = silence := silentFor_cast _ b.silence
    have hstop : bunkerStop s (b.counted s) = if fills then some .destFull
        else if b.volume ≠ 0 ∧ p.bunkerEndS ≤ silence then some .done
        else if b.volume = 0 ∧ p.bunkerWaitS ≤ silence then some .noFlow else none := by
      rw [← hsilence, bunkerStop_number (b := b.counted s) (dst := dst) hdst]
      rfl
    refine ⟨fun ho => ?_, fun ho => ⟨fun hfull => ?_, fun ⟨hfull, hend⟩ => ?_, fun ⟨hfull, hwait⟩ => ?_⟩⟩
    · exact (testBunker_aborting h ho).trans (completeOrder_bunker hn hslot hwork hworks .aborted rfl)
    · rw [if_pos hfull] at hstop
      exact testBunker_completes hn h ho hstop rfl
    · rw [if_neg hfull, if_pos hend] at hstop
      exact testBunker_completes hn h ho hstop rfl
    · rw [if_neg hfull, if_neg (fun hend => hend.1 hwait.1), if_pos hwait] at hstop
      exact testBunker_completes hn h ho hstop rfl

end Sys2Proof.Machine
end
